-- ==== Sys2Proof/Word.lean ====
section
/-! DEFINITION. The byte of the host link, the one word of the C-640 that the manual handles as bits. -/

namespace Sys2Proof

/-- One byte on the host link (10 R172: 8 data bits). -/
abbrev Byte := BitVec 8

end Sys2Proof
end

