-- ==== Sys2Proof/Syntax.lean ====
section
/-! DEFINITION. The commands and events of the C-640: one constructor per row of spec/opcode_table.json.

Every row carries first the microseconds that passed since the row before it (log 1): the manual's timestamps, durations and
periods are measured between events, and the block's only inputs are these rows. -/

namespace Sys2Proof

/-- The two ends of the frame: the limit switches (R16) and the two senses of travel (R10, R28). -/
inductive Side where
  | ts  -- tending side, the low-position end
  | ds  -- drive side, the high-position end
  deriving DecidableEq, Repr

/-- The head channels that are counted by edges (R44). -/
inductive PulseChannel where
  | bw
  | mw
  | mr
  deriving DecidableEq, Repr

/-- The commands the host sends and the events at the part's inputs and timers. -/
inductive Instr where
  /-- GET_STATUS, R192. -/
  | getStatus (dt : Nat) (tag : Byte) (payload : List Byte)
  /-- GET_LINK, R193. -/
  | getLink (dt : Nat) (tag : Byte) (payload : List Byte)
  /-- RESTART, R197. -/
  | restart (dt : Nat) (tag : Byte) (payload : List Byte)
  /-- SET_FRAME, R1. -/
  | setFrame (dt : Nat) (tag : Byte) (payload : List Byte)
  /-- GET_FRAME, R3. -/
  | getFrame (dt : Nat) (tag : Byte) (payload : List Byte)
  /-- HOME, R23. -/
  | home (dt : Nat) (tag : Byte) (payload : List Byte)
  /-- PARK, R24. -/
  | park (dt : Nat) (tag : Byte) (payload : List Byte)
  /-- SCAN, R27. -/
  | scan (dt : Nat) (tag : Byte) (payload : List Byte)
  /-- POINT, R33. -/
  | point (dt : Nat) (tag : Byte) (payload : List Byte)
  /-- STANDARDIZE, R34. -/
  | standardize (dt : Nat) (tag : Byte) (payload : List Byte)
  /-- STOP, R26. -/
  | stop (dt : Nat) (tag : Byte) (payload : List Byte)
  /-- SET_SCAN, R35. -/
  | setScan (dt : Nat) (tag : Byte) (payload : List Byte)
  /-- GET_SCAN, R38. -/
  | getScan (dt : Nat) (tag : Byte) (payload : List Byte)
  /-- SET_TACH, R56. -/
  | setTach (dt : Nat) (tag : Byte) (payload : List Byte)
  /-- GET_CHANNELS, R57. -/
  | getChannels (dt : Nat) (tag : Byte) (payload : List Byte)
  /-- SET_STD, R60. -/
  | setStd (dt : Nat) (tag : Byte) (payload : List Byte)
  /-- SET_CALREF, R61. -/
  | setCalref (dt : Nat) (tag : Byte) (payload : List Byte)
  /-- GET_STD, R75. -/
  | getStd (dt : Nat) (tag : Byte) (payload : List Byte)
  /-- SET_TABLE, R77. -/
  | setTable (dt : Nat) (tag : Byte) (payload : List Byte)
  /-- GET_TABLE, R79. -/
  | getTable (dt : Nat) (tag : Byte) (payload : List Byte)
  /-- CONVERT, R92. -/
  | convert (dt : Nat) (tag : Byte) (payload : List Byte)
  /-- GET_PROFILE, R109. -/
  | getProfile (dt : Nat) (tag : Byte) (payload : List Byte)
  /-- GET_POINT, R113. -/
  | getPoint (dt : Nat) (tag : Byte) (payload : List Byte)
  /-- SET_WINDOW, R115. -/
  | setWindow (dt : Nat) (tag : Byte) (payload : List Byte)
  /-- GET_WINDOW, R126. -/
  | getWindow (dt : Nat) (tag : Byte) (payload : List Byte)
  /-- SET_STATION, R129. -/
  | setStation (dt : Nat) (tag : Byte) (payload : List Byte)
  /-- SET_BREAK, R131. -/
  | setBreak (dt : Nat) (tag : Byte) (payload : List Byte)
  /-- GET_STATIONS, R149. -/
  | getStations (dt : Nat) (tag : Byte) (payload : List Byte)
  /-- GET_BREAKS, R148. -/
  | getBreaks (dt : Nat) (tag : Byte) (payload : List Byte)
  /-- ACK, R165. -/
  | ack (dt : Nat) (tag : Byte) (payload : List Byte)
  /-- SET_ALARM_MODE, R168. -/
  | setAlarmMode (dt : Nat) (tag : Byte) (payload : List Byte)
  /-- GET_ALARMS, R169. -/
  | getAlarms (dt : Nat) (tag : Byte) (payload : List Byte)
  /-- UNKNOWN_KIND_COMMAND, R183. -/
  | unknownKindCommand (dt : Nat) (kind tag : Byte) (payload : List Byte)
  /-- POWER_ON, R195. -/
  | powerOn (dt : Nat) (strap : Bool)
  /-- RESET_PIN_ASSERT, R195. -/
  | resetPinAssert (dt : Nat)
  /-- RESET_PIN_RELEASE, R195. -/
  | resetPinRelease (dt : Nat) (strap : Bool)
  /-- LEGAL_STEP, R4. -/
  | legalStep (dt : Nat) (a b : Bool)
  /-- ILLEGAL_TRANSITION, R5. -/
  | illegalTransition (dt : Nat) (a b : Bool)
  /-- HOME_SWITCH_CLOSE, R8. -/
  | homeSwitchClose (dt : Nat)
  /-- HOME_SWITCH_OPEN, R7. -/
  | homeSwitchOpen (dt : Nat)
  /-- LIMIT_SWITCH_CLOSE, R16. -/
  | limitSwitchClose (dt : Nat) (side : Side)
  /-- LIMIT_SWITCH_OPEN, R16. -/
  | limitSwitchOpen (dt : Nat) (side : Side)
  /-- READY_FALL, R13. -/
  | readyFall (dt : Nat)
  /-- STALL_INTERVAL_EXPIRY, R14. -/
  | stallIntervalExpiry (dt : Nat)
  /-- REST_TIMER_EXPIRY, R15. -/
  | restTimerExpiry (dt : Nat)
  /-- SPEED_REF_PERIOD_START, R12. -/
  | speedRefPeriodStart (dt : Nat)
  /-- SPEED_REF_HIGH_TIME_END, R12. -/
  | speedRefHighTimeEnd (dt : Nat)
  /-- SHUTTER_FEEDBACK_CHANGE, R18. -/
  | shutterFeedbackChange (dt : Nat) (closed : Bool)
  /-- SHUTTER_MISMATCH_EXPIRY, R18. -/
  | shutterMismatchExpiry (dt : Nat)
  /-- CHANNEL_PULSE_EDGE, R44. -/
  | channelPulseEdge (dt : Nat) (channel : PulseChannel)
  /-- CAL_RISING_EDGE, R45. -/
  | calRisingEdge (dt : Nat)
  /-- CAL_PERIOD_TIMEOUT, R45. -/
  | calPeriodTimeout (dt : Nat)
  /-- SHEET_PRESENT_CHANGE, R46. -/
  | sheetPresentChange (dt : Nat) (sheet : Bool)
  /-- SAMPLE_TIMER_EXPIRY, R51. -/
  | sampleTimerExpiry (dt : Nat)
  /-- TACH_RISING_EDGE, R54. -/
  | tachRisingEdge (dt : Nat)
  /-- TACH_TIMEOUT, R55. -/
  | tachTimeout (dt : Nat)
  /-- STATION_PRESENCE_SEEN, R132. -/
  | stationPresenceSeen (dt : Nat) (station : Fin 8)
  /-- STATION_PRESENCE_LOST, R133. -/
  | stationPresenceLost (dt : Nat) (station : Fin 8)
  /-- QUALIFY_EXPIRY, R134. -/
  | qualifyExpiry (dt : Nat) (station : Fin 8)
  /-- RESTORE_EXPIRY, R132. -/
  | restoreExpiry (dt : Nat) (station : Fin 8)
  /-- CASCADE_EXPIRY, R142. -/
  | cascadeExpiry (dt : Nat)
  /-- BREAK_NOTICE_PLACED, R144. -/
  | breakNoticePlaced (dt : Nat)
  /-- AUTOMATIC_RESUME, R41. -/
  | automaticResume (dt : Nat)
  /-- RX_BYTE, R174. -/
  | rxByte (dt : Nat) (byte : Byte) (stop : Bool)
  /-- GAP_TIMEOUT, R175. -/
  | gapTimeout (dt : Nat)
  /-- LINE_BREAK, R176. -/
  | lineBreak (dt : Nat)
  /-- LINE_BREAK_END, R176. -/
  | lineBreakEnd (dt : Nat)
  /-- HRDY_RISE, R191. -/
  | hrdyRise (dt : Nat)
  /-- TX_FRAME_END, R189. -/
  | txFrameEnd (dt : Nat)
  /-- OVERFLOW_PLACEMENT, R187. -/
  | overflowPlacement (dt : Nat)
  /-- HRDY_FALL, R191. -/
  | hrdyFall (dt : Nat)
  /-- READY_RISE, R13. -/
  | readyRise (dt : Nat)
  /-- CAL_FALLING_EDGE, R45. -/
  | calFallingEdge (dt : Nat)
  deriving DecidableEq, Repr

end Sys2Proof
end

