-- ==== Sys2Proof/Decode.lean ====
section
/-! DEFINITION. From what stands on the link to a command: the command index of 10 section 10.9, by kind.
No row of spec/opcode_table.json gives bits, so no table word spells a command (log 24). -/

namespace Sys2Proof

/-- The command index (10 section 10.9): each command kind with the command a frame of that kind is. -/
def frameIndex : List (Byte × (Nat → Byte → List Byte → Instr)) :=
  [(0x01, .getStatus), (0x02, .getLink), (0x03, .restart), (0x10, .setFrame), (0x11, .getFrame),
   (0x18, .home), (0x19, .park), (0x1A, .scan), (0x1B, .point), (0x1C, .standardize), (0x1D, .stop),
   (0x1E, .setScan), (0x1F, .getScan), (0x20, .setTach), (0x21, .getChannels), (0x28, .setStd),
   (0x29, .setCalref), (0x2A, .getStd), (0x30, .setTable), (0x31, .getTable), (0x32, .convert),
   (0x38, .getProfile), (0x39, .getPoint), (0x40, .setWindow), (0x41, .getWindow), (0x48, .setStation),
   (0x49, .setBreak), (0x4A, .getStations), (0x4B, .getBreaks), (0x50, .ack), (0x51, .setAlarmMode),
   (0x52, .getAlarms)]

/-- The kinds that name a command; every other kind is refused with BAD_KIND (R183). -/
def commandKinds : List Byte := frameIndex.map Prod.fst

/-- The command a frame of the given kind, tag and payload is: R183 hands it on by its kind alone. -/
def decodeFrame (dt : Nat) (kind tag : Byte) (payload : List Byte) : Instr :=
  match frameIndex.find? (fun e => e.1 = kind) with
  | some e => e.2 dt tag payload
  | none => .unknownKindCommand dt kind tag payload

/-- The frame a host command is, as kind, tag and payload; none for an event. -/
def frameOf : Instr → Option (Byte × Byte × List Byte)
  | .getStatus _ t p => some (0x01, t, p)
  | .getLink _ t p => some (0x02, t, p)
  | .restart _ t p => some (0x03, t, p)
  | .setFrame _ t p => some (0x10, t, p)
  | .getFrame _ t p => some (0x11, t, p)
  | .home _ t p => some (0x18, t, p)
  | .park _ t p => some (0x19, t, p)
  | .scan _ t p => some (0x1A, t, p)
  | .point _ t p => some (0x1B, t, p)
  | .standardize _ t p => some (0x1C, t, p)
  | .stop _ t p => some (0x1D, t, p)
  | .setScan _ t p => some (0x1E, t, p)
  | .getScan _ t p => some (0x1F, t, p)
  | .setTach _ t p => some (0x20, t, p)
  | .getChannels _ t p => some (0x21, t, p)
  | .setStd _ t p => some (0x28, t, p)
  | .setCalref _ t p => some (0x29, t, p)
  | .getStd _ t p => some (0x2A, t, p)
  | .setTable _ t p => some (0x30, t, p)
  | .getTable _ t p => some (0x31, t, p)
  | .convert _ t p => some (0x32, t, p)
  | .getProfile _ t p => some (0x38, t, p)
  | .getPoint _ t p => some (0x39, t, p)
  | .setWindow _ t p => some (0x40, t, p)
  | .getWindow _ t p => some (0x41, t, p)
  | .setStation _ t p => some (0x48, t, p)
  | .setBreak _ t p => some (0x49, t, p)
  | .getStations _ t p => some (0x4A, t, p)
  | .getBreaks _ t p => some (0x4B, t, p)
  | .ack _ t p => some (0x50, t, p)
  | .setAlarmMode _ t p => some (0x51, t, p)
  | .getAlarms _ t p => some (0x52, t, p)
  | .unknownKindCommand _ k t p => some (k, t, p)
  | .powerOn _ _ | .resetPinAssert _ | .resetPinRelease _ _ | .legalStep _ _ _ | .illegalTransition _ _ _
  | .homeSwitchClose _ | .homeSwitchOpen _ | .limitSwitchClose _ _ | .limitSwitchOpen _ _ | .readyFall _
  | .stallIntervalExpiry _ | .restTimerExpiry _ | .speedRefPeriodStart _ | .speedRefHighTimeEnd _
  | .shutterFeedbackChange _ _ | .shutterMismatchExpiry _ | .channelPulseEdge _ _ | .calRisingEdge _
  | .calPeriodTimeout _ | .sheetPresentChange _ _ | .sampleTimerExpiry _ | .tachRisingEdge _ | .tachTimeout _
  | .stationPresenceSeen _ _ | .stationPresenceLost _ _ | .qualifyExpiry _ _ | .restoreExpiry _ _
  | .cascadeExpiry _ | .breakNoticePlaced _ | .automaticResume _ | .rxByte _ _ _ | .gapTimeout _
  | .lineBreak _ | .lineBreakEnd _ | .hrdyRise _ | .txFrameEnd _ | .overflowPlacement _ | .hrdyFall _
  | .readyRise _ | .calFallingEdge _ => none

/-- The command that a word spells by the table's bits: the table gives no row any bits, so none (log 24). -/
def decodeTableWord (_nbits _w : Nat) : Option Instr := none

end Sys2Proof
end

