-- ==== Sys2Proof/Config.lean ====
section
/-! DEFINITION. What the manual leaves open as a value: free values, opaque, so that nothing can be proved of them. -/

namespace Sys2Proof

/-- The number that stands in a position field of a reply for an effective range end below 0.
R22 can compute such an end (a turn distance above the soft limit high), R37 keeps it in force, and the Conventions give
only positions 0 to 262,143 a form on the link. DESIGN CHOICE, safe: a free value (log 10). -/
opaque Config.positionBelowZero : Int → Nat

end Sys2Proof
end

