-- ==== Sys2Proof/Machine/State.lean ====
section
/-! DEFINITION. The state of the C-640: every record, register, queue, timer, counter, mode and pin that the manual gives it,
as plain data, and its values at reset. Blocks are those of 00_scope.md: TRV, ACQ, STD, CNV, PRF, WIN, BRK, ALM, LNK. -/

namespace Sys2Proof.Machine

/-- Why the part stops. It never does: every fault of the manual is an alarm condition and a change of state (09 R152), so
there is no constructor; nothing raises one, which is safe. -/
inductive Fault
  deriving DecidableEq, Repr

/-- Why a row has no meaning. -/
inductive Refusal where
  /-- Raised by exec's arm for a row whose meaning has not been written; safe, since no claim can be made of it. -/
  | notModelled (mnemonic : String)
  deriving DecidableEq, Repr

/-- A timer of the part: none while stopped, else the clock reading (µs) at which it expires (R194, log 2). -/
abbrev Timer := Option Nat

/-! ## Names -/

/-- The ten traverse states (02 section 2.1). -/
inductive TravState where
  | unhomed | homing | parked | standardizing | approach | scan | turn | point | parking | halted
  deriving DecidableEq, Repr

/-- The machine sheet state (R136). -/
inductive SheetState where
  | noSheet | running | sheetBreak | threading
  deriving DecidableEq, Repr

/-- The link state (R180). -/
inductive LinkState where
  | good | degraded | lost
  deriving DecidableEq, Repr

/-- The kinds of operation (R19), with SET_SCAN for the DONE of a stored record (R37). -/
inductive OpKind where
  | home | park | scan | point | standardize | stop | setScan
  deriving DecidableEq, Repr

/-- The results a DONE notice can carry (10 section 10.8). -/
inductive OpResult where
  | complete | aborted | fault | planDone | sheetBreak | link | stdFailed | stopped | applied | replaced
  | unconfigured | state | badValue | adopted | adoptedDrift | sheet | channel | drift | shutter
  deriving DecidableEq, Repr

/-- The reply codes (R184). -/
inductive ReplyCode where
  | ok | accepted | badKind | badLength | badValue | state | busy | sheet | link | unconfigured
  deriving DecidableEq, Repr

/-- How a scan closed (R97). -/
inductive Completion where
  | complete | abortedBreak | abortedLink | abortedFault | abortedCommand
  deriving DecidableEq, Repr

/-- Where a closed sample saw sheet (R46). -/
inductive SheetField where
  | all | none | mixed
  deriving DecidableEq, Repr

/-- How a sample was cut (03 section 3.2). -/
inductive Gating where
  | position | time
  deriving DecidableEq, Repr

/-- How far a record was converted (R80). -/
inductive Form where
  | converted | edge | offSheet | raw
  deriving DecidableEq, Repr

/-! ## Pins -/

/-- The levels at the part's inputs, true for high, closed or asserted. -/
structure Pins where
  home : Bool
  limitTs : Bool
  limitDs : Bool
  ready : Bool
  closed : Bool
  sp : Bool
  cal : Bool
  stations : Vector Bool 8
  hrdy : Bool
  /-- The RESET pin is asserted (R195). -/
  reset : Bool
  deriving DecidableEq, Repr

/-- DESIGN CHOICE, unsafe (log 3): the wires as State.reset finds them. The manual gives inputs no reset value. -/
def Pins.initial : Pins where
  home := false
  limitTs := false
  limitDs := false
  ready := true
  closed := true
  sp := false
  cal := false
  stations := Vector.replicate 8 false
  hrdy := false
  reset := false

/-! ## Traverse Controller -/

/-- The frame record (01 section 1.1). -/
structure FrameRecord where
  softLow : Nat
  softHigh : Nat
  homeOffset : Nat
  homeTolerance : Nat
  park : Nat
  homingSpeed : Nat
  travelSpeed : Nat
  accel : Nat
  deriving DecidableEq, Repr

/-- The scan settings (02 section 2.7), the options byte as its two flags. -/
structure ScanSettings where
  low : Nat
  high : Nat
  speed : Nat
  pitch : Nat
  p0 : Nat
  width : Nat
  count : Nat
  minSamples : Nat
  weight : Nat
  source : Nat
  base : Nat
  autoReload : Bool
  autoResume : Bool
  batch : Nat
  pointPeriod : Nat
  deriving DecidableEq, Repr

/-- The effective scan range with its turn distance (R22). The high end can fall below 0 when it is not usable. -/
structure EffRange where
  low : Int
  high : Int
  turn : Nat
  deriving DecidableEq, Repr

/-- The operation record (R19). -/
structure OpRecord where
  kind : OpKind
  tag : Byte
  /-- POINT's commanded position; 0 in the others. -/
  position : Nat
  stdDue : Bool
  reloadDue : Bool
  /-- The recomputation of R22 at acceptance or resume changed the effective range. -/
  adjusted : Bool
  deriving DecidableEq, Repr

/-- The resume-pending record (R40). -/
inductive Resume where
  | scan
  | point (position : Nat)
  deriving DecidableEq, Repr

/-- What a positioning move is for (R21): the park position, the run-up point of a scan, or a point. -/
inductive Purpose where
  | park
  | runUp (side : Side)
  | point
  deriving DecidableEq, Repr

/-- What the drive is doing inside a traverse state. -/
inductive Motion where
  /-- Nothing is driven. -/
  | rest
  /-- Homing's back-off (R7). -/
  | backOff
  /-- Between the back-off and the seek, while the head ramps through zero (R7). -/
  | reversing
  /-- Homing's seek (R7, R8). -/
  | seek
  /-- A positioning move (R21); the speed is in mm/s. -/
  | move (dest speed : Nat) (purpose : Purpose)
  /-- From the run-up point, or from a turn, toward the range end at which the scan begins (R28, R31). -/
  | runUp (side : Side)
  /-- Across the range at scan speed. -/
  | scanning
  /-- Braking in TURN (R31); the flag says that the turn ends the plan. -/
  | braking (endsPlan : Bool)
  /-- A stopping ramp in HALTED (R15). -/
  | stopping
  /-- Held at a point (R33). -/
  | hold
  deriving DecidableEq, Repr

/-- A stall interval in progress (R14). -/
structure StallInterval where
  noted : Nat
  expiry : Nat
  deriving DecidableEq, Repr

/-- The Traverse Controller. -/
structure Trv where
  state : TravState
  counter : Nat
  homed : Bool
  faultCount : Nat
  sampling : Option (Bool × Bool)
  frame : Option FrameRecord
  enable : Bool
  /-- DIRECTION, true for DS-ward (R10). -/
  direction : Bool
  /-- The speed reference output (R12). -/
  speedRef : Bool
  highTime : Nat
  lowTime : Nat
  periodDue : Timer
  highDue : Timer
  /-- Signed, 0.01 mm/s, positive DS-ward (R11). -/
  commanded : Int
  target : Int
  motion : Motion
  restTimer : Timer
  stall : Option StallInterval
  openCmd : Bool
  mismatch : Timer
  op : Option OpRecord
  active : Option ScanSettings
  pending : Option (Byte × ScanSettings)
  range : Option EffRange
  planCount : Nat
  resume : Option Resume
  scanDir : Side
  deriving DecidableEq, Repr

/-- TRV at power-on and the RESET pin (01 section 1.8, 02 section 2.10). -/
def Trv.reset : Trv where
  state := .unhomed
  counter := 0
  homed := false
  faultCount := 0
  sampling := none
  frame := none
  enable := false
  direction := false
  speedRef := false
  highTime := 0
  lowTime := 0
  periodDue := none
  highDue := none
  commanded := 0
  target := 0
  motion := .rest
  restTimer := none
  stall := none
  openCmd := false
  mismatch := none
  op := none
  active := none
  pending := none
  range := none
  planCount := 0
  resume := none
  scanDir := .ds

/-! ## Channel Acquisition Unit -/

/-- The open sample (03 section 3.1). -/
structure OpenSample where
  gating : Gating
  start : Nat
  openedAt : Nat
  bw : Nat
  mw : Nat
  mr : Nat
  calHigh : Nat
  calTotal : Nat
  spAtOpen : Bool
  changed : Bool
  sat : Bool
  deriving DecidableEq, Repr

/-- The sample record (03 section 3.2). -/
structure Sample where
  gating : Gating
  start : Nat
  stop : Nat
  dur : Nat
  bw : Nat
  mw : Nat
  mr : Nat
  calHigh : Nat
  calTotal : Nat
  sheet : SheetField
  speed : Nat
  time : Nat
  sat : Bool
  deriving DecidableEq, Repr

/-- The dead run counters (R52). -/
structure RunCounters where
  bw : Nat
  mw : Nat
  mr : Nat
  cal : Nat
  deriving DecidableEq, Repr

/-- A set of channels: the flagged set (R52). -/
structure ChannelSet where
  bw : Bool
  mw : Bool
  mr : Bool
  cal : Bool
  deriving DecidableEq, Repr

/-- The Channel Acquisition Unit. -/
structure Acq where
  sample : Option OpenSample
  next : Option Nat
  sampleTimer : Timer
  calStart : Option Nat
  /-- The high time of the CAL period in progress, once its falling edge has come (R45). -/
  calHigh : Option Nat
  calTimeout : Timer
  last : Option Sample
  dead : RunCounters
  flagged : ChannelSet
  ppm : Option Nat
  tachEdge : Option Nat
  tachPeriod : Option Nat
  tachTimeout : Timer
  speed : Nat
  deriving DecidableEq, Repr

/-- ACQ at power-on and the RESET pin (R58). -/
def Acq.reset : Acq where
  sample := none
  next := none
  sampleTimer := none
  calStart := none
  calHigh := none
  calTimeout := none
  last := none
  dead := ⟨0, 0, 0, 0⟩
  flagged := ⟨false, false, false, false⟩
  ppm := none
  tachEdge := none
  tachPeriod := none
  tachTimeout := none
  speed := 0

/-! ## Standardization Unit -/

/-- The standardize settings (04 section 4.1). -/
structure StdSettings where
  samples : Nat
  settle : Nat
  period : Nat
  minBw : Nat
  minMw : Nat
  minMr : Nat
  warn : Nat
  reject : Nat
  deriving DecidableEq, Repr

/-- The reference set, when valid (R67, R74). -/
structure RefSet where
  time : Nat
  rBw : Nat
  m : Nat
  d0 : Nat
  driftBw : Option Nat
  driftM : Option Nat
  driftD0 : Option Nat
  rejectAt : Nat
  scansSince : Nat
  deriving DecidableEq, Repr

/-- The phase of the collection (04 section 4.3). -/
inductive StdPhase where
  | idle | settling | collecting
  deriving DecidableEq, Repr

/-- The six running sums (04 section 4.3), held exactly. -/
structure StdSums where
  d : Nat
  bw : Nat
  mw : Nat
  mr : Nat
  calHigh : Nat
  calTotal : Nat
  deriving DecidableEq, Repr

/-- The last-result record (R75). -/
structure StdLast where
  result : OpResult
  time : Nat
  received : Nat
  rBw : Option Nat
  m : Option Nat
  d0 : Option Nat
  rMw : Option Nat
  rMr : Option Nat
  driftBw : Option Nat
  driftM : Option Nat
  driftD0 : Option Nat
  mask : Option Nat
  deriving DecidableEq, Repr

/-- The Standardization Unit. -/
structure Std where
  settings : Option StdSettings
  calRbw : Option Nat
  calM : Option Nat
  calD0 : Option Nat
  ref : Option RefSet
  count : Nat
  phase : StdPhase
  snapshot : StdSettings
  settleLeft : Nat
  summed : Nat
  received : Nat
  sums : StdSums
  satMark : Bool
  last : Option StdLast
  deriving DecidableEq, Repr

/-- STD at power-on and the RESET pin (R76); the settings snapshot all 0 and the saturation mark clear are the model's own (DESIGN
CHOICE, log 25). -/
def Std.reset : Std where
  settings := none
  calRbw := none
  calM := none
  calD0 := none
  ref := none
  count := 0
  phase := .idle
  snapshot := ⟨0, 0, 0, 0, 0, 0, 0, 0⟩
  settleLeft := 0
  summed := 0
  received := 0
  sums := ⟨0, 0, 0, 0, 0, 0⟩
  satMark := false
  last := none

/-! ## Conversion Engine -/

/-- A linearization table with its statistics (R77, R91); empty when it has no knots. -/
structure LinTable where
  knots : List (Nat × Nat)
  converted : Nat
  underCount : Nat
  overCount : Nat
  deriving DecidableEq, Repr

/-- The three tables. -/
structure Cnv where
  bw : LinTable
  water : LinTable
  cal : LinTable
  deriving DecidableEq, Repr

/-- An empty table with cleared statistics. -/
def LinTable.empty : LinTable := ⟨[], 0, 0, 0⟩

/-- CNV at power-on and the RESET pin (05 section 5.10). -/
def Cnv.reset : Cnv := ⟨.empty, .empty, .empty⟩

/-- The flags of one measurement (05 section 5.2). -/
structure MeasFlags where
  clamp : Bool
  underEnd : Bool
  overEnd : Bool
  noTable : Bool
  noRef : Bool
  noSignal : Bool
  deriving DecidableEq, Repr

/-- No flag set. -/
def MeasFlags.clear : MeasFlags := ⟨false, false, false, false, false, false⟩

/-- The converted record (05 section 5.2). -/
structure ConvRecord where
  sample : Sample
  form : Form
  qBw : Option Nat
  qW : Option Nat
  qC : Option Nat
  bw : Option Nat
  water : Option Nat
  cal : Option Nat
  moisture : Option Nat
  dry : Option Nat
  bwFlags : MeasFlags
  waterFlags : MeasFlags
  calFlags : MeasFlags
  wet : Bool
  deriving DecidableEq, Repr

/-! ## Profile Builder -/

/-- One slice's accumulator (06 section 6.1). -/
structure SliceAcc where
  n : Nat
  bwSum : Nat
  bwCount : Nat
  waterSum : Nat
  waterCount : Nat
  calSum : Nat
  calCount : Nat
  clampMark : Bool
  edgeMark : Bool
  offSheet : Nat
  deriving DecidableEq, Repr

/-- An accumulator as a scan opens with it (R96). -/
def SliceAcc.empty : SliceAcc := ⟨0, 0, 0, 0, 0, 0, 0, false, false, 0⟩

/-- A slice map (P0, W, N). -/
structure SliceMap where
  p0 : Nat
  width : Nat
  count : Nat
  deriving DecidableEq, Repr

/-- The open scan record (R93, R96). -/
structure OpenScan where
  number : Nat
  dir : Side
  startTime : Nat
  map : SliceMap
  speedSum : Nat
  speedCount : Nat
  minAll : Option Nat
  maxAll : Option Nat
  slices : List SliceAcc
  deriving DecidableEq, Repr

/-- One slice of a finished profile (R98, R99, R103). -/
structure Slice where
  bw : Option Nat
  water : Option Nat
  cal : Option Nat
  moisture : Option Nat
  dry : Option Nat
  notScanned : Bool
  offSheet : Bool
  weak : Bool
  edge : Bool
  clamped : Bool
  /-- n in a scan record (R99), the fold count in FILTERED (R103). -/
  n : Nat
  /-- The slice is valid in the scan (R99). -/
  valid : Bool
  deriving DecidableEq, Repr

/-- The mean and the range of one measurement over a profile (R100), together present or absent. -/
structure MeanRange where
  mean : Nat
  range : Nat
  deriving DecidableEq, Repr

/-- A finished profile: the scan record of LATEST (R100), or FILTERED with its own summary (R104). -/
structure Profile where
  number : Nat
  dir : Side
  startTime : Nat
  endTime : Nat
  completion : Completion
  map : SliceMap
  tsEdge : Option Nat
  dsEdge : Option Nat
  meanSpeed : Option Nat
  validCount : Nat
  bw : Option MeanRange
  moisture : Option MeanRange
  cal : Option MeanRange
  slices : List Slice
  deriving DecidableEq, Repr

/-- A point ring entry (06 section 6.7): its number and the record it was made from. -/
structure RingEntry where
  number : Nat
  record : ConvRecord
  deriving DecidableEq, Repr

/-- A frame on the link without its envelope's Sync, Length and Check (10 section 10.1). -/
structure Frame where
  kind : Byte
  tag : Byte
  payload : List Byte
  deriving DecidableEq, Repr

/-- The report buffer (R106): the frames, and the index of the next one not yet begun. -/
structure Report where
  frames : List Frame
  next : Nat
  deriving DecidableEq, Repr

/-- The Profile Builder. -/
structure Prf where
  openScan : Option OpenScan
  scanNumber : Nat
  latest : Option Profile
  filtered : Option Profile
  reseed : Bool
  report : Report
  skip : Nat
  /-- Newest first. -/
  ring : List RingEntry
  entryNumber : Nat
  /-- The POINT_DATA notice that has not been begun. -/
  batch : Option Frame
  batchCount : Nat
  skippedBatches : Nat
  deriving DecidableEq, Repr

/-- PRF at every reset (R114). -/
def Prf.reset : Prf where
  openScan := none
  scanNumber := 0
  latest := none
  filtered := none
  reseed := true
  report := ⟨[], 0⟩
  skip := 0
  ring := []
  entryNumber := 0
  batch := none
  batchCount := 0
  skippedBatches := 0

/-! ## Limit Window Monitor -/

/-- The measurement a window checks (07 section 7.1). -/
inductive WindowMeas where
  | bw | moist | dry | cal
  deriving DecidableEq, Repr

/-- The profile a window reads. -/
inductive ProfileSource where
  | latest | filtered
  deriving DecidableEq, Repr

/-- A window definition as accepted (R115). -/
structure WindowDef where
  enabled : Bool
  exponent : Nat
  base : Nat
  meas : WindowMeas
  high : Option Nat
  low : Option Nat
  persistence : Nat
  source : ProfileSource
  deriving DecidableEq, Repr

/-- The states of a window (R121). -/
inductive WindowState where
  | normal | pending | excursion
  deriving DecidableEq, Repr

/-- The outcome of an evaluation (R120, R123). -/
inductive WindowOutcome where
  | within | above | below | noData
  deriving DecidableEq, Repr

/-- The evaluation record (R124). -/
structure EvalRecord where
  scan : Nat
  outcome : WindowOutcome
  value : Option Nat
  slices : Nat
  deriving DecidableEq, Repr

/-- The excursion record (R124); the side is ABOVE when the flag is set. -/
structure ExcursionRecord where
  above : Bool
  value : Nat
  scan : Nat
  deriving DecidableEq, Repr

/-- One window. -/
structure Window where
  definition : Option WindowDef
  state : WindowState
  counter : Nat
  eval : Option EvalRecord
  excursion : Option ExcursionRecord
  deriving DecidableEq, Repr

/-- A window at power-on and the RESET pin (R127). -/
def Window.reset : Window := ⟨none, .normal, 0, none, none⟩

/-! ## Break Detector -/

/-- A station definition as accepted (R129); polarity true means that a low level shows sheet. -/
structure StationDef where
  enabled : Bool
  polarity : Bool
  qualify : Nat
  restore : Nat
  deriving DecidableEq, Repr

/-- The states of a station (08 section 8.2). -/
inductive StationState where
  | disabled | noSheet | restoring | present | losing | broken
  deriving DecidableEq, Repr

/-- One station. -/
structure Station where
  definition : Option StationDef
  state : StationState
  qualifyTimer : Timer
  restoreTimer : Timer
  flickers : Nat
  losses : Nat
  threadLosses : Nat
  deriving DecidableEq, Repr

/-- A station at power-on and the RESET pin (R150). -/
def Station.reset : Station := ⟨none, .disabled, none, none, 0, 0, 0⟩

/-- The break settings (R131). -/
structure BreakSettings where
  crawl : Nat
  cascade : Nat
  deriving DecidableEq, Repr

/-- An entry of a loss list (R141). -/
structure LossEntry where
  station : Fin 8
  offset : Nat
  independent : Bool
  repeats : Nat
  deriving DecidableEq, Repr

/-- A break record (08 section 8.4). -/
structure BreakRecord where
  number : Nat
  time : Nat
  firstOut : Fin 8
  repeats : Nat
  position : Option Nat
  speed : Nat
  travState : TravState
  scan : Option Nat
  losses : List LossEntry
  cascadeClose : Option Nat
  restore : Option Nat
  notified : Bool
  deriving DecidableEq, Repr

/-- The Break Detector. -/
structure Brk where
  stations : Vector Station 8
  settings : Option BreakSettings
  sheet : SheetState
  openRec : Option BreakRecord
  cascade : Timer
  /-- Newest first. -/
  history : List BreakRecord
  breakNumber : Nat
  /-- Oldest first. -/
  due : List Nat
  deriving DecidableEq, Repr

/-- BRK at power-on and the RESET pin (R150). -/
def Brk.reset : Brk where
  stations := Vector.replicate 8 Station.reset
  settings := none
  sheet := .running
  openRec := none
  cascade := none
  history := []
  breakNumber := 0
  due := []

/-! ## Alarm Controller -/

/-- The states of an alarm entry (09 section 9.3). -/
inductive AlarmState where
  | idle | requested | inService | standing
  deriving DecidableEq, Repr

/-- One alarm entry (09 section 9.2). Its source is its index, its masked field the mask set's mark. -/
structure AlarmEntry where
  state : AlarmState
  live : Bool
  repeats : Nat
  first : Option Nat
  last : Option Nat
  value : Option Nat
  deriving DecidableEq, Repr

/-- An entry at every reset (R170). -/
def AlarmEntry.reset : AlarmEntry := ⟨.idle, false, 0, none, none, none⟩

/-- The Alarm Controller. -/
structure Alm where
  entries : Vector AlarmEntry 24
  rotating : Bool
  lowest : Fin 24
  specialMask : Bool
  autoAck : Bool
  mask : BitVec 24
  hold : Bool
  deriving DecidableEq, Repr

/-- ALM at every reset (R170, R171). -/
def Alm.reset : Alm where
  entries := Vector.replicate 24 AlarmEntry.reset
  rotating := false
  lowest := 23
  specialMask := false
  autoAck := false
  mask := 0
  hold := true

/-! ## Link Controller -/

/-- The receiver's state (10 section 10.2). -/
inductive RxState where
  | hunt | length | kind | tag | payload | checkHigh | checkLow | lineLow
  deriving DecidableEq, Repr

/-- The receiver and its partial frame. -/
structure Rx where
  state : RxState
  length : Byte
  kind : Byte
  tag : Byte
  payload : List Byte
  checkHigh : Byte
  gap : Timer
  deriving DecidableEq, Repr

/-- The receiver after power-on and the RESET pin (R198). -/
def Rx.reset : Rx := ⟨.hunt, 0, 0, 0, [], 0, none⟩

/-- The counts of GET_LINK (R193). -/
structure LinkCounts where
  framing : Nat
  gap : Nat
  length : Nat
  crc : Nat
  overrun : Nat
  breaks : Nat
  good : Nat
  lostDone : Nat
  deriving DecidableEq, Repr

/-- The Link Controller. -/
structure Lnk where
  /-- The rate in force, true for 460,800 baud (R172). -/
  baud : Bool
  rx : Rx
  cmdQ : List Frame
  rdy : Bool
  quality : Nat
  link : LinkState
  replyQ : List Frame
  alarmQ : List Frame
  eventQ : List Frame
  overflow : List Frame
  /-- The frame in progress on TXD. -/
  tx : Option Frame
  /-- The STARTED-first hold (R198). -/
  startedHold : Bool
  counts : LinkCounts
  deriving DecidableEq, Repr

/-- LNK after power-on and the RESET pin (R198), before STARTED is placed. -/
def Lnk.reset (baud : Bool) : Lnk where
  baud := baud
  rx := .reset
  cmdQ := []
  rdy := true
  quality := 0
  link := .good
  replyQ := []
  alarmQ := []
  eventQ := []
  overflow := []
  tx := none
  startedHold := true
  counts := ⟨0, 0, 0, 0, 0, 0, 0, 0⟩

/-! ## The whole part -/

/-- Everything of the part but the queue of waiting commands. -/
structure Device where
  /-- Microseconds, the model's own clock (log 1). -/
  clk : Nat
  /-- The clock at which the millisecond time base last started (R194). -/
  timeBase : Nat
  /-- The event in progress changed a state that a STATE notice reports (R188, log 5). -/
  stateChanged : Bool
  pins : Pins
  trv : Trv
  acq : Acq
  std : Std
  cnv : Cnv
  prf : Prf
  win : Vector Window 8
  brk : Brk
  alm : Alm
  lnk : Lnk
  deriving DecidableEq, Repr

/-- The machine: the part, and the queue of the commands that wait for it, front first. -/
structure State where
  pending : List Instr
  dev : Device
  deriving DecidableEq, Repr

/-- The STARTED notice of a power-on with the strap low (R196): cause POWER, baud 0, mask 0, no history, break number 0. -/
def startedAtPowerOn : Frame := ⟨0xC0, 0, [0, 0, 0, 0, 0, 0, 0, 0, 0]⟩

/-- The part right after power-on (R195) with the wires of Pins.initial. -/
def Device.reset : Device where
  clk := 0
  timeBase := 0
  stateChanged := false
  pins := .initial
  trv := .reset
  acq := .reset
  std := .reset
  cnv := .reset
  prf := .reset
  win := Vector.replicate 8 Window.reset
  brk := .reset
  alm := .reset
  lnk := { Lnk.reset false with eventQ := [startedAtPowerOn] }

/-- The machine right after reset, with no command waiting. -/
def State.reset : State where
  pending := []
  dev := .reset

end Sys2Proof.Machine
end

