-- ==== Sys2Proof/Machine/Operands.lean ====
section
/-! DEFINITION. Operand forms: exact arithmetic with the manual's roundings (00_scope.md, Arithmetic and rounding), multi-byte
fields most significant byte first (Encoding on the link), optional fields, and the frame check of R173. -/

namespace Sys2Proof.Machine

/-! ## Rounding and bounds -/

/-- Wrapping of a 32-bit count or time. -/
def wrap32 (n : Nat) : Nat := n % 4294967296

/-- A 32-bit quantity that stays at its maximum. -/
def sat32 (n : Nat) : Nat := min n 4294967295

/-- A 16-bit count that stays at 65,535. -/
def sat16 (n : Nat) : Nat := min n 65535

/-- Round half up of non-negative values. -/
def roundHalfUp (num den : Nat) : Nat := (num + den / 2) / den

/-- Round half away from zero of a signed quotient. -/
def roundHalfAway (num : Int) (den : Nat) : Int :=
  if num < 0 then -(roundHalfUp num.natAbs den : Int) else (roundHalfUp num.natAbs den : Int)

/-- The ceiling of a quotient. -/
def ceilDiv (num den : Nat) : Nat := (num + den - 1) / den

/-- A value brought to the nearer end of a range. -/
def clampTo (lo hi n : Nat) : Nat := if n < lo then lo else if hi < n then hi else n

/-- The distance of two counts. -/
def dist (a b : Nat) : Nat := if a ≤ b then b - a else a - b

/-- The distance by the shorter way around the 262,144-count circle (R14). -/
def circleDist (a b : Nat) : Nat := min (dist a b) (262144 - dist a b)

/-! ## Fields of a payload -/

/-- A field of `n` bytes, most significant byte first. -/
def beBytes : Nat → Nat → List Byte
  | 0, _ => []
  | n + 1, v => BitVec.ofNat 8 (v / 256 ^ n) :: beBytes n v

/-- The number that bytes sent most significant first are. -/
def beValue (bs : List Byte) : Nat := bs.foldl (fun acc b => acc * 256 + b.toNat) 0

/-- The `len`-byte field at an offset of a payload. -/
def field (p : List Byte) (offset len : Nat) : Nat := beValue ((p.drop offset).take len)

/-- One byte that is a truth value. -/
def boolByte (b : Bool) : Byte := if b then 1 else 0

/-- An optional 16-bit value: 0xFFFF when absent. -/
def opt16 (v : Option Nat) : List Byte := beBytes 2 (v.getD 65535)

/-- An optional 32-bit value: 0xFFFFFFFF when absent. -/
def opt32 (v : Option Nat) : List Byte := beBytes 4 (v.getD 4294967295)

/-- An optional 24-bit position of a profile header: 0xFFFFFF when absent. -/
def opt24 (v : Option Nat) : List Byte := beBytes 3 (v.getD 16777215)

/-- A presence byte before an optional value. -/
def presence {α : Type} (v : Option α) : Byte := boolByte v.isSome

/-- A position that the arithmetic may have carried below 0 (log 10). -/
def positionBytes (i : Int) : List Byte :=
  beBytes 4 (if i < 0 then Config.positionBelowZero i else i.toNat)

/-! ## The frame check -/

/-- One data bit into the check register (R173). -/
def crcBit (reg : BitVec 16) (bit : Bool) : BitVec 16 :=
  if reg.msb != bit then (reg <<< 1) ^^^ 0x1021 else reg <<< 1

/-- One byte into the check register, most significant bit first (R173). -/
def crcByte (reg : BitVec 16) (b : Byte) : BitVec 16 :=
  [7, 6, 5, 4, 3, 2, 1, 0].foldl (fun r i => crcBit r (b.getLsbD i)) reg

/-- The check of a run of bytes, the register starting at 0xFFFF (R173). -/
def crc (bs : List Byte) : BitVec 16 := bs.foldl crcByte 0xFFFF

/-- The bytes of a frame that its check covers: Length, Kind, Tag and Payload (R173). -/
def Frame.body (f : Frame) : List Byte :=
  BitVec.ofNat 8 f.payload.length :: f.kind :: f.tag :: f.payload

/-- A frame as it travels: Sync, the body, and the check high byte first (10 section 10.1). -/
def Frame.wire (f : Frame) : List Byte :=
  0xA5 :: f.body ++ beBytes 2 (crc f.body).toNat

end Sys2Proof.Machine
end

