-- ==== Sys2Proof/Machine/Flags.lean ====
section
/-! DEFINITION. Codes and flag bytes on the link: the codes of 10 section 10.8, the flags byte of R184, the flag bytes of the
converted values, and the codes of the named fields whose numbers the manual does not give (log 9). -/

namespace Sys2Proof

/-- Scan direction codes (10 section 10.8): 0 DS-ward, 1 TS-ward. -/
def Side.code : Side → Nat
  | .ds => 0 | .ts => 1

/-- The other end of the frame, the other sense of travel. -/
def Side.opposite : Side → Side
  | .ts => .ds
  | .ds => .ts

end Sys2Proof

namespace Sys2Proof.Machine

/-- Traverse state codes (10 section 10.8). -/
def TravState.code : TravState → Byte
  | .unhomed => 0 | .homing => 1 | .parked => 2 | .standardizing => 3 | .approach => 4
  | .scan => 5 | .turn => 6 | .point => 7 | .parking => 8 | .halted => 9

/-- Sheet state codes (10 section 10.8). -/
def SheetState.code : SheetState → Byte
  | .noSheet => 0 | .running => 1 | .sheetBreak => 2 | .threading => 3

/-- Link state codes (10 section 10.8). -/
def LinkState.code : LinkState → Byte
  | .good => 0 | .degraded => 1 | .lost => 2

/-- An operation's kind on the link: the kind of the command that started it (R185). -/
def OpKind.code : OpKind → Byte
  | .home => 0x18 | .park => 0x19 | .scan => 0x1A | .point => 0x1B | .standardize => 0x1C | .stop => 0x1D
  | .setScan => 0x1E

/-- Result codes of DONE notices (10 section 10.8). -/
def OpResult.code : OpResult → Byte
  | .complete => 0 | .aborted => 1 | .fault => 2 | .planDone => 3 | .sheetBreak => 4 | .link => 5
  | .stdFailed => 6 | .stopped => 7 | .applied => 8 | .replaced => 9 | .unconfigured => 10 | .state => 11
  | .badValue => 12 | .adopted => 16 | .adoptedDrift => 17 | .sheet => 18 | .channel => 19 | .drift => 20
  | .shutter => 21

/-- Reply codes (R184). -/
def ReplyCode.code : ReplyCode → Byte
  | .ok => 0 | .accepted => 1 | .badKind => 2 | .badLength => 3 | .badValue => 4 | .state => 5
  | .busy => 6 | .sheet => 7 | .link => 8 | .unconfigured => 9

/-- Scan completion codes (10 section 10.8). -/
def Completion.code : Completion → Nat
  | .complete => 0 | .abortedBreak => 1 | .abortedLink => 2 | .abortedFault => 3 | .abortedCommand => 4

/-- The flags byte (R184): ADJUSTED 1, REPLACED 2. -/
def flagsByte (adjusted replaced : Bool) : Byte :=
  (if adjusted then 1 else 0) ||| (if replaced then 2 else 0)

/-- The value was held at an end of its table or of its ratio: CLAMP, UNDER or OVER (R94, R111). -/
def MeasFlags.held (f : MeasFlags) : Bool := f.clamp || f.underEnd || f.overEnd

/-- One measurement's flags in a byte, in the manual's order from bit 0 up (DESIGN CHOICE, log 9). -/
def MeasFlags.byte (f : MeasFlags) : Byte :=
  (if f.clamp then 1 else 0) ||| (if f.underEnd then 2 else 0) ||| (if f.overEnd then 4 else 0) |||
  (if f.noTable then 8 else 0) ||| (if f.noRef then 16 else 0) ||| (if f.noSignal then 32 else 0)

/-- The channel mask of R52. -/
def ChannelSet.mask (c : ChannelSet) : Nat :=
  (if c.bw then 1 else 0) + (if c.mw then 2 else 0) + (if c.mr then 4 else 0) + (if c.cal then 8 else 0)

/-- Presence of values, the first in bit 0. -/
def presenceBits : List Bool → Nat
  | [] => 0
  | b :: bs => (if b then 1 else 0) + 2 * presenceBits bs

/-- Whether the shutter is commanded open in a traverse state (R17). -/
def TravState.opens : TravState → Bool
  | .standardizing | .scan | .turn | .point => true
  | .unhomed | .homing | .parked | .approach | .parking | .halted => false

/-- The states that a break or a link loss takes the head out of (R39). -/
def TravState.overSheet : TravState → Bool
  | .approach | .scan | .turn | .point => true
  | .unhomed | .homing | .parked | .standardizing | .parking | .halted => false

/-! ### Codes of named fields whose numbers the manual leaves open (DESIGN CHOICE, log 9): the order in which it lists them -/

/-- Sheet field: ALL, NONE, MIXED. -/
def SheetField.code : SheetField → Byte
  | .all => 0 | .none => 1 | .mixed => 2

/-- Gating: POSITION, TIME. -/
def Gating.code : Gating → Byte
  | .position => 0 | .time => 1

/-- Form: CONVERTED, EDGE, OFF_SHEET, RAW. -/
def Form.code : Form → Byte
  | .converted => 0 | .edge => 1 | .offSheet => 2 | .raw => 3

/-- Collection phase: IDLE, SETTLING, COLLECTING. -/
def StdPhase.code : StdPhase → Byte
  | .idle => 0 | .settling => 1 | .collecting => 2

/-- Window measurement: the codes of SET_WINDOW (07 section 7.1). -/
def WindowMeas.code : WindowMeas → Byte
  | .bw => 0 | .moist => 1 | .dry => 2 | .cal => 3

/-- Profile source: the codes of GET_PROFILE (R109). -/
def ProfileSource.code : ProfileSource → Nat
  | .latest => 1 | .filtered => 2

/-- Window state: NORMAL, PENDING, EXCURSION. -/
def WindowState.code : WindowState → Byte
  | .normal => 0 | .pending => 1 | .excursion => 2

/-- Window outcome: WITHIN, ABOVE, BELOW, NO_DATA. -/
def WindowOutcome.code : WindowOutcome → Byte
  | .within => 0 | .above => 1 | .below => 2 | .noData => 3

/-- Station state: DISABLED, NO_SHEET, RESTORING, PRESENT, LOSING, BROKEN. -/
def StationState.code : StationState → Byte
  | .disabled => 0 | .noSheet => 1 | .restoring => 2 | .present => 3 | .losing => 4 | .broken => 5

/-- Alarm entry state: IDLE, REQUESTED, IN_SERVICE, STANDING. -/
def AlarmState.code : AlarmState → Byte
  | .idle => 0 | .requested => 1 | .inService => 2 | .standing => 3

end Sys2Proof.Machine
end

