-- ==== Sys2Proof/Machine/Ops.lean ====
section
/-! DEFINITION. The named operations every block uses: writing one block's part of the state, the clock and the timers
(R194, log 1, log 2), replies, and the event-notice queue with its overflow list (R186 to R188). -/

namespace Sys2Proof.Machine

/-! ## Writing one part of the state -/

def Device.setPins (d : Device) (x : Pins) : Device := { d with pins := x }
def Device.setTrv (d : Device) (x : Trv) : Device := { d with trv := x }
def Device.setAcq (d : Device) (x : Acq) : Device := { d with acq := x }
def Device.setStd (d : Device) (x : Std) : Device := { d with std := x }
def Device.setCnv (d : Device) (x : Cnv) : Device := { d with cnv := x }
def Device.setPrf (d : Device) (x : Prf) : Device := { d with prf := x }
def Device.setWin (d : Device) (x : Vector Window 8) : Device := { d with win := x }
def Device.setBrk (d : Device) (x : Brk) : Device := { d with brk := x }
def Device.setAlm (d : Device) (x : Alm) : Device := { d with alm := x }
def Device.setLnk (d : Device) (x : Lnk) : Device := { d with lnk := x }
def Device.setClk (d : Device) (t : Nat) : Device := { d with clk := t }
def Device.setTimeBase (d : Device) (t : Nat) : Device := { d with timeBase := t }
def Device.setChanged (d : Device) (b : Bool) : Device := { d with stateChanged := b }

/-- A state whose part has been changed; the queue stays. -/
def State.onDevice (s : State) (f : Device → Device) : State := { s with dev := f s.dev }

/-- All eight station or window numbers. -/
def allEight : List (Fin 8) := [0, 1, 2, 3, 4, 5, 6, 7]

/-- All twenty-four alarm sources. -/
def allSources : List (Fin 24) :=
  [0, 1, 2, 3, 4, 5, 6, 7, 8, 9, 10, 11, 12, 13, 14, 15, 16, 17, 18, 19, 20, 21, 22, 23]

/-! ## Clock and timers -/

/-- Time passes before an event (log 1). -/
def Device.advance (d : Device) (dt : Nat) : Device := d.setClk (d.clk + dt)

/-- The millisecond time base (R194): 32 bits, wrapping. -/
def Device.now (d : Device) : Nat := wrap32 ((d.clk - d.timeBase) / 1000)

/-- A timer started now, in milliseconds. -/
def Device.after (d : Device) (ms : Nat) : Timer := some (d.clk + ms * 1000)

/-- An expiry is never earlier than its timer (log 2). -/
def Device.reach (d : Device) (t : Nat) : Device := d.setClk (max d.clk t)

/-- Milliseconds from a timestamp to now, across a wrap of the time base (R194). -/
def Device.since (d : Device) (t : Nat) : Nat := (d.now + 4294967296 - t) % 4294967296

/-! ## Replies -/

/-- What an owner answers to a command (R184): the code, the flags, the data of an OK reply. -/
structure Answer where
  code : ReplyCode
  adjusted : Bool
  replaced : Bool
  data : List Byte
  deriving DecidableEq, Repr

/-- OK with data and no flag. -/
def Answer.ok (data : List Byte) : Answer := ⟨.ok, false, false, data⟩

/-- OK with the flags of R184. -/
def Answer.flagged (adjusted replaced : Bool) : Answer := ⟨.ok, adjusted, replaced, []⟩

/-- Any other code: no flag, no data. -/
def Answer.only (code : ReplyCode) : Answer := ⟨code, false, false, []⟩

/-- The reply frame of a command (R184); a BAD_KIND reply has the kind 0xFF (R183). -/
def Answer.frame (a : Answer) (f : Frame) : Frame :=
  ⟨if a.code = .badKind then 0xFF else f.kind + 0x80, f.tag,
   a.code.code :: flagsByte a.adjusted a.replaced :: a.data⟩

/-- A reply is placed in the reply queue (R182). -/
def Device.pushReply (d : Device) (f : Frame) : Device :=
  d.setLnk { d.lnk with replyQ := d.lnk.replyQ ++ [f] }

/-! ## The event-notice queue -/

def startedKind : Byte := 0xC0
def doneKind : Byte := 0xC1
def stateKind : Byte := 0xC2
def breakKind : Byte := 0xC3
def alarmKind : Byte := 0xC4
def profileKind : Byte := 0xC5
def segmentKind : Byte := 0xC6
def pointDataKind : Byte := 0xC7

/-- The event-notice queue has a free place (R186). -/
def Lnk.eventRoom (l : Lnk) : Bool := decide (l.eventQ.length < 8)

/-- A DONE or STATE notice is offered (R186, R187): placed, kept in the overflow list, or, for a DONE beyond eight, lost. -/
def Device.offer (d : Device) (f : Frame) : Device :=
  if d.lnk.eventRoom ∧ d.lnk.overflow = [] then
    d.setLnk { d.lnk with eventQ := d.lnk.eventQ ++ [f] }
  else if f.kind = doneKind ∧ 8 ≤ (d.lnk.overflow.filter (fun g => g.kind = doneKind)).length then
    d.setLnk { d.lnk with counts := { d.lnk.counts with lostDone := sat16 (d.lnk.counts.lostDone + 1) } }
  else
    d.setLnk { d.lnk with overflow := d.lnk.overflow ++ [f] }

/-- A DONE notice (R185): kind, result, flags byte, traverse state, standardization result or 255. -/
def Device.offerDone (d : Device) (kind : OpKind) (tag : Byte) (r : OpResult) (adjusted : Bool)
    (std : Option OpResult) : Device :=
  d.offer ⟨doneKind, tag,
    [kind.code, r.code, flagsByte adjusted false, d.trv.state.code, (std.map OpResult.code).getD 255]⟩

/-- The states that a STATE notice reports, as they now stand (R188). -/
def Device.stateBytes (d : Device) : List Byte :=
  [d.trv.state.code, boolByte d.trv.homed, d.brk.sheet.code, d.lnk.link.code]

/-- The payload of a STATE notice at a change: the states and the time as they now stand (R188). -/
def Device.statePayload (d : Device) : List Byte := d.stateBytes ++ beBytes 4 d.now

/-- A waiting STATE notice takes the states as they now stand (R188). -/
def refreshState (p : List Byte) (q : List Frame) : List Frame :=
  q.map (fun f => if f.kind = stateKind then { f with payload := p } else f)

/-- A STATE notice waits in a queue. -/
def hasState (q : List Frame) : Bool := q.any (fun f => f.kind = stateKind)

/-- A STATE notice is offered, or the waiting one is updated in place (R188). -/
def Device.offerState (d : Device) : Device :=
  if hasState d.lnk.eventQ || hasState d.lnk.overflow then
    d.setLnk { d.lnk with eventQ := refreshState d.statePayload d.lnk.eventQ,
                          overflow := refreshState d.statePayload d.lnk.overflow }
  else d.offer ⟨stateKind, 0, d.statePayload⟩

/-- At the end of an event that changed a traverse, sheet or link state, the STATE notice is offered (R188, log 5). -/
def Device.settle (d : Device) : Device :=
  if d.stateChanged then d.offerState.setChanged false else d

end Sys2Proof.Machine
end

