-- ==== Sys2Proof/Machine/Conversion.lean ====
section
/-! DEFINITION. The Conversion Engine (05): rates, ratios, linearization, derived values, statistics, and the commands it owns
(SET_TABLE, GET_TABLE, CONVERT). -/

namespace Sys2Proof.Machine

/-- The largest x and the ratio clamp: 1.5 in Q16 (R77, R83). -/
def ratioMax : Nat := 98304

/-! ## Linearization (R86) -/

/-- A linearized value with its UNDER and OVER flags. -/
structure Lin where
  value : Nat
  underEnd : Bool
  overEnd : Bool
  deriving DecidableEq, Repr

/-- The value inside an interval x0 ≤ q < x1 (R86): the product formed exactly, the quotient rounded half away from zero. -/
def interpolate (k0 k1 : Nat × Nat) (q : Nat) : Nat :=
  ((k0.2 : Int) + roundHalfAway (((k1.2 : Int) - k0.2) * ((q : Int) - k0.1)) (k1.1 - k0.1)).toNat

/-- From a knot whose x is at most q, along the knots above it (R86). -/
def linearizeFrom (k : Nat × Nat) : List (Nat × Nat) → Nat → Lin
  | [], q => ⟨k.2, false, decide (k.1 < q)⟩
  | k' :: ks, q => if q < k'.1 then ⟨interpolate k k' q, false, false⟩ else linearizeFrom k' ks q

/-- A ratio through a table; none when the table is empty (R86, R87). -/
def linearize (knots : List (Nat × Nat)) (q : Nat) : Option Lin :=
  match knots with
  | [] => none
  | k :: ks => some (if q < k.1 then ⟨k.2, true, false⟩ else linearizeFrom k ks q)

/-! ## The stages -/

/-- A rate in counts per second (R82, and R64 over the sums). -/
def rate (count dur : Nat) : Nat := count * 1000000 / dur

/-- A normalized ratio brought to at most 98,304, and whether that clamped it (R83, R84). -/
def clampRatio (q : Nat) : Nat × Bool := if ratioMax < q then (ratioMax, true) else (q, false)

/-- The linearized value of a measurement whose ratio is present, with its flags (R86, R87). -/
def measured (t : LinTable) (q : Nat) (clamped : Bool) : Option Nat × MeasFlags :=
  match linearize t.knots q with
  | none => (none, { MeasFlags.clear with clamp := clamped, noTable := true })
  | some l => (some l.value, { MeasFlags.clear with clamp := clamped, underEnd := l.underEnd, overEnd := l.overEnd })

/-- The moisture of the linearized weights (R88). -/
def moistureOf (bw water : Option Nat) : Option Nat :=
  match bw, water with
  | some b, some w => if b = 0 then none else some (min 10000 (roundHalfUp (w * 10000) b))
  | _, _ => none

/-- The dry weight (R89). -/
def dryOf (bw water : Option Nat) : Option Nat :=
  match bw, water with
  | some b, some w => some (b - w)
  | _, _ => none

/-- WET: WATER exceeded BW (R89). -/
def wetOf (bw water : Option Nat) : Bool :=
  match bw, water with
  | some b, some w => decide (b < w)
  | _, _ => false

/-- A record that is not converted: ratios and values absent, flags as given (R80, R90). -/
def bareRecord (s : Sample) (form : Form) (f : MeasFlags) : ConvRecord :=
  ⟨s, form, none, none, none, none, none, none, none, none, f, f, f, false⟩

/-- NOREF alone: the flags of a RAW record (R90). -/
def noRefFlags : MeasFlags := { MeasFlags.clear with noRef := true }

/-- The moisture stage (R84): the ratio, the value and the flags. NOREF is judged by the truncated rate R_mr, also where c_mr is not 0
(DEDUCED, log 40). -/
def waterStage (t : LinTable) (ref : RefSet) (s : Sample) : Option Nat × Option Nat × MeasFlags :=
  let rMr := rate s.mr s.dur
  if rMr = 0 then (none, none, noRefFlags)
  else
    let m := rate s.mw s.dur * 65536 / rMr
    let q := clampRatio (m * 65536 / ref.m)
    let v := measured t q.1 q.2
    (some q.1, v.1, v.2)

/-- The caliper stage (R85). -/
def calStage (t : LinTable) (ref : RefSet) (s : Sample) : Option Nat × Option Nat × MeasFlags :=
  if s.calTotal = 0 then (none, none, { MeasFlags.clear with noSignal := true })
  else
    let duty := s.calHigh * 65536 / s.calTotal
    let v := measured t (duty - ref.d0) (decide (duty < ref.d0))
    (some (duty - ref.d0), v.1, v.2)

/-- The conversion of a CONVERTED record (R82 to R89). -/
def convertWith (c : Cnv) (ref : RefSet) (s : Sample) : ConvRecord :=
  let q := clampRatio (rate s.bw s.dur * 65536 / ref.rBw)
  let b := measured c.bw q.1 q.2
  let w := waterStage c.water ref s
  let k := calStage c.cal ref s
  { sample := s, form := .converted, qBw := some q.1, qW := w.1, qC := k.1,
    bw := b.1, water := w.2.1, cal := k.2.1,
    moisture := moistureOf b.1 w.2.1, dry := dryOf b.1 w.2.1,
    bwFlags := b.2, waterFlags := w.2.2, calFlags := k.2.2, wet := wetOf b.1 w.2.1 }

/-- The form and conversion of a record (R80): `scanning` for one closed in SCAN, else one closed in POINT. -/
def convertRecord (c : Cnv) (ref : Option RefSet) (scanning : Bool) (s : Sample) : ConvRecord :=
  if scanning ∧ s.sheet = .mixed then bareRecord s .edge .clear
  else if scanning ∧ s.sheet = .none then bareRecord s .offSheet .clear
  else match ref with
    | none => bareRecord s .raw noRefFlags
    | some r => convertWith c r s

/-! ## Statistics (R91) -/

/-- A table's statistics after a conversion that used it: the ratio was present and the table was not empty. -/
def LinTable.counted (t : LinTable) (q : Option Nat) (f : MeasFlags) : LinTable :=
  if q.isSome ∧ t.knots ≠ [] then
    { t with converted := sat32 (t.converted + 1),
             underCount := if f.underEnd then sat32 (t.underCount + 1) else t.underCount,
             overCount := if f.overEnd then sat32 (t.overCount + 1) else t.overCount }
  else t

/-- The statistics after a record (R91): only a CONVERTED record counts. -/
def Cnv.counted (c : Cnv) (r : ConvRecord) : Cnv :=
  if r.form = .converted then
    ⟨c.bw.counted r.qBw r.bwFlags, c.water.counted r.qW r.waterFlags, c.cal.counted r.qC r.calFlags⟩
  else c

/-- A sample closed in SCAN or POINT is converted once, with what is in force (R80, R81, R91). -/
def Device.convertSample (d : Device) (scanning : Bool) (s : Sample) : Device × ConvRecord :=
  let r := convertRecord d.cnv d.std.ref scanning s
  (d.setCnv (d.cnv.counted r), r)

/-! ## Commands -/

/-- A table by its number (05 section 5.1). -/
def Cnv.table (c : Cnv) (n : Nat) : LinTable := if n = 0 then c.bw else if n = 1 then c.water else c.cal

/-- One table replaced. -/
def Cnv.setTable (c : Cnv) (n : Nat) (t : LinTable) : Cnv :=
  if n = 0 then { c with bw := t } else if n = 1 then { c with water := t } else { c with cal := t }

/-- The knots of a SET_TABLE payload: six bytes each from an offset on (05 section 5.1). -/
def knotsAt (p : List Byte) (count : Nat) : List (Nat × Nat) :=
  (List.range count).map (fun i => (field p (2 + 6 * i) 4, field p (6 + 6 * i) 2))

/-- Strictly increasing x values. -/
def increasing : List (Nat × Nat) → Bool
  | k :: k' :: ks => decide (k.1 < k'.1) && increasing (k' :: ks)
  | _ => true

/-- SET_TABLE (R77): replaces or empties one table and clears its statistics (R91). -/
def Device.setTable (f : Frame) (d : Device) : Device × Option Answer :=
  let p := f.payload
  if p.length < 2 then (d, some (.only .badLength))
  else
    let count := field p 1 1
    if p.length ≠ 2 + 6 * count then (d, some (.only .badLength))
    else
      let n := field p 0 1
      let knots := knotsAt p count
      if 2 < n ∨ count = 1 ∨ 16 < count ∨ knots.any (fun k => decide (ratioMax < k.1)) ∨ !increasing knots then
        (d, some (.only .badValue))
      else (d.setCnv (d.cnv.setTable n ⟨knots, 0, 0, 0⟩), some (.ok []))

/-- GET_TABLE (R79). -/
def Device.getTable (f : Frame) (d : Device) : Device × Option Answer :=
  if f.payload.length ≠ 1 then (d, some (.only .badLength))
  else
    let n := field f.payload 0 1
    if 2 < n then (d, some (.only .badValue))
    else
      let t := d.cnv.table n
      (d, some (.ok ([BitVec.ofNat 8 n, BitVec.ofNat 8 t.knots.length] ++
        t.knots.flatMap (fun k => beBytes 4 k.1 ++ beBytes 2 k.2) ++
        beBytes 4 t.converted ++ beBytes 4 t.underCount ++ beBytes 4 t.overCount)))

/-- The sample that CONVERT supplies: closed in POINT, sheet ALL, SAT clear (R92). -/
def suppliedSample (p : List Byte) : Sample :=
  { gating := .time, start := 0, stop := 0, dur := field p 0 4, bw := field p 4 4, mw := field p 8 4,
    mr := field p 12 4, calHigh := field p 16 4, calTotal := field p 20 4, sheet := .all, speed := 0, time := 0,
    sat := false }

/-- The converted values as named fields: form, ratios (absent as 0xFFFFFFFF), a presence byte for BW, WATER, CAL, moisture
and dry from bit 0, the five values, the three flag bytes and WET (sizes DESIGN CHOICE, log 9). -/
def ConvRecord.valueBytes (r : ConvRecord) : List Byte :=
  [r.form.code] ++ opt32 r.qBw ++ opt32 r.qW ++ opt32 r.qC ++
  [BitVec.ofNat 8 (presenceBits [r.bw.isSome, r.water.isSome, r.cal.isSome, r.moisture.isSome, r.dry.isSome])] ++
  opt16 r.bw ++ opt16 r.water ++ opt16 r.cal ++ opt16 r.moisture ++ opt16 r.dry ++
  [r.bwFlags.byte, r.waterFlags.byte, r.calFlags.byte, boolByte r.wet]

/-- CONVERT (R92): no state changes. -/
def Device.convert (f : Frame) (d : Device) : Device × Option Answer :=
  if f.payload.length ≠ 24 then (d, some (.only .badLength))
  else
    let s := suppliedSample f.payload
    if s.dur = 0 ∨ 16777215 < s.bw ∨ 16777215 < s.mw ∨ 16777215 < s.mr ∨ s.calTotal < s.calHigh then
      (d, some (.only .badValue))
    else (d, some (.ok (convertRecord d.cnv d.std.ref false s).valueBytes))

end Sys2Proof.Machine
end

