-- ==== Sys2Proof/Machine/Alarms.lean ====
section
/-! DEFINITION. The Alarm Controller (09): rises and falls, the delivery examination, acknowledgement, and the three commands
it owns (ACK, SET_ALARM_MODE, GET_ALARMS). -/

namespace Sys2Proof.Machine

/-! ## Sources (09 section 9.1) -/

def srcPositionLost : Fin 24 := 0
def srcOvertravel : Fin 24 := 1
def srcDriveFault : Fin 24 := 2
def srcShutter : Fin 24 := 3
def srcStdFail : Fin 24 := 12
def srcStdDrift : Fin 24 := 13
def srcChannelFault : Fin 24 := 14
def srcLinkDegraded : Fin 24 := 15

/-- BRK0 to BRK7 are sources 4 to 11 (R147). -/
def srcBreak (n : Fin 8) : Fin 24 := ⟨4 + n.val, by omega⟩

/-- WIN0 to WIN7 are sources 16 to 23 (R122). -/
def srcWindow (n : Fin 8) : Fin 24 := ⟨16 + n.val, by omega⟩

/-- A condition value of a code and a detail: the code times 16,777,216 plus the detail. -/
def codedValue (code detail : Nat) : Nat := code * 16777216 + detail

/-! ## Entries and priority -/

def Alm.entry (a : Alm) (s : Fin 24) : AlarmEntry := a.entries[s]

def Device.entry (d : Device) (s : Fin 24) : AlarmEntry := d.alm.entry s

/-- The live condition of a source: its owner's level (R152). -/
def Device.cond (d : Device) (s : Fin 24) : Bool := (d.entry s).live

def Device.setEntry (d : Device) (s : Fin 24) (e : AlarmEntry) : Device :=
  d.setAlm { d.alm with entries := d.alm.entries.set s e }

/-- The priority rank of a source under L (R157). -/
def Alm.rank (a : Alm) (s : Fin 24) : Fin 24 := s - a.lowest - 1

/-- The source that holds a rank under L (R157). -/
def Alm.atRank (a : Alm) (r : Fin 24) : Fin 24 := a.lowest + 1 + r

/-- The sources from the highest priority to the lowest. -/
def Alm.order (a : Alm) : List (Fin 24) := allSources.map a.atRank

/-- A source's mark in the mask set (R156). -/
def Alm.masked (a : Alm) (s : Fin 24) : Bool := a.mask.getLsbD s.val

/-- The REQUESTED entry of highest priority whose source is not masked (R160). -/
def Alm.candidate (a : Alm) : Option (Fin 24) :=
  a.order.find? (fun s => decide ((a.entry s).state = .requested) && !(a.masked s))

/-- The IN_SERVICE entry of highest priority (R165). -/
def Alm.topInService (a : Alm) : Option (Fin 24) :=
  a.order.find? (fun s => decide ((a.entry s).state = .inService))

/-- No entry of equal or higher priority is in service (R161). -/
def Alm.outranksService (a : Alm) (s : Fin 24) : Bool :=
  match a.topInService with
  | none => true
  | some t => decide (a.rank s < a.rank t)

/-- The candidate's test: nested delivery (R161), or special-mask mode (R162). -/
def Alm.passes (a : Alm) (s : Fin 24) : Bool := a.specialMask || a.outranksService s

/-! ## Delivery -/

/-- The ALARM notice of an entry at its placement (R159). -/
def Alm.notice (a : Alm) (s : Fin 24) : Frame :=
  let e := a.entry s
  ⟨alarmKind, 0,
   [BitVec.ofNat 8 s.val, boolByte e.live ||| (if a.autoAck then 2 else 0)] ++ beBytes 2 e.repeats ++
     opt32 e.value ++ opt32 e.first⟩

/-- An acknowledged entry: STANDING or IDLE, and in rotating mode the new L (R166, R158). -/
def Device.acknowledge (d : Device) (s : Fin 24) : Device :=
  let e := d.entry s
  let d := d.setEntry s { e with state := if e.live then .standing else .idle }
  if d.alm.rotating then d.setAlm { d.alm with lowest := s } else d

/-- The candidate's notice is placed and it goes IN_SERVICE, or past it with auto-acknowledge on (R160, R164). -/
def Device.placeAlarm (d : Device) (s : Fin 24) : Device :=
  let n := d.alm.notice s
  let d := d.setLnk { d.lnk with alarmQ := d.lnk.alarmQ ++ [n] }
  let d := d.setEntry s { d.entry s with state := .inService }
  if d.alm.autoAck then d.acknowledge s else d

/-- The examination's choices, at most as many as the queue has places (R160). -/
def Device.examineLoop : Nat → Device → Device
  | 0, d => d
  | k + 1, d =>
    match d.alm.candidate with
    | none => d
    | some s =>
      if d.alm.passes s ∧ d.lnk.alarmQ.length < 8 then examineLoop k (d.placeAlarm s) else d

/-- A delivery examination (R160): nothing is placed under the delivery hold (R171). -/
def Device.examine (d : Device) : Device := if d.alm.hold then d else d.examineLoop 8

/-! ## Rises and falls -/

/-- An entry after a rise (R153, R154). -/
def AlarmEntry.afterRise (e : AlarmEntry) (now value : Nat) : AlarmEntry :=
  if e.state = .idle then ⟨.requested, true, 0, some now, some now, some value⟩
  else { e with live := true, repeats := sat16 (e.repeats + 1), last := some now }

/-- An entry after a fall (R155). -/
def AlarmEntry.afterFall (e : AlarmEntry) : AlarmEntry :=
  { e with live := false, state := if e.state = .standing then .idle else e.state }

/-- An owner hands a rise: the entry is latched or counts a repeat, and an examination runs (R154). -/
def Device.rise (d : Device) (s : Fin 24) (value : Nat) : Device :=
  (d.setEntry s ((d.entry s).afterRise d.now value)).examine

/-- An owner hands a fall (R155). No examination follows. -/
def Device.fall (d : Device) (s : Fin 24) : Device := d.setEntry s (d.entry s).afterFall

/-- A fall where the condition is active. -/
def Device.fallIfActive (d : Device) (s : Fin 24) : Device := if d.cond s then d.fall s else d

/-! ## Commands -/

/-- The number of entries in a state. -/
def Alm.countIn (a : Alm) (st : AlarmState) : Nat := (allSources.filter (fun s => (a.entry s).state = st)).length

/-- ACK (R165, R166). -/
def Device.ack (f : Frame) (d : Device) : Device × Option Answer :=
  if f.payload.length ≠ 1 then (d, some (.only .badLength))
  else
    let n := field f.payload 0 1
    let chosen : Option (Fin 24) :=
      if h : n < 24 then
        (if (d.entry ⟨n, h⟩).state = .inService then some ⟨n, h⟩ else none)
      else d.alm.topInService
    if 24 ≤ n ∧ n < 255 then (d, some (.only .badValue))
    else match chosen with
      | none => (d, some (.only .state))
      | some s =>
        let acked := d.acknowledge s
        (acked.examine, some (.ok [BitVec.ofNat 8 s.val, (acked.entry s).state.code]))

/-- SET_ALARM_MODE (R168). -/
def Device.setAlarmMode (f : Frame) (d : Device) : Device × Option Answer :=
  let p := f.payload
  if p.length ≠ 7 then (d, some (.only .badLength))
  else if 1 < field p 0 1 ∨ 23 < field p 1 1 ∨ 1 < field p 2 1 ∨ 1 < field p 3 1 then (d, some (.only .badValue))
  else
    let a := { d.alm with
      rotating := decide (field p 0 1 = 1), lowest := Fin.ofNat 24 (field p 1 1),
      specialMask := decide (field p 2 1 = 1), autoAck := decide (field p 3 1 = 1),
      mask := BitVec.ofNat 24 (field p 4 3) }
    ((d.setAlm a).examine, some (.ok []))

/-- Why the candidate waits (R169): HELD, then NESTED, then QUEUE_FULL; 255 with no candidate. The codes 0, 1, 2 stand for
NESTED, QUEUE_FULL and HELD, in the order the rule names them (DESIGN CHOICE, log 9). In special-mask mode nothing nests (R162), so
the reason is never NESTED there (DEDUCED, log 38). -/
def Device.waitReason (d : Device) : Byte :=
  match d.alm.candidate with
  | none => 255
  | some s => if d.alm.hold then 2 else if !(d.alm.passes s) then 0 else 1

/-- One entry of GET_ALARMS: every field of the entry table, and the rank (R169). -/
def Device.alarmBytes (d : Device) (s : Fin 24) : List Byte :=
  let e := d.entry s
  [BitVec.ofNat 8 s.val, e.state.code, boolByte e.live, boolByte (d.alm.masked s)] ++ beBytes 2 e.repeats ++
    opt32 e.first ++ opt32 e.last ++ opt32 e.value ++ [BitVec.ofNat 8 (d.alm.rank s).val]

/-- GET_ALARMS (R169). -/
def Device.getAlarms (f : Frame) (d : Device) : Device × Option Answer :=
  if f.payload.length ≠ 1 then (d, some (.only .badLength))
  else
    let n := field f.payload 0 1
    if 23 < n then (d, some (.only .badValue))
    else (d, some (.ok (
      [boolByte d.alm.rotating, BitVec.ofNat 8 d.alm.lowest.val, boolByte d.alm.specialMask, boolByte d.alm.autoAck] ++
      beBytes 3 d.alm.mask.toNat ++ [boolByte d.alm.hold] ++
      [BitVec.ofNat 8 (d.alm.countIn .requested), BitVec.ofNat 8 (d.alm.countIn .inService)] ++
      [match d.alm.candidate with | some s => BitVec.ofNat 8 s.val | none => 255, d.waitReason] ++
      ((allSources.drop n).take 8).flatMap d.alarmBytes)))

end Sys2Proof.Machine
end

