-- ==== Sys2Proof/Machine/Windows.lean ====
section
/-! DEFINITION. The Limit Window Monitor (07): window definitions, the evaluation at a COMPLETE close, states and persistence,
and the commands it owns (SET_WINDOW, GET_WINDOW). -/

namespace Sys2Proof.Machine

def Device.window (d : Device) (n : Fin 8) : Window := d.win[n]

def Device.setWindowAt (d : Device) (n : Fin 8) (w : Window) : Device := d.setWin (d.win.set n w)

/-- A window's definition is present and enabled (R118). -/
def Window.enabled (w : Window) : Bool :=
  match w.definition with
  | none => false
  | some f => f.enabled

/-! ## Evaluation -/

/-- The value of a measurement in a slice. -/
def Slice.meas (s : Slice) : WindowMeas → Option Nat
  | .bw => s.bw
  | .moist => s.moisture
  | .dry => s.dry
  | .cal => s.cal

/-- What a slice gives a window (R105, R119): in LATEST only a slice valid in the scan counts. -/
def Slice.counting (s : Slice) (src : ProfileSource) (m : WindowMeas) : Option Nat :=
  match src with
  | .latest => if s.valid then s.meas m else none
  | .filtered => s.meas m

/-- The present members of a window in a profile's slice list (R116). -/
def WindowDef.members (w : WindowDef) (slices : List Slice) : List Slice := (slices.drop w.base).take (2 ^ w.exponent)

/-- The values that take part (R119). -/
def WindowDef.values (w : WindowDef) (p : Option Profile) : List Nat :=
  match p with
  | none => []
  | some p => (w.members p.slices).filterMap (fun s => s.counting w.source w.meas)

/-- The judgement of a window value (R120). -/
def WindowDef.judge (w : WindowDef) (v : Nat) : WindowOutcome :=
  if w.high.any (fun h => decide (h < v)) then .above
  else if w.low.any (fun l => decide (v < l)) then .below
  else .within

/-- A persistence of 0 is taken as 1 (R115, R121). -/
def WindowDef.runLength (w : WindowDef) : Nat := max 1 w.persistence

/-- The state and counter after an evaluation that found data (R121). -/
def windowNext (st : WindowState) (c p : Nat) (out : Bool) : WindowState × Nat :=
  match st, out with
  | .normal, true => if p = 1 then (.excursion, 0) else (.pending, 1)
  | .normal, false => (.normal, 0)
  | .pending, true => if p ≤ c + 1 then (.excursion, 0) else (.pending, c + 1)
  | .pending, false => (.normal, 0)
  | .excursion, true => (.excursion, 0)
  | .excursion, false => if p ≤ c + 1 then (.normal, 0) else (.excursion, c + 1)

/-- A window after one evaluation, and the value of the condition's rise where the window enters EXCURSION
(R121, R123, R124). -/
def Window.evaluated (w : Window) (f : WindowDef) (scan : Nat) (values : List Nat) : Window :=
  if values = [] then { w with eval := some ⟨scan, .noData, none, 0⟩ }
  else
    let v := values.sum / values.length
    let o := f.judge v
    let n := windowNext w.state w.counter f.runLength (decide (o ≠ .within))
    { w with state := n.1, counter := n.2, eval := some ⟨scan, o, some v, values.length⟩,
             excursion := if n.1 = .excursion ∧ w.state ≠ .excursion then some ⟨decide (o = .above), v, scan⟩
                          else w.excursion }

/-- One window is evaluated, with the rise or fall of its condition (R118, R122). -/
def Device.evaluateWindow (d : Device) (scan : Nat) (n : Fin 8) : Device :=
  let w := d.window n
  match w.definition with
  | none => d
  | some f =>
    if f.enabled then
      let values := f.values (match f.source with | .latest => d.prf.latest | .filtered => d.prf.filtered)
      let w' := w.evaluated f scan values
      let d := d.setWindowAt n w'
      if w'.state = .excursion ∧ w.state ≠ .excursion then d.rise (srcWindow n) (values.sum / values.length)
      else if w.state = .excursion ∧ w'.state ≠ .excursion then d.fall (srcWindow n)
      else d
    else d

/-- PRF tells WIN to evaluate its windows at a COMPLETE close (R118, R105). -/
def Device.evaluateWindows (d : Device) (scan : Nat) : Device :=
  allEight.foldl (fun d n => d.evaluateWindow scan n) d

/-! ## Commands -/

/-- The measurement a code names (07 section 7.1). -/
def windowMeasOf (n : Nat) : WindowMeas := if n = 0 then .bw else if n = 1 then .moist else if n = 2 then .dry else .cal

/-- The definition a SET_WINDOW payload carries, its base rounded down and its persistence taken as at least 1 (R115). -/
def windowDefOf (p : List Byte) : WindowDef :=
  { enabled := decide (field p 1 1 = 1), exponent := field p 2 1,
    base := field p 3 2 / 2 ^ field p 2 1 * 2 ^ field p 2 1, meas := windowMeasOf (field p 5 1),
    high := if field p 6 1 % 2 = 1 then some (field p 7 2) else none,
    low := if field p 6 1 / 2 = 1 then some (field p 9 2) else none,
    persistence := max 1 (field p 11 1),
    source := if field p 12 1 = 1 then .latest else .filtered }

/-- A structural field of SET_WINDOW is out of range (R115). -/
def windowRefused (p : List Byte) : Bool :=
  decide (7 < field p 0 1) || decide (1 < field p 1 1) || decide (7 < field p 2 1) || decide (599 < field p 3 2) ||
  decide (3 < field p 5 1) || decide (3 < field p 6 1) || decide (field p 12 1 ≠ 1 ∧ field p 12 1 ≠ 2) ||
  decide (field p 6 1 = 3 ∧ field p 7 2 < field p 9 2)

/-- SET_WINDOW (R115, R117). -/
def Device.setWindow (f : Frame) (d : Device) : Device × Option Answer :=
  let p := f.payload
  if p.length ≠ 13 then (d, some (.only .badLength))
  else if windowRefused p then (d, some (.only .badValue))
  else
    let n : Fin 8 := Fin.ofNat 8 (field p 0 1)
    let w := d.window n
    let def' := windowDefOf p
    let d' := d.setWindowAt n ⟨some def', .normal, 0, none, w.excursion⟩
    (if w.state = .excursion then d'.fall (srcWindow n) else d',
     some (.flagged (decide (def'.base ≠ field p 3 2)) false))

/-- The definition's fields as accepted (R126); limit presence as in SET_WINDOW. -/
def WindowDef.bytes (w : WindowDef) : List Byte :=
  [boolByte w.enabled, BitVec.ofNat 8 w.exponent] ++ beBytes 2 w.base ++
  [w.meas.code, BitVec.ofNat 8 (presenceBits [w.high.isSome, w.low.isSome])] ++ opt16 w.high ++ opt16 w.low ++
  [BitVec.ofNat 8 w.persistence, BitVec.ofNat 8 w.source.code]

/-- GET_WINDOW (R126); sizes of the records' fields are DESIGN CHOICE (log 9). -/
def Device.getWindow (f : Frame) (d : Device) : Device × Option Answer :=
  if f.payload.length ≠ 1 then (d, some (.only .badLength))
  else
    let n := field f.payload 0 1
    if 7 < n then (d, some (.only .badValue))
    else
      let w := d.window (Fin.ofNat 8 n)
      (d, some (.ok (
        [BitVec.ofNat 8 n, presence w.definition] ++ (match w.definition with | none => [] | some f => f.bytes) ++
        [w.state.code, BitVec.ofNat 8 w.counter, presence w.eval] ++
        (match w.eval with
         | none => []
         | some e => beBytes 4 e.scan ++ [e.outcome.code, presence e.value] ++ opt16 e.value ++ [BitVec.ofNat 8 e.slices]) ++
        [presence w.excursion] ++
        (match w.excursion with
         | none => []
         | some x => [if x.above then 1 else 2] ++ beBytes 2 x.value ++ beBytes 4 x.scan))))

end Sys2Proof.Machine
end

