-- ==== Sys2Proof/Machine/Profiles.lean ====
section
/-! DEFINITION. The Profile Builder (06): slices, the scan-close operation, FILTERED, reports, the point ring and its batches,
and the commands it owns (GET_PROFILE, GET_POINT). -/

namespace Sys2Proof.Machine

/-! ## The open scan (R93 to R96) -/

/-- A measurement's sum and count after a record in which it may be present (R94). -/
def addValue (sum count : Nat) (v : Option Nat) : Nat × Nat :=
  match v with
  | none => (sum, count)
  | some x => (sum + x, sat16 (count + 1))

/-- An accumulator after a record assigned to its slice (R94, R95). -/
def SliceAcc.take (a : SliceAcc) (r : ConvRecord) : SliceAcc :=
  match r.form with
  | .converted =>
    let b := addValue a.bwSum a.bwCount r.bw
    let w := addValue a.waterSum a.waterCount r.water
    let k := addValue a.calSum a.calCount r.cal
    { a with n := sat16 (a.n + 1), bwSum := b.1, bwCount := b.2, waterSum := w.1, waterCount := w.2,
             calSum := k.1, calCount := k.2,
             clampMark := a.clampMark || r.bwFlags.held || r.waterFlags.held || r.calFlags.held }
  | .raw => { a with n := sat16 (a.n + 1) }
  | .edge => { a with edgeMark := true }
  | .offSheet => { a with offSheet := sat16 (a.offSheet + 1) }

/-- A record's midpoint (R93). -/
def Sample.mid (s : Sample) : Nat := (s.start + s.stop) / 2

/-- The slice a midpoint lies in, if any (R93). -/
def SliceMap.slice (m : SliceMap) (mid : Nat) : Option Nat :=
  if mid < m.p0 then none
  else if (mid - m.p0) / m.width < m.count then some ((mid - m.p0) / m.width) else none

/-- The open scan after a record (R93): its speed, the edge search, and the slice it is assigned to. -/
def OpenScan.take (o : OpenScan) (r : ConvRecord) : OpenScan :=
  let mid := r.sample.mid
  let o := { o with speedSum := o.speedSum + r.sample.speed, speedCount := o.speedCount + 1 }
  let o := if r.sample.sheet = .all then
      { o with minAll := some (match o.minAll with | none => mid | some m => min m mid),
               maxAll := some (match o.maxAll with | none => mid | some m => max m mid) }
    else o
  match o.map.slice mid with
  | none => o
  | some k => { o with slices := o.slices.modify k (fun a => a.take r) }

/-- A scan opens at the entry to SCAN (R96). -/
def Device.openScanRecord (d : Device) (side : Side) : Device :=
  let n := wrap32 (d.prf.scanNumber + 1)
  let m : SliceMap := match d.trv.active with
    | none => ⟨0, 0, 0⟩
    | some a => ⟨a.p0, a.width, a.count⟩
  d.setPrf { d.prf with scanNumber := n,
                        openScan := some ⟨n, side, d.now, m, 0, 0, none, none, List.replicate m.count .empty⟩ }

/-! ## The finished record (R98 to R100) -/

/-- The mean of a sum, absent with no record (R98). -/
def sliceMean (sum count : Nat) : Option Nat := if count = 0 then none else some (roundHalfUp sum count)

/-- A slice of the scan record from its accumulator (R98, R99). -/
def SliceAcc.finish (a : SliceAcc) (minSamples : Nat) : Slice :=
  let b := sliceMean a.bwSum a.bwCount
  let w := sliceMean a.waterSum a.waterCount
  { bw := b, water := w, cal := sliceMean a.calSum a.calCount,
    moisture := if b.isNone ∨ w.isNone ∨ a.bwSum = 0 then none
                else some (min 10000 (roundHalfUp (a.waterSum * 10000) a.bwSum)),
    dry := dryOf b w,
    notScanned := decide (a.n = 0 ∧ a.offSheet = 0) && !a.edgeMark,
    offSheet := decide (a.n = 0 ∧ 0 < a.offSheet) && !a.edgeMark,
    weak := decide (0 < a.n ∧ a.n < minSamples), edge := a.edgeMark, clamped := a.clampMark,
    n := a.n, valid := decide (minSamples ≤ a.n) }

/-- The truncated mean and the range of a list of values, absent when there is none (R100). -/
def meanRange (vs : List Nat) : Option MeanRange :=
  match vs with
  | [] => none
  | v :: rest => some ⟨vs.sum / vs.length, rest.foldl max v - rest.foldl min v⟩

/-- The scan record (R100). -/
def OpenScan.finish (o : OpenScan) (minSamples now : Nat) (c : Completion) : Profile :=
  let slices := o.slices.map (fun a => a.finish minSamples)
  let good := slices.filter (fun s => s.valid)
  { number := o.number, dir := o.dir, startTime := o.startTime, endTime := now, completion := c, map := o.map,
    tsEdge := o.minAll, dsEdge := o.maxAll,
    meanSpeed := if o.speedCount = 0 then none else some (o.speedSum / o.speedCount),
    validCount := good.length, bw := meanRange (good.filterMap Slice.bw),
    moisture := meanRange (good.filterMap Slice.moisture), cal := meanRange (good.filterMap Slice.cal),
    slices := slices }

/-! ## FILTERED (R103, R104) -/

/-- A present filtered value moves toward the scan's (R103). -/
def filterStep (weight f s : Nat) : Nat := ((f : Int) + roundHalfAway (((s : Int) - f) * weight) 256).toNat

/-- One filtered value, the reseed flag clear (R103). -/
def filterValue (weight : Nat) (f s : Option Nat) : Option Nat :=
  match s with
  | none => f
  | some s => some (match f with | none => s | some f => filterStep weight f s)

/-- A slice has a value of some measurement. -/
def Slice.hasValue (s : Slice) : Bool :=
  s.bw.isSome || s.water.isSome || s.cal.isSome || s.moisture.isSome || s.dry.isSome

/-- A slice of FILTERED after a reseed from a slice of the scan (R103). -/
def Slice.reseeded (s : Slice) : Slice :=
  if s.valid then { s with n := if s.hasValue then 1 else 0 }
  else { s with bw := none, water := none, cal := none, moisture := none, dry := none, n := 0 }

/-- A slice of FILTERED after an update without reseed (R103): fold count, values, and the scan's flags. -/
def Slice.folded (weight : Nat) (f s : Slice) : Slice :=
  if s.valid then
    { s with bw := filterValue weight f.bw s.bw, water := filterValue weight f.water s.water,
             cal := filterValue weight f.cal s.cal, moisture := filterValue weight f.moisture s.moisture,
             dry := filterValue weight f.dry s.dry,
             n := if s.hasValue then min 255 (f.n + 1) else f.n }
  else { s with bw := f.bw, water := f.water, cal := f.cal, moisture := f.moisture, dry := f.dry, n := f.n }

/-- FILTERED with its summary set from the scan just folded (R104). -/
def Profile.summarized (scan : Profile) (startTime : Nat) (slices : List Slice) : Profile :=
  { scan with startTime := startTime, completion := .complete, slices := slices,
              validCount := (slices.filter (fun s => decide (0 < s.n))).length,
              bw := meanRange (slices.filterMap Slice.bw), moisture := meanRange (slices.filterMap Slice.moisture),
              cal := meanRange (slices.filterMap Slice.cal) }

/-- FILTERED after a COMPLETE close (R103): created or reseeded, or folded. -/
def foldProfile (filtered : Option Profile) (reseed : Bool) (weight : Nat) (scan : Profile) : Profile :=
  match filtered with
  | none => scan.summarized scan.endTime (scan.slices.map Slice.reseeded)
  | some f =>
    if reseed then scan.summarized scan.endTime (scan.slices.map Slice.reseeded)
    else scan.summarized f.startTime (List.zipWith (Slice.folded weight) f.slices scan.slices)

/-- An epoch start (R104): FILTERED is emptied and the reseed flag set. -/
def Device.startEpoch (d : Device) : Device := d.setPrf { d.prf with filtered := none, reseed := true }

/-! ## Profile frames (R106, 10 section 10.8) -/

/-- The number of segments of a profile: twenty slices each. -/
def Profile.segments (p : Profile) : Nat := ceilDiv p.map.count 20

/-- The 44-byte header (10 section 10.8). -/
def Profile.header (p : Profile) (src : ProfileSource) (notice : Bool) (skipped : Nat) : List Byte :=
  [BitVec.ofNat 8 (src.code + 4 * p.dir.code + 8 * p.completion.code + (if p.meanSpeed.isSome then 64 else 0) +
      (if notice then 128 else 0)),
   BitVec.ofNat 8 (presenceBits [p.bw.isSome, p.bw.isSome, p.moisture.isSome, p.moisture.isSome, p.cal.isSome,
      p.cal.isSome, p.tsEdge.isSome, p.dsEdge.isSome])] ++
  beBytes 4 p.number ++ beBytes 4 p.startTime ++ beBytes 4 p.endTime ++ opt24 p.tsEdge ++ opt24 p.dsEdge ++
  beBytes 3 p.map.p0 ++ beBytes 3 (p.map.width * 4096 + p.map.count) ++
  beBytes 2 (p.segments * 1024 + p.validCount) ++ opt16 p.meanSpeed ++
  opt16 (p.bw.map MeanRange.mean) ++ opt16 (p.bw.map MeanRange.range) ++
  opt16 (p.moisture.map MeanRange.mean) ++ opt16 (p.moisture.map MeanRange.range) ++
  opt16 (p.cal.map MeanRange.mean) ++ opt16 (p.cal.map MeanRange.range) ++ beBytes 2 skipped

/-- The coverage code of a slice entry (10 section 10.8). -/
def Slice.coverage (s : Slice) : Nat := if s.notScanned then 1 else if s.offSheet then 2 else if s.weak then 3 else 0

/-- A 12-byte slice entry (10 section 10.8). -/
def Slice.entry (s : Slice) (k : Nat) : List Byte :=
  beBytes 2 k ++ [BitVec.ofNat 8 (min 255 s.n),
    BitVec.ofNat 8 (s.coverage + 4 * presenceBits [s.edge, s.clamped, s.bw.isSome, s.water.isSome, s.moisture.isSome, s.cal.isSome])] ++
  opt16 s.bw ++ opt16 s.water ++ opt16 s.moisture ++ opt16 s.cal

/-- The slice entries from an index on, in TS-to-DS order. -/
def sliceEntries : Nat → List Slice → List Byte
  | _, [] => []
  | k, s :: ss => s.entry k ++ sliceEntries (k + 1) ss

/-- A segment: 8-byte header and up to twenty entries (10 section 10.8). -/
def Profile.segment (p : Profile) (src : ProfileSource) (i : Nat) : List Byte :=
  [BitVec.ofNat 8 src.code, BitVec.ofNat 8 i] ++ beBytes 2 (20 * i) ++ beBytes 4 p.number ++
  sliceEntries (20 * i) ((p.slices.drop (20 * i)).take 20)

/-- A report: the header frame and its segment frames (R106). -/
def Profile.report (p : Profile) (src : ProfileSource) : List Frame :=
  ⟨profileKind, 0, p.header src true 0⟩ :: (List.range p.segments).map (fun i => ⟨segmentKind, 0, p.segment src i⟩)

/-- The frames of the report buffer that have not been begun. -/
def Report.unbegun (r : Report) : List Frame := r.frames.drop r.next

/-- A skipped report (R106). -/
def Prf.skipped (p : Prf) : Prf := { p with skip := sat16 (p.skip + 1) }

/-- The chosen report source's profile. -/
def Prf.profile (p : Prf) : ProfileSource → Option Profile
  | .latest => p.latest
  | .filtered => p.filtered

/-- The report source of the settings in force: 0 NONE, 1 LATEST, 2 FILTERED. -/
def Device.reportSource (d : Device) : Option ProfileSource :=
  match d.trv.active with
  | none => none
  | some a => if a.source = 1 then some .latest else if a.source = 2 then some .filtered else none

/-- The report is prepared, skipped or not due at a close (R106). -/
def Device.prepareReport (d : Device) (c : Completion) : Device :=
  match d.reportSource with
  | none => d
  | some src =>
    if src = .filtered ∧ c ≠ .complete then d
    else if d.lnk.link = .good ∧ d.prf.report.unbegun = [] then
      match d.prf.profile src with
      | none => d
      | some p => d.setPrf { d.prf with report := ⟨p.report src, 0⟩ }
    else d.setPrf d.prf.skipped

/-- Entry to DEGRADED or LOST discards what has not been begun (R108, R112). -/
def Device.discardTraffic (d : Device) : Device :=
  let p := d.prf
  let p := if p.report.unbegun = [] then p
    else { p.skipped with report := ⟨p.report.frames.take p.report.next, p.report.next⟩ }
  let p := if p.batch.isSome then { p with batch := none, skippedBatches := sat16 (p.skippedBatches + 1) } else p
  d.setPrf p

/-! ## The scan-close operation (R97, R101) -/

/-- The reference set counts a COMPLETE scan (R74). -/
def Device.countScan (d : Device) : Device :=
  d.setStd { d.std with ref := d.std.ref.map (fun r => { r with scansSince := sat32 (r.scansSince + 1) }) }

/-- FILTERED and the windows, for a COMPLETE close alone (R101, second and third stages). -/
def Device.foldScan (d : Device) (scan : Profile) : Device :=
  let weight := (d.trv.active.map ScanSettings.weight).getD 256
  let f := foldProfile d.prf.filtered d.prf.reseed weight scan
  ((d.setPrf { d.prf with filtered := some f, reseed := false }).evaluateWindows scan.number).countScan

/-- A scan closes (R97): record, LATEST, FILTERED, windows, report, in that order (R101); nothing with no scan open. -/
def Device.closeScan (d : Device) (c : Completion) : Device :=
  match d.prf.openScan with
  | none => d
  | some o =>
    let minSamples := (d.trv.active.map ScanSettings.minSamples).getD 1
    let scan := o.finish minSamples d.now c
    let d := d.setPrf { d.prf with openScan := none, latest := some scan }
    let d := if c = .complete then d.foldScan scan else d
    d.prepareReport c

/-! ## Point mode (R110 to R112) -/

/-- One entry of a POINT_DATA notice (R111): BW, WATER, CAL and the summary byte. -/
def RingEntry.summary (e : RingEntry) : List Byte :=
  let r := e.record
  opt16 r.bw ++ opt16 r.water ++ opt16 r.cal ++
  [BitVec.ofNat 8 (presenceBits [r.bw.isSome, r.water.isSome, r.cal.isSome, decide (r.form = .raw),
    r.bwFlags.held || r.waterFlags.held || r.calFlags.held, decide (r.sample.sheet ≠ .all)])]

/-- A POINT_DATA notice from the newest entries (R111); the skipped count is filled in when it is begun (R112). -/
def pointData (ring : List RingEntry) (period batch : Nat) : Frame :=
  let es := ring.take batch
  ⟨pointDataKind, 0,
   opt32 (es.head?.map RingEntry.number) ++ opt32 (es.head?.map (fun e => e.record.sample.time)) ++
   beBytes 2 period ++ beBytes 2 0 ++ [BitVec.ofNat 8 batch] ++ es.flatMap RingEntry.summary⟩

/-- A batch falls due: placed in the batch buffer, or skipped (R111, R112). -/
def Device.batchDue (d : Device) (s : ScanSettings) : Device :=
  if d.lnk.link = .good ∧ d.prf.batch = none then
    d.setPrf { d.prf with batchCount := 0, batch := some (pointData d.prf.ring s.pointPeriod s.batch) }
  else d.setPrf { d.prf with batchCount := 0, skippedBatches := sat16 (d.prf.skippedBatches + 1) }

/-- A record closed in POINT enters the ring, and may make a batch due (R110, R111). -/
def Device.enterRing (d : Device) (r : ConvRecord) : Device :=
  let n := wrap32 (d.prf.entryNumber + 1)
  let d := d.setPrf { d.prf with entryNumber := n, ring := (⟨n, r⟩ :: d.prf.ring).take 64,
                                 batchCount := d.prf.batchCount + 1 }
  match d.trv.active with
  | none => d
  | some s => if s.batch ≤ d.prf.batchCount then d.batchDue s else d

/-- A record closed in SCAN is placed in the open scan (R93). -/
def Device.placeRecord (d : Device) (r : ConvRecord) : Device :=
  d.setPrf { d.prf with openScan := d.prf.openScan.map (fun o => o.take r) }

/-! ## Commands -/

/-- The profile a GET_PROFILE source names (R109). -/
def Device.sourceOf (n : Nat) : Option ProfileSource :=
  if n = 1 then some .latest else if n = 2 then some .filtered else none

/-- GET_PROFILE (R109). -/
def Device.getProfile (f : Frame) (d : Device) : Device × Option Answer :=
  if f.payload.length ≠ 2 then (d, some (.only .badLength))
  else
    let part := field f.payload 1 1
    match Device.sourceOf (field f.payload 0 1) with
    | none => (d, some (.only .badValue))
    | some src =>
      match d.prf.profile src with
      | none => (d, some (.only .state))
      | some p =>
        if part = 255 then (d, some (.ok (p.header src false d.prf.skip)))
        else if part < p.segments then (d, some (.ok (p.segment src part)))
        else (d, some (.only .badValue))

/-- Every field of a point ring entry (06 section 6.7); sizes are DESIGN CHOICE where the table gives none (log 9). -/
def RingEntry.bytes (e : RingEntry) : List Byte :=
  let r := e.record
  let s := r.sample
  beBytes 4 e.number ++ beBytes 4 s.time ++ beBytes 4 s.stop ++ beBytes 4 s.dur ++ beBytes 4 s.bw ++ beBytes 4 s.mw ++
  beBytes 4 s.mr ++ beBytes 4 s.calHigh ++ beBytes 4 s.calTotal ++ [boolByte s.sat, s.sheet.code] ++ beBytes 2 s.speed ++
  [r.form.code, BitVec.ofNat 8 (presenceBits [r.bw.isSome, r.water.isSome, r.cal.isSome, r.moisture.isSome, r.dry.isSome])] ++
  opt16 r.bw ++ opt16 r.water ++ opt16 r.cal ++ opt16 r.moisture ++ opt16 r.dry ++
  [r.bwFlags.byte, r.waterFlags.byte, r.calFlags.byte, boolByte r.wet]

/-- GET_POINT (R113). -/
def Device.getPoint (f : Frame) (d : Device) : Device × Option Answer :=
  if f.payload.length ≠ 1 then (d, some (.only .badLength))
  else
    let n := field f.payload 0 1
    if 63 < n then (d, some (.only .badValue))
    else (d, some (.ok ([BitVec.ofNat 8 d.prf.ring.length] ++ opt32 (d.prf.ring.head?.map RingEntry.number) ++
      ((d.prf.ring.drop n).take 4).flatMap RingEntry.bytes)))

end Sys2Proof.Machine
end

