-- ==== Sys2Proof/Machine/Standards.lean ====
section
/-! DEFINITION. The Standardization Unit (04): the collection, its completion and judgement, the reference set, its two
conditions, and the commands it owns (SET_STD, SET_CALREF, GET_STD). What the traverse does with a result is in Traverse. -/

namespace Sys2Proof.Machine

/-! ## The collection -/

/-- The collection back in IDLE, its sums discarded (R68, R72); the snapshot and the saturation mark are cleared with them (DESIGN
CHOICE, log 25). -/
def Std.toIdle (s : Std) : Std :=
  { s with phase := .idle, snapshot := Std.reset.snapshot, settleLeft := 0, summed := 0, received := 0,
           sums := ⟨0, 0, 0, 0, 0, 0⟩, satMark := false }

/-- The collection that begins on entry to STANDARDIZING (R62). -/
def Device.beginCollection (d : Device) : Device :=
  match d.std.settings with
  | none => d
  | some k =>
    d.setStd { d.std with phase := if 1 ≤ k.settle then .settling else .collecting, snapshot := k,
                          settleLeft := k.settle, summed := 0, received := 0, sums := ⟨0, 0, 0, 0, 0, 0⟩,
                          satMark := false }

/-- A last-result record of a standardize that ended without candidates (R68, R72). -/
def StdLast.bare (r : OpResult) (time received : Nat) : StdLast :=
  ⟨r, time, received, none, none, none, none, none, none, none, none, none⟩

/-- The STD_FAIL code of a failure (R69). -/
def failCode : OpResult → Nat
  | .sheet => 1
  | .channel => 2
  | .drift => 3
  | _ => 4

/-- A standardize fails (R68, R69): last-result record, IDLE, STD_FAIL with its detail. -/
def Device.failStd (d : Device) (last : StdLast) (detail : Nat) : Device :=
  (d.setStd { d.std.toIdle with last := some last }).rise srcStdFail (codedValue (failCode last.result) detail)

/-- A collection is abandoned (R72); nothing while IDLE. -/
def Device.abandonStd (d : Device) : Device :=
  if d.std.phase = .idle then d
  else d.setStd { d.std.toIdle with last := some (.bare .aborted d.now d.std.received) }

/-! ## Completion (R64 to R67) -/

/-- The candidates of R64. -/
structure Candidates where
  rBw : Nat
  rMw : Nat
  rMr : Nat
  m : Option Nat
  d0 : Option Nat
  deriving DecidableEq, Repr

/-- The candidates of the running sums (R64). -/
def StdSums.candidates (s : StdSums) : Candidates :=
  { rBw := rate s.bw s.d, rMw := rate s.mw s.d, rMr := rate s.mr s.d,
    m := if s.mr = 0 then none else some (s.mw * 65536 / s.mr),
    d0 := if s.calTotal = 0 then none else some (s.calHigh * 65536 / s.calTotal) }

/-- The channel mask of R65: 0 when the channel check passes. -/
def channelMask (c : Candidates) (k : StdSettings) (sat : Bool) : Nat :=
  (if c.rBw = 0 ∨ c.rBw < k.minBw then 1 else 0) +
  (if c.rMw < k.minMw ∨ c.m = some 0 then 2 else 0) +
  (if c.rMr < k.minMr ∨ c.m = none then 4 else 0) +
  (if c.d0 = none then 8 else 0) + (if sat then 16 else 0)

/-- A drift against its calibration reference, exact (R66); absent when the reference is. -/
def driftOf (candidate : Nat) (cal : Option Nat) : Option Nat :=
  cal.map (fun c => dist candidate c * 10000 / c)

/-- The largest present drift with its item code, the first where two are equal (R66, R70). -/
def largestDrift (bw m d0 : Option Nat) : Option (Nat × Nat) :=
  [(1, bw), (2, m), (3, d0)].foldl (fun best e =>
    match e.2, best with
    | none, b => b
    | some v, none => some (e.1, v)
    | some v, some b => if b.2 < v then some (e.1, v) else some b) none

/-- The judgement of R66 on the largest present drift. -/
def judgeDrift (largest : Option (Nat × Nat)) (warn reject : Nat) : OpResult :=
  match largest with
  | none => .adopted
  | some (_, v) => if reject < v then .drift else if warn < v then .adoptedDrift else .adopted

/-- The reference set of an adoption (R67). -/
def adoptedRef (c : Candidates) (now reject : Nat) (bw m d0 : Option Nat) : RefSet :=
  ⟨now, c.rBw, c.m.getD 0, c.d0.getD 0, bw.map sat16, m.map sat16, d0.map sat16, reject, 0⟩

/-- Adoption (R67) with the conditions of R69 and R70. -/
def Device.adopt (d : Device) (ref : RefSet) (last : StdLast) (largest : Option (Nat × Nat)) : Device :=
  let d := d.setStd { d.std.toIdle with ref := some ref, count := wrap32 (d.std.count + 1), last := some last }
  let d := d.fallIfActive srcStdFail
  if last.result = .adoptedDrift then
    match largest with
    | none => d
    | some (item, v) => d.rise srcStdDrift (codedValue item (sat16 v))
  else d.fallIfActive srcStdDrift

/-- The three drifts of the candidates, absent where the reference is (R66). -/
structure Drifts where
  bw : Option Nat
  m : Option Nat
  d0 : Option Nat
  deriving DecidableEq, Repr

/-- The drifts of the candidates against the calibration references in force (R66). -/
def Std.drifts (s : Std) : Drifts :=
  let c := s.sums.candidates
  ⟨driftOf c.rBw s.calRbw, driftOf (c.m.getD 0) s.calM, driftOf (c.d0.getD 0) s.calD0⟩

/-- The largest drift with its item code (R66). -/
def Drifts.largest (x : Drifts) : Option (Nat × Nat) := largestDrift x.bw x.m x.d0

/-- The channel mask of a completed collection (R65). -/
def Std.mask (s : Std) : Nat := channelMask s.sums.candidates s.snapshot s.satMark

/-- The standardization result of a completed collection (R65 to R67): the channel check, then the drift check. -/
def Std.verdict (s : Std) : OpResult :=
  if s.mask ≠ 0 then .channel else judgeDrift s.drifts.largest s.snapshot.warn s.snapshot.reject

/-- The last-result record of a completed collection (R68, R75, log 23); the drifts are absent where the channel check failed. -/
def Std.lastOf (s : Std) (now : Nat) (x : Drifts) : StdLast :=
  let c := s.sums.candidates
  ⟨s.verdict, now, s.received, some c.rBw, c.m, c.d0, some c.rMw, some c.rMr, x.bw.map sat16, x.m.map sat16, x.d0.map sat16,
   some s.mask⟩

/-- The completion of a collection (R64 to R68). -/
def Device.completeStd (d : Device) : Device :=
  let s := d.std
  let x := s.drifts
  if s.verdict = .channel then d.failStd (s.lastOf d.now ⟨none, none, none⟩) s.mask
  else if s.verdict = .drift then d.failStd (s.lastOf d.now x) (sat16 ((x.largest.map Prod.snd).getD 0))
  else d.adopt (adoptedRef s.sums.candidates d.now s.snapshot.reject x.bw x.m x.d0) (s.lastOf d.now x) x.largest

/-- The sums after a summed record (R63). -/
def StdSums.add (s : StdSums) (r : Sample) : StdSums :=
  ⟨s.d + r.dur, s.bw + r.bw, s.mw + r.mw, s.mr + r.mr, s.calHigh + r.calHigh, s.calTotal + r.calTotal⟩

/-- A standardize sample is taken (R63); the result is given when this sample ends the standardize. -/
def Device.takeStdSample (d : Device) (r : Sample) : Device × Option OpResult :=
  match d.std.phase with
  | .idle => (d, none)
  | .settling =>
    let received := d.std.received + 1
    if r.sheet ≠ .none then (d.failStd (.bare .sheet d.now received) received, some .sheet)
    else
      let left := d.std.settleLeft - 1
      (d.setStd { d.std with received := received, settleLeft := left,
                             phase := if left = 0 then .collecting else .settling }, none)
  | .collecting =>
    let received := d.std.received + 1
    if r.sheet ≠ .none then (d.failStd (.bare .sheet d.now received) received, some .sheet)
    else
      let d := d.setStd { d.std with received := received, summed := d.std.summed + 1, sums := d.std.sums.add r,
                                     satMark := d.std.satMark || r.sat }
      if d.std.snapshot.samples ≤ d.std.summed then
        (d.completeStd, some d.std.verdict)
      else (d, none)

/-- A SHUTTER rise during a collection fails the standardize (R71). -/
def Device.shutterFailsStd (d : Device) : Device × Option OpResult :=
  if d.std.phase = .idle then (d, none)
  else (d.failStd (.bare .shutter d.now d.std.received) 0, some .shutter)

/-! ## Commands -/

/-- The settings a SET_STD payload carries, clamped (R60). -/
def stdSettingsOf (p : List Byte) : StdSettings :=
  ⟨clampTo 16 256 (field p 0 2), clampTo 0 15 (field p 2 1), clampTo 10 1000 (field p 3 2), field p 5 4, field p 9 4,
   field p 13 4, clampTo 1 5000 (field p 17 2), clampTo 1 5000 (field p 19 2)⟩

/-- SET_STD (R60). -/
def Device.setStdSettings (f : Frame) (d : Device) : Device × Option Answer :=
  let p := f.payload
  if d.trv.state = .standardizing then (d, some (.only .busy))
  else if p.length ≠ 21 then (d, some (.only .badLength))
  else
    let k := stdSettingsOf p
    if k.reject < k.warn then (d, some (.only .badValue))
    else (d.setStd { d.std with settings := some k },
      some (.flagged (decide (k.samples ≠ field p 0 2 ∨ k.settle ≠ field p 2 1 ∨ k.period ≠ field p 3 2 ∨
        k.warn ≠ field p 17 2 ∨ k.reject ≠ field p 19 2)) false))

/-- SET_CALREF (R61). -/
def Device.setCalref (f : Frame) (d : Device) : Device × Option Answer :=
  let p := f.payload
  if p.length ≠ 13 then (d, some (.only .badLength))
  else
    let n := field p 0 1
    let bw := if n % 2 = 1 then some (field p 1 4) else none
    let m := if n / 2 % 2 = 1 then some (field p 5 4) else none
    let d0 := if n / 4 % 2 = 1 then some (field p 9 4) else none
    if 7 < n ∨ bw = some 0 ∨ m = some 0 ∨ d0 = some 0 ∨ d0.any (fun v => decide (65536 < v)) then
      (d, some (.only .badValue))
    else (d.setStd { d.std with calRbw := bw, calM := m, calD0 := d0 }, some (.ok []))

/-- The eight settings fields in the order and sizes of SET_STD (R75). -/
def StdSettings.bytes (k : StdSettings) : List Byte :=
  beBytes 2 k.samples ++ beBytes 1 k.settle ++ beBytes 2 k.period ++ beBytes 4 k.minBw ++ beBytes 4 k.minMw ++
  beBytes 4 k.minMr ++ beBytes 2 k.warn ++ beBytes 2 k.reject

/-- An optional drift with its presence byte (R75). -/
def driftBytes (v : Option Nat) : List Byte := presence v :: opt16 v

/-- An optional moisture ratio: 8 bytes, all 0xFF when absent; it can exceed 32 bits (DESIGN CHOICE, log 9). -/
def opt64 (v : Option Nat) : List Byte := beBytes 8 (v.getD 18446744073709551615)

/-- GET_STD (R75); sizes the chapter does not give are DESIGN CHOICE (log 9), and so are the last result's number, which is its DONE
code (log 9), and taking any payload (log 31). -/
def Device.getStd (_f : Frame) (d : Device) : Device × Option Answer :=
  let s := d.std
  (d, some (.ok (
    [presence s.settings] ++ (match s.settings with | none => [] | some k => k.bytes) ++
    [BitVec.ofNat 8 (presenceBits [s.calRbw.isSome, s.calM.isSome, s.calD0.isSome])] ++
    opt32 s.calRbw ++ opt32 s.calM ++ opt32 s.calD0 ++
    [presence s.ref] ++
    (match s.ref with
     | none => []
     | some r => beBytes 4 r.time ++ beBytes 4 r.rBw ++ beBytes 8 r.m ++ beBytes 4 r.d0 ++ driftBytes r.driftBw ++
         driftBytes r.driftM ++ driftBytes r.driftD0 ++ beBytes 2 r.rejectAt) ++
    beBytes 4 s.count ++ opt32 (s.ref.map RefSet.scansSince) ++
    [s.phase.code] ++ beBytes 2 s.received ++ beBytes 2 s.summed ++ beBytes 1 s.settleLeft ++
    [presence s.last] ++
    (match s.last with
     | none => []
     | some l => [l.result.code] ++ beBytes 4 l.time ++ beBytes 2 l.received ++ opt32 l.rBw ++ opt64 l.m ++ opt32 l.d0 ++
         opt32 l.rMw ++ opt32 l.rMr ++ driftBytes l.driftBw ++ driftBytes l.driftM ++ driftBytes l.driftD0 ++
         [(l.mask.map (BitVec.ofNat 8)).getD 255]))))

end Sys2Proof.Machine
end

