-- ==== Sys2Proof/Machine/Acquisition.lean ====
section
/-! DEFINITION. The Channel Acquisition Unit (03): counting, the sample record, gating, channel faults, machine speed, and the
commands it owns (SET_TACH, GET_CHANNELS). -/

namespace Sys2Proof.Machine

/-! ## Counting (R44 to R46) -/

/-- One more edge of a channel, staying at 16,777,215 (R44). -/
def OpenSample.pulse (o : OpenSample) (c : PulseChannel) : OpenSample :=
  match c with
  | .bw => if o.bw < 16777215 then { o with bw := o.bw + 1 } else { o with sat := true }
  | .mw => if o.mw < 16777215 then { o with mw := o.mw + 1 } else { o with sat := true }
  | .mr => if o.mr < 16777215 then { o with mr := o.mr + 1 } else { o with sat := true }

/-- A completed CAL period is attributed to the sample (R45). A total marks the sample where it would pass 4,294,967,295, not where
it comes to stand there exactly (DEDUCED, log 37). -/
def OpenSample.addPeriod (o : OpenSample) (high total : Nat) : OpenSample :=
  { o with calHigh := sat32 (o.calHigh + high), calTotal := sat32 (o.calTotal + total),
           sat := o.sat || decide (4294967295 < o.calHigh + high ∨ 4294967295 < o.calTotal + total) }

/-- A change of the open sample, if there is one. -/
def Device.onSample (d : Device) (f : OpenSample → OpenSample) : Device :=
  d.setAcq { d.acq with sample := d.acq.sample.map f }

/-! ## Opening and closing (R47) -/

/-- A sample opens now. -/
def Device.openSampleNow (d : Device) (g : Gating) : Device :=
  d.setAcq { d.acq with sample := some ⟨g, d.trv.counter, d.clk, 0, 0, 0, 0, 0, d.pins.sp, false, false⟩ }

/-- The duration of a sample: at least 1 µs, at most 32 bits (R47). -/
def sampleDuration (opened closed : Nat) : Nat := sat32 (max 1 (closed - opened))

/-- The sheet field of a closing sample (R46). -/
def OpenSample.sheet (o : OpenSample) : SheetField := if o.changed then .mixed else if o.spAtOpen then .all else .none

/-- CAL rises (R45): a period in progress is complete and attributed to the open sample, and a new period begins. A
period without a falling edge, which no run shows, has high time 0 (DESIGN CHOICE, log 27). -/
def Device.calRise (d : Device) : Device :=
  let d := match d.acq.calStart with
    | none => d
    | some t => d.onSample (fun o => o.addPeriod (d.acq.calHigh.getD 0) (d.clk - t))
  d.setAcq { d.acq with calStart := some d.clk, calHigh := none, calTimeout := some (d.clk + 100000) }

/-- CAL falls: the high time of the period in progress is known (R45). -/
def Device.calFall (d : Device) : Device :=
  match d.acq.calStart, d.acq.calHigh with
  | some t, none => d.setAcq { d.acq with calHigh := some (d.clk - t) }
  | _, _ => d

/-- A period of 100,000 µs without a closing edge is abandoned (R45). -/
def Device.calAbandon (d : Device) : Device :=
  d.setAcq { d.acq with calStart := none, calHigh := none, calTimeout := none }

/-- A change of SP (R46). -/
def Device.sheetChange (d : Device) (v : Bool) : Device :=
  (d.setPins { d.pins with sp := v }).onSample (fun o => { o with changed := true })

/-- The record of a sample that closes now (R47). -/
def OpenSample.close (o : OpenSample) (stop closed speed time : Nat) : Sample :=
  ⟨o.gating, o.start, stop, sampleDuration o.openedAt closed, o.bw, o.mw, o.mr, o.calHigh, o.calTotal, o.sheet, speed, time,
   o.sat || decide (4294967295 < closed - o.openedAt)⟩

/-- The open sample's record, were it to close now. -/
def Device.closing (d : Device) (o : OpenSample) : Sample := o.close d.trv.counter d.clk d.acq.speed d.now

/-- The traverse leaves a measuring state: no sample, no timer, no boundary (R50, R51). -/
def Device.stopSampling (d : Device) : Device :=
  d.setAcq { d.acq with sample := none, sampleTimer := none, next := none }

/-! ## Channel faults (R52, R53) -/

/-- A run counter after a record (R52). -/
def runAfter (dead : Bool) (n : Nat) : Nat := if dead then min 255 (n + 1) else 0

/-- A flagged mark after a record: joined at 8, left when live (R52, R53). -/
def flagAfter (dead : Bool) (n : Nat) (flag : Bool) : Bool := dead && (flag || decide (8 ≤ n))

/-- The run counters after a record (R52). -/
def RunCounters.after (r : RunCounters) (s : Sample) : RunCounters :=
  ⟨runAfter (decide (s.bw = 0)) r.bw, runAfter (decide (s.mw = 0)) r.mw, runAfter (decide (s.mr = 0)) r.mr,
   runAfter (decide (s.calTotal = 0)) r.cal⟩

/-- The flagged set after a record whose run counters are given (R52, R53). -/
def ChannelSet.after (c : ChannelSet) (r : RunCounters) (s : Sample) : ChannelSet :=
  ⟨flagAfter (decide (s.bw = 0)) r.bw c.bw, flagAfter (decide (s.mw = 0)) r.mw c.mw,
   flagAfter (decide (s.mr = 0)) r.mr c.mr, flagAfter (decide (s.calTotal = 0)) r.cal c.cal⟩

/-- Some channel is in the new set that was not in the old. -/
def ChannelSet.joined (old new : ChannelSet) : Bool :=
  (new.bw && !old.bw) || (new.mw && !old.mw) || (new.mr && !old.mr) || (new.cal && !old.cal)

/-- The channel-fault supervision of one record (R52, R53). The set changes at once: where one channel joins as the last flagged one
leaves, there is one rise, a repeat, and no fall (DESIGN CHOICE, log 36). -/
def Device.superviseChannels (d : Device) (s : Sample) : Device :=
  let dead := d.acq.dead.after s
  let flagged := d.acq.flagged.after dead s
  let old := d.acq.flagged
  let d := d.setAcq { d.acq with dead := dead, flagged := flagged }
  if old.joined flagged then d.rise srcChannelFault flagged.mask
  else if old.mask ≠ 0 ∧ flagged.mask = 0 then d.fall srcChannelFault
  else d

/-- A closed record is kept for GET_CHANNELS and examined for channel faults (R47). -/
def Device.recordClosed (d : Device) (s : Sample) : Device :=
  (d.setAcq { d.acq with last := some s }).superviseChannels s

/-! ## Position gating (R48, R49) -/

/-- The gate boundaries from low to high (R48): low + k × pitch. -/
def firstBoundary (side : Side) (r : EffRange) (pitch counter : Nat) : Option Nat :=
  let low := r.low.toNat
  let top := low + (r.high.toNat - low) / pitch * pitch
  if r.high < r.low then none
  else match side with
    | .ds =>
      let b := low + ceilDiv (counter - low) pitch * pitch
      if b ≤ top then some b else none
    | .ts =>
      if counter < low then none else some (min top (low + (counter - low) / pitch * pitch))

/-- The boundary one pitch on in the scan's direction, none beyond the range (R49). -/
def nextBoundary (side : Side) (r : EffRange) (pitch b : Nat) : Option Nat :=
  match side with
  | .ds => if ((b + pitch : Nat) : Int) ≤ r.high then some (b + pitch) else none
  | .ts => if r.low + pitch ≤ b then some (b - pitch) else none

/-- The range and pitch that gate a scan, from the settings in force. -/
def Device.gate (d : Device) : Option (EffRange × Nat) :=
  match d.trv.range, d.trv.active with
  | some r, some a => some (r, a.pitch)
  | _, _ => none

/-- The next boundary moves one pitch on and a sample opens (R48, R49). -/
def Device.openAtBoundary (d : Device) (b : Nat) : Device :=
  let next := match d.gate with
    | none => none
    | some (r, pitch) => nextBoundary d.trv.scanDir r pitch b
  (d.setAcq { d.acq with next := next }).openSampleNow .position

/-- The gating of a scan starts at the entry to SCAN (R48). -/
def Device.startGating (d : Device) : Device :=
  let next := match d.gate with
    | none => none
    | some (r, pitch) => firstBoundary d.trv.scanDir r pitch d.trv.counter
  let d := d.setAcq { d.acq with next := next }
  if next = some d.trv.counter then d.openAtBoundary d.trv.counter else d

/-- A record closed in SCAN: CNV and PRF, then the channel-fault supervision (R47, log 18). -/
def Device.handScanRecord (d : Device) (s : Sample) : Device :=
  let c := d.convertSample true s
  (c.1.placeRecord c.2).recordClosed s

/-- A boundary crossing (R49): the open sample closes and is handed on, and a new one opens. -/
def Device.crossBoundary (d : Device) : Device :=
  match d.acq.sample with
  | none => d.openAtBoundary d.trv.counter
  | some o => (d.handScanRecord (d.closing o)).openAtBoundary d.trv.counter

/-- Time gating starts on entry to STANDARDIZING or POINT (R51). -/
def Device.startTimeGating (d : Device) (periodMs : Nat) : Device :=
  let d := d.openSampleNow .time
  d.setAcq { d.acq with sampleTimer := d.after periodMs }

/-! ## Machine speed (R54 to R56) -/

/-- The machine speed of a period (R54). -/
def speedOf (period ppm : Nat) : Nat := min 30000 (600000000 / (period * ppm))

/-- A TACH rising edge (R54). -/
def Device.tachEdge (d : Device) : Device :=
  let d := d.setAcq { d.acq with tachTimeout := d.after 2000 }
  match d.acq.tachEdge with
  | none => d.setAcq { d.acq with tachEdge := some d.clk }
  | some t =>
    let period := max 1 (d.clk - t)
    d.setAcq { d.acq with tachEdge := some d.clk, tachPeriod := some period,
                          speed := match d.acq.ppm with
                            | none => 0
                            | some p => speedOf period p }

/-- The tach timeout expires (R55). -/
def Device.tachStop (d : Device) : Device :=
  d.setAcq { d.acq with speed := 0, tachPeriod := none, tachEdge := none, tachTimeout := none }

/-! ## Commands -/

/-- SET_TACH (R56). -/
def Device.setTach (f : Frame) (d : Device) : Device × Option Answer :=
  if f.payload.length ≠ 2 then (d, some (.only .badLength))
  else
    let v := field f.payload 0 2
    let p := clampTo 1 1000 v
    (d.setAcq { d.acq with ppm := some p,
                           speed := match d.acq.tachPeriod with
                             | none => d.acq.speed
                             | some t => speedOf t p },
     some (.flagged (decide (p ≠ v)) false))

/-- Every field of the sample record (03 section 3.2); sizes are DESIGN CHOICE (log 9). -/
def Sample.bytes (s : Sample) : List Byte :=
  [s.gating.code] ++ beBytes 4 s.start ++ beBytes 4 s.stop ++ beBytes 4 s.dur ++ beBytes 4 s.bw ++ beBytes 4 s.mw ++
  beBytes 4 s.mr ++ beBytes 4 s.calHigh ++ beBytes 4 s.calTotal ++ [s.sheet.code] ++ beBytes 2 s.speed ++
  beBytes 4 s.time ++ [boolByte s.sat]

/-- GET_CHANNELS (R57), whatever its payload (DESIGN CHOICE, log 31). -/
def Device.getChannels (_f : Frame) (d : Device) : Device × Option Answer :=
  let a := d.acq
  (d, some (.ok (
    [presence a.last] ++ (match a.last with | none => [] | some s => s.bytes) ++
    [BitVec.ofNat 8 a.dead.bw, BitVec.ofNat 8 a.dead.mw, BitVec.ofNat 8 a.dead.mr, BitVec.ofNat 8 a.dead.cal,
     BitVec.ofNat 8 a.flagged.mask, presence a.sample, (a.sample.map (fun o => o.gating.code)).getD 255,
     presence a.ppm] ++ opt16 a.ppm ++ opt32 a.tachPeriod ++ beBytes 2 a.speed)))

end Sys2Proof.Machine
end

