-- ==== Sys2Proof/Machine/Traverse.lean ====
section
/-! DEFINITION. The Traverse Controller (01, 02): drive outputs, halts, shutter, homing, positioning moves, scanning, turns,
parking, standardizing, resume, and what a break, a link loss or a fault does to the traverse. -/

namespace Sys2Proof.Machine

/-! ## Position and limits -/

/-- A limit switch is closed (R16). -/
def Pins.limit (p : Pins) : Side → Bool
  | .ts => p.limitTs
  | .ds => p.limitDs

/-- The switch code of R16. -/
def Pins.switchCode (p : Pins) : Nat := (if p.limitTs then 1 else 0) + (if p.limitDs then 2 else 0)

/-- A position brought to the nearer soft limit (01 section 1.1). -/
def FrameRecord.within (f : FrameRecord) (pos : Int) : Nat := (max (f.softLow : Int) (min pos f.softHigh)).toNat

/-- The sense of travel from one count to another. -/
def sideToward (counter dest : Nat) : Side := if counter < dest then .ds else .ts

/-- A speed in a sense of travel, 0.01 mm/s (R11). -/
def signed (side : Side) (mmPerS : Nat) : Int :=
  match side with
  | .ds => (mmPerS * 100 : Nat)
  | .ts => -((mmPerS * 100 : Nat) : Int)

/-- The frame record's field; no motion runs without a record (R20), and a state no run reaches reads 0 (DESIGN CHOICE, log 27). -/
def Device.frameField (d : Device) (f : FrameRecord → Nat) : Nat := (d.trv.frame.map f).getD 0

/-! ## Scan range (R22) -/

/-- The turn distance (R22). -/
def turnDistance (speed accel : Nat) : Nat := ceilDiv (10 * speed ^ 2) accel

/-- The effective scan range (R22). -/
def effectiveRange (f : FrameRecord) (s : ScanSettings) : EffRange :=
  let t := turnDistance s.speed f.accel
  ⟨max (s.low : Int) (f.softLow + t), min (s.high : Int) (f.softHigh - t), t⟩

/-- A usable range (R22): its high end exceeds its low end by at least twice the pitch. -/
def EffRange.usable (r : EffRange) (pitch : Nat) : Bool := decide (r.low + 2 * pitch ≤ r.high)

/-- Same ends (R22, R36). -/
def EffRange.sameEnds (r q : EffRange) : Bool := decide (r.low = q.low ∧ r.high = q.high)

/-- The effective range of the settings and frame in force. -/
def Device.rangeInForce (d : Device) : Option EffRange :=
  match d.trv.frame, d.trv.active with
  | some f, some s => some (effectiveRange f s)
  | _, _ => none

/-! ## Shutter (R17, R18) -/

/-- The feedback agrees with the command (R18). -/
def Device.shutterAgrees (d : Device) : Bool := d.pins.closed != d.trv.openCmd

/-- The supervision after a change of the command or of the feedback (R18). -/
def Device.superviseShutter (d : Device) : Device :=
  if d.shutterAgrees then (d.setTrv { d.trv with mismatch := none }).fallIfActive srcShutter
  else d.setTrv { d.trv with mismatch := d.after 500 }

/-- OPEN is driven to a level (R17). -/
def Device.commandShutter (d : Device) (v : Bool) : Device :=
  if d.trv.openCmd = v then d else (d.setTrv { d.trv with openCmd := v }).superviseShutter

/-! ## Entering a traverse state -/

/-- The traverse enters a state: sampling stops (R50, R51), OPEN follows (R17), an entry to HALTED or APPROACH clears the
resume-pending record (R40), and a STATE notice will be offered (R19, R188). -/
def Device.goTo (d : Device) (st : TravState) : Device :=
  let d := d.stopSampling
  let d := d.setTrv { d.trv with state := st,
                                 resume := if st = .halted ∨ st = .approach then none else d.trv.resume }
  (d.setChanged true).commandShutter st.opens

/-! ## Operations (R19) -/

/-- The operation in flight ends: its DONE is offered and the record removed (R19, R185). -/
def Device.endOp (d : Device) (r : OpResult) (std : Option OpResult) : Device :=
  match d.trv.op with
  | none => d
  | some o =>
    (d.setTrv { d.trv with op := none }).offerDone o.kind o.tag r o.adjusted (if o.kind = .standardize then some r else std)

/-- The kind of the operation in flight. -/
def Device.opKind (d : Device) : Option OpKind := d.trv.op.map OpRecord.kind

/-- A new operation record. -/
def newOp (kind : OpKind) (tag : Byte) : OpRecord := ⟨kind, tag, 0, false, false, false⟩

def Device.setOp (d : Device) (o : OpRecord) : Device := d.setTrv { d.trv with op := some o }

/-! ## Drive (R10 to R15) -/

/-- The commanded speed is fast enough for stall supervision: 20 mm/s (R14). -/
def stallSpeed (c : Int) : Bool := decide (2000 ≤ c.natAbs)

/-- Stall supervision follows ENABLE and the commanded speed (R14). -/
def Device.superviseStall (d : Device) : Device :=
  if d.trv.enable && stallSpeed d.trv.commanded then
    match d.trv.stall with
    | some _ => d
    | none => d.setTrv { d.trv with stall := some ⟨d.trv.counter, d.clk + 500000⟩ }
  else d.setTrv { d.trv with stall := none }

/-- ENABLE falls (R10, R12, R14, R15): speed zero, output low, the period and stall interval end, the rest timer restarts. -/
def Device.dropEnable (d : Device) : Device :=
  if d.trv.enable then
    d.setTrv { d.trv with enable := false, commanded := 0, target := 0, speedRef := false, highTime := 0, lowTime := 0,
                          periodDue := none, highDue := none, stall := none, motion := .rest, restTimer := d.after 100 }
  else d.setTrv { d.trv with commanded := 0, target := 0, motion := .rest }

/-- ENABLE rises; the first speed reference period is due at once (R12; DESIGN CHOICE, log 29). -/
def Device.raiseEnable (d : Device) : Device :=
  if d.trv.enable then d else d.setTrv { d.trv with enable := true, periodDue := some d.clk }

/-- The head is at rest (R15). -/
def Device.atRest (d : Device) : Bool := !d.trv.enable && d.trv.restTimer.isNone

/-- A HALTED traverse with the homed flag clear becomes UNHOMED once the head is at rest (R15). -/
def Device.restRule (d : Device) : Device :=
  if d.trv.state = .halted ∧ d.trv.homed = false ∧ d.atRest = true then d.goTo .unhomed else d

/-- The traverse enters HALTED, unless it is there already (R6, R15). -/
def Device.enterHalted (d : Device) : Device := if d.trv.state = .halted then d else d.goTo .halted

/-- A standing or moving head is halted by a fault: the result that ends the operation (R34, R43). -/
def Device.faultResult (d : Device) : OpResult := if d.opKind = some .standardize then .aborted else .fault

/-- The immediate halt of a drive fault or an overtravel (R15, R16, R34, R43). -/
def Device.haltAtOnce (d : Device) : Device :=
  let d := d.dropEnable.closeScan .abortedFault
  let d := d.abandonStd.enterHalted
  (d.endOp d.faultResult none).restRule

/-- A drive fault (R13); the causes are 1 READY_LOST, 2 NOT_READY, 3 STALL. -/
def Device.driveFault (d : Device) (cause : Nat) : Device :=
  (d.rise srcDriveFault (codedValue cause d.trv.counter)).haltAtOnce

/-- OVERTRAVEL rises with the switch code (R16). -/
def Device.riseOvertravel (d : Device) : Device := d.rise srcOvertravel (codedValue d.pins.switchCode d.trv.counter)

/-- ENABLE is asserted for a motion, or a NOT_READY fault is taken instead (R10, R13). -/
def Device.withEnable (d : Device) (k : Device → Device) : Device :=
  if d.trv.enable = false ∧ d.pins.ready = false then d.driveFault 2 else k d.raiseEnable

/-- A motion starts in a sense of travel (R10, R16): READY is checked first (DESIGN CHOICE, log 13); toward a closed limit switch it
ends at its start, a back-off included (log 14), ENABLE being asserted and dropped in the event, which restarts the rest timer (R15;
DESIGN CHOICE, log 33). -/
def Device.startDrive (d : Device) (side : Side) (k : Device → Device) : Device :=
  d.withEnable (fun d => if d.pins.limit side then d.riseOvertravel.haltAtOnce else k d)

/-- The position is lost (R6, R34, R43); the causes are 1 ENCODER, 2 HOME_CHECK, 3 RANGE. -/
def Device.losePosition (d : Device) (cause counter : Nat) : Device :=
  let d := (d.setTrv { d.trv with homed := false }).rise srcPositionLost (codedValue cause counter)
  if d.trv.enable then
    if d.trv.state = .halted then d.endOp .fault none
    else
      let d := (d.closeScan .abortedFault).goTo .halted
      (d.setTrv { d.trv with target := 0, motion := .stopping }).endOp .fault none
  else
    let d := d.abandonStd.goTo .unhomed
    d.endOp d.faultResult none

/-! ## Positioning moves (R21) -/

/-- The stopping distance of a commanded speed, in fc (R21). -/
def stoppingDistance (c : Int) (accel : Nat) : Nat := ceilDiv (c.natAbs ^ 2) (1000 * accel)

/-- The commanded speed is toward a destination; at the destination itself every speed is (DESIGN CHOICE, log 15). -/
def movingToward (c : Int) (counter dest : Nat) : Bool :=
  decide (counter = dest ∨ (counter < dest ∧ 0 < c) ∨ (dest < counter ∧ c < 0))

/-- The target speed of a positioning move at a ramp step (R21). -/
def Device.moveTarget (d : Device) (dest speed : Nat) : Int :=
  let c := d.trv.commanded
  let x := d.trv.counter
  if movingToward c x dest ∧ dist x dest ≤ stoppingDistance c (d.frameField FrameRecord.accel) then 0
  else signed (sideToward x dest) speed

/-- A positioning move begins: it arrives at once within 20 fc, else the drive starts (R21). -/
def Device.beginMove (d : Device) (dest : Int) (speed : Nat) (p : Purpose) (arrive : Device → Device) : Device :=
  let dest : Nat := match d.trv.frame with
    | none => dest.toNat
    | some f => f.within dest
  if dist d.trv.counter dest ≤ 20 then arrive d
  else d.startDrive (sideToward d.trv.counter dest) (fun d =>
    d.setTrv { d.trv with motion := .move dest speed p, target := d.moveTarget dest speed })

/-! ## Scan settings in force (R36, R37) -/

/-- What an epoch compares (R36): the pitch and the slice map. -/
def ScanSettings.sameCuts (s q : ScanSettings) : Bool :=
  decide (s.pitch = q.pitch ∧ s.p0 = q.p0 ∧ s.width = q.width ∧ s.count = q.count)

/-- The plan base (R29). -/
def Device.planBase (d : Device) : Nat := (d.trv.active.map ScanSettings.base).getD 0

/-- A settings record is applied (R36): it replaces the active one, an epoch starts where it cuts the sheet otherwise, and
the plan's count is clamped. -/
def Device.applySettings (d : Device) (s : ScanSettings) : Device :=
  let range := d.trv.frame.map (fun f => effectiveRange f s)
  let same := match d.trv.active, d.trv.range, range with
    | some a, some r, some q => a.sameCuts s && r.sameEnds q
    | _, _, _ => false
  let d := d.setTrv { d.trv with active := some s, range := range, planCount := min d.trv.planCount s.base }
  if same then d else d.startEpoch

/-- The effective range differs from the programmed one (R35, R37). -/
def Device.trimmed (d : Device) : Bool :=
  match d.trv.active, d.trv.range with
  | some s, some r => decide (r.low ≠ s.low ∨ r.high ≠ s.high)
  | _, _ => false

/-- The pending record is applied, with its DONE (R37). -/
def Device.applyPending (d : Device) : Device :=
  match d.trv.pending with
  | none => d
  | some (tag, s) =>
    let d := (d.setTrv { d.trv with pending := none }).applySettings s
    d.offerDone .setScan tag .applied d.trimmed none

/-- The effective range is recomputed at an acceptance or resume of SCAN or POINT (R22): an epoch where it changed. -/
def Device.refreshRange (d : Device) : Device :=
  let changed := match d.trv.range, d.rangeInForce with
    | some r, some q => !(r.sameEnds q)
    | _, _ => true
  let d := d.setTrv { d.trv with range := d.rangeInForce }
  if changed then d.startEpoch else d

/-- The recomputation of R22 gives a range other than the one last used (R19's ADJUSTED). -/
def Device.rangeMoved (d : Device) : Bool :=
  match d.trv.range, d.rangeInForce with
  | some r, some q => !(r.sameEnds q)
  | _, _ => true

/-! ## Scanning (R28 to R31) -/

/-- The scan speed of the settings in force. -/
def Device.scanSpeed (d : Device) : Nat := (d.trv.active.map ScanSettings.speed).getD 0

/-- The counter is at or past the range end at which a scan begins (R28; past it: DESIGN CHOICE, log 17). -/
def Device.atRangeStart (d : Device) (side : Side) : Bool :=
  match d.trv.range, side with
  | some r, .ds => decide (r.low ≤ d.trv.counter)
  | some r, .ts => decide ((d.trv.counter : Int) ≤ r.high)
  | none, _ => false

/-- The counter is at or past the range end at which a scan closes (R30). -/
def Device.atRangeEnd (d : Device) (side : Side) : Bool :=
  match d.trv.range, side with
  | some r, .ds => decide (r.high ≤ d.trv.counter)
  | some r, .ts => decide ((d.trv.counter : Int) ≤ r.low)
  | none, _ => false

/-- The traverse enters SCAN (R28): a scan record opens (R96) and the gating starts (R48). -/
def Device.enterScan (d : Device) (side : Side) : Device :=
  let d := d.goTo .scan
  let d := d.setTrv { d.trv with motion := .scanning, scanDir := side }
  (d.openScanRecord side).startGating

/-- The head accelerates toward the range (R28, R31). -/
def Device.startRun (side : Side) (d : Device) : Device :=
  d.startDrive side (fun d =>
    let d := d.setTrv { d.trv with motion := .runUp side, target := signed side d.scanSpeed, scanDir := side }
    if d.atRangeStart side then d.enterScan side else d)

/-- The run-up point of a scan (R28). -/
def EffRange.runUp (r : EffRange) : Side → Int
  | .ds => r.low - r.turn
  | .ts => r.high + r.turn

/-- The move to the run-up point (R28, R31). -/
def Device.moveToRunUp (d : Device) (side : Side) : Device :=
  match d.trv.range with
  | none => d
  | some r => d.beginMove (r.runUp side) (d.frameField FrameRecord.travelSpeed) (.runUp side) (Device.startRun side)

/-- The direction of the first scan (R28). -/
def EffRange.firstSide (r : EffRange) (counter : Nat) : Side := if (counter : Int) ≤ (r.low + r.high) / 2 then .ds else .ts

/-- APPROACH for a scan (R28). -/
def Device.approachScan (d : Device) : Device :=
  let side := match d.trv.range with
    | none => Side.ds
    | some r => r.firstSide d.trv.counter
  (d.goTo .approach).moveToRunUp side

/-- POINT is entered when its move arrives (R33, R51, R111). -/
def Device.enterPoint (d : Device) : Device :=
  d.withEnable (fun d =>
    let d := d.goTo .point
    let d := d.setTrv { d.trv with motion := .hold, target := 0 }
    let d := d.setPrf { d.prf with batchCount := 0 }
    d.startTimeGating ((d.trv.active.map ScanSettings.pointPeriod).getD 0))

/-- APPROACH for a point (R33). -/
def Device.approachPoint (d : Device) (pos : Nat) : Device :=
  (d.goTo .approach).beginMove pos (d.frameField FrameRecord.travelSpeed) .point Device.enterPoint

/-- STANDARDIZING is entered (R34, R62, R51). -/
def Device.enterStandardizing (d : Device) : Device :=
  ((d.goTo .standardizing).beginCollection).startTimeGating ((d.std.settings.map StdSettings.period).getD 0)

/-! ## Checks of the measuring operations (R20) -/

/-- A standardize will be due for a SCAN taken now (R27). -/
def Device.scanNeedsStd (d : Device) : Bool := decide (d.trv.planCount = 0) || d.std.ref.isNone

/-- The checks that SCAN and POINT share after their own (R20: third, fourth, fifth). -/
def Device.measureCheck (d : Device) : Option ReplyCode :=
  if d.cond srcShutter then some .state
  else if d.brk.sheet ≠ .running then some .sheet
  else if d.lnk.link ≠ .good then some .link
  else none

/-- The checks of SCAN from the UNCONFIGURED stage on (R20). -/
def Device.scanCheck (d : Device) : Option ReplyCode :=
  match d.rangeInForce, d.trv.active with
  | some r, some s =>
    if !(r.usable s.pitch) || (d.scanNeedsStd && d.std.settings.isNone) then some .unconfigured else d.measureCheck
  | _, _ => some .unconfigured

/-- The checks of POINT from the UNCONFIGURED stage on (R20). -/
def Device.pointCheck (d : Device) (pos : Nat) : Option ReplyCode :=
  match d.trv.frame, d.trv.active with
  | some f, some _ =>
    if 262143 < pos ∨ pos < f.softLow ∨ f.softHigh < pos then some .badValue else d.measureCheck
  | _, _ => some .unconfigured

/-! ## Starting operations (R27, R33) -/

/-- The record and the range of a SCAN operation at its acceptance or resume (R27, R22). -/
def Device.openScanOp (d : Device) (tag : Byte) : Device :=
  let o : OpRecord := ⟨.scan, tag, 0, d.scanNeedsStd, decide (d.trv.planCount = 0), d.rangeMoved⟩
  d.refreshRange.setOp o

/-- A SCAN operation begins in PARKED (R27): standardize when due, else approach. -/
def Device.beginScanParked (d : Device) (tag : Byte) : Device :=
  let due := d.scanNeedsStd
  let d := d.openScanOp tag
  if due then d.enterStandardizing else d.approachScan

/-- A POINT operation begins (R33, R22). -/
def Device.beginPoint (d : Device) (tag : Byte) (pos : Nat) : Device :=
  let o : OpRecord := ⟨.point, tag, pos, false, false, d.rangeMoved⟩
  (d.refreshRange.setOp o).approachPoint pos

/-! ## Automatic resume (R41) -/

/-- A motion command accepted, or answered OK: DRIVE_FAULT falls while READY is high, the resume is cleared (R13, R20, R40). -/
def Device.motionTaken (d : Device) : Device :=
  let d := if d.pins.ready then d.fallIfActive srcDriveFault else d
  d.setTrv { d.trv with resume := none }

/-- The result of a resume that could not start (R41). -/
def ReplyCode.resumeResult : ReplyCode → OpResult
  | .unconfigured => .unconfigured
  | .badValue => .badValue
  | .link => .link
  | _ => .state

/-- The three conditions of an automatic resume (R41). -/
def Device.resumeReady (d : Device) : Bool :=
  decide (d.trv.state = .parked) && d.trv.op.isNone && decide (d.brk.sheet = .running)

/-- A resume that fails its checks (R41): the record is cleared and a DONE with tag 0 carries the refusal. -/
def Device.resumeRefused (d : Device) (kind : OpKind) (c : ReplyCode) : Device :=
  (d.setTrv { d.trv with resume := none }).offerDone kind 0 c.resumeResult false none

/-- The automatic resume (R41): nothing unless its three conditions hold; it starts exactly as an accepted command, so an active
DRIVE_FAULT falls while READY is high (R13; DEDUCED, log 34). -/
def Device.tryResume (d : Device) : Device :=
  match d.trv.resume with
  | none => d
  | some r =>
    if d.resumeReady then
      match r with
      | .scan =>
        match d.scanCheck with
        | some c => d.resumeRefused .scan c
        | none => d.motionTaken.beginScanParked 0
      | .point pos =>
        match d.pointCheck pos with
        | some c => d.resumeRefused .point c
        | none => d.motionTaken.beginPoint 0 pos
    else d

/-! ## Parking (R24, R25) -/

/-- How an entry to PARKED ends the operation in flight: by its kind, or with a given result (R25, R32, R34). -/
def Device.parkedOp (d : Device) (ending : Option (OpResult × Option OpResult)) : Device :=
  match d.trv.op, ending with
  | none, _ => d
  | some _, some e => d.endOp e.1 e.2
  | some o, none =>
    if o.kind = .home ∨ o.kind = .park then d.endOp .complete none
    else if o.kind = .scan then
      if o.stdDue then d.enterStandardizing else d.endOp .planDone none
    else d

/-- Entry to PARKED, one event of four stages (R25). -/
def Device.enterParked (ending : Option (OpResult × Option OpResult)) (d : Device) : Device :=
  let d := (d.goTo .parked).dropEnable
  let d := d.applyPending.parkedOp ending
  if d.trv.op.isNone then d.tryResume else d

/-- PARKING with a positioning move to the park position (R24). -/
def Device.enterParking (d : Device) : Device :=
  (d.goTo .parking).beginMove (d.frameField FrameRecord.park) (d.frameField FrameRecord.travelSpeed) .park
    (Device.enterParked none)

/-- A SCAN operation's first phase (R27). -/
def Device.beginScan (d : Device) (tag : Byte) : Device :=
  if d.trv.state = .halted ∧ d.scanNeedsStd then (d.openScanOp tag).enterParking else d.beginScanParked tag

/-- A positioning move arrives (R21). -/
def Device.arrive (d : Device) (p : Purpose) : Device :=
  match p with
  | .park => d.enterParked none
  | .runUp side => d.startRun side
  | .point => d.enterPoint

/-! ## Turns (R30 to R32) -/

/-- The plan counts a COMPLETE scan (R29). -/
def Device.countPlan (d : Device) : Device := d.setTrv { d.trv with planCount := d.trv.planCount - 1 }

/-- What the turn is for (R30, R32). -/
def Device.chooseTurn (d : Device) : Device :=
  if d.trv.planCount = 0 then
    let reload := (d.trv.active.map ScanSettings.autoReload).getD false
    d.setTrv { d.trv with target := 0, motion := .braking true,
                          op := d.trv.op.map (fun o => if reload then { o with stdDue := true, reloadDue := true } else o) }
  else d.setTrv { d.trv with target := 0, motion := .braking false, scanDir := d.trv.scanDir.opposite }

/-- Entry to TURN (R30): close COMPLETE, count the plan, apply the pending settings, choose the turn. -/
def Device.enterTurn (d : Device) : Device :=
  (((d.goTo .turn).closeScan .complete).countPlan.applyPending).chooseTurn

/-- The head beyond the range end at which the next scan begins (R31). -/
def Device.beyondStart (d : Device) (side : Side) : Bool :=
  match d.trv.range, side with
  | some r, .ts => decide (r.high < d.trv.counter)
  | some r, .ds => decide ((d.trv.counter : Int) < r.low)
  | none, _ => false

/-- Braking in TURN has reached zero (R31). -/
def Device.turnBraked (d : Device) (endsPlan : Bool) : Device :=
  if endsPlan then d.enterParking
  else if d.beyondStart d.trv.scanDir then d.startRun d.trv.scanDir
  else d.moveToRunUp d.trv.scanDir

/-! ## The ramp (R11, R12) -/

/-- One acceleration step toward the target (R11). A reversal whose step exceeds the speed left crosses zero inside the step, without a
period at speed 0 (DESIGN CHOICE, log 39). -/
def rampTo (c target : Int) (step : Nat) : Int :=
  if (target - c).natAbs < step then target else if c < target then c + step else if target < c then c - step else c

/-- A target toward a closed limit switch is not ramped toward (R11, R16); the commanded speed then stays as it is (DESIGN CHOICE,
log 35). -/
def Device.inhibited (d : Device) (target : Int) : Bool :=
  decide (target < 0) && d.pins.limitTs || decide (0 < target) && d.pins.limitDs

/-- The target speed at a ramp step: a positioning move sets its own (R21). -/
def Device.stepTarget (d : Device) : Int :=
  match d.trv.motion with
  | .move dest speed _ => d.moveTarget dest speed
  | _ => d.trv.target

/-- The ramp step (R11) with DIRECTION (R10) and stall supervision (R14). -/
def Device.rampStep (d : Device) : Device :=
  let t := d.stepTarget
  let c := if d.inhibited t then d.trv.commanded else rampTo d.trv.commanded t (d.frameField FrameRecord.accel / 5)
  (d.setTrv { d.trv with target := t, commanded := c,
                         direction := if 0 < c then true else if c < 0 then false else d.trv.direction }).superviseStall

/-- A new period's high and low times (R12). -/
def Device.startPeriod (d : Device) : Device :=
  let m := min 1000 (d.trv.commanded.natAbs / 100)
  d.setTrv { d.trv with highTime := 2 * m, lowTime := 2000 - 2 * m, speedRef := decide (0 < m),
                        periodDue := some (d.clk + 2000),
                        highDue := if 0 < m ∧ m < 1000 then some (d.clk + 2 * m) else none }

/-- What a ramp step leads to: the end of a move's run (R21), the start of the seek (R7), the end of a turn's braking (R31),
the end of a stopping ramp (R15, R26; at the ramp step that finds speed 0, log 16). -/
def Device.afterRamp (d : Device) : Device :=
  match d.trv.motion with
  | .move dest _ p =>
    if d.trv.commanded = 0 ∧ d.trv.target = 0 then
      if dist d.trv.counter dest ≤ 20 then d.arrive p
      else d.beginMove dest (d.frameField FrameRecord.homingSpeed) p (fun d => d.arrive p)
    else d
  | .reversing => if d.trv.commanded < 0 then d.setTrv { d.trv with motion := .seek } else d
  | .braking endsPlan => if d.trv.commanded = 0 then d.turnBraked endsPlan else d
  | .stopping =>
    if d.trv.commanded = 0 then
      let d := d.dropEnable
      if d.opKind = some .stop then d.endOp .stopped none else d
    else d
  | .rest | .backOff | .seek | .runUp _ | .scanning | .hold => d

/-! ## Encoder (R4 to R6) -/

/-- The step of a sampling that changed one line (R4's table): up when true. -/
def stepUp (a0 b0 a b : Bool) : Bool :=
  if a != a0 then
    match a, b with
    | true, false => true    -- A rising, B low
    | true, true => false    -- A rising, B high
    | false, true => true    -- A falling, B high
    | false, false => false  -- A falling, B low
  else
    match b, a with
    | true, true => b != b0      -- B rising, A high
    | true, false => false       -- B rising, A low
    | false, false => b != b0    -- B falling, A low
    | false, true => false       -- B falling, A high

/-- The counter one step on, wrapping (R4). -/
def stepCounter (up : Bool) (c : Nat) : Nat := if up then (c + 1) % 262144 else (c + 262143) % 262144

/-- The step leaves the coordinate (R4). -/
def stepWraps (up : Bool) (c : Nat) : Bool := if up then decide (262143 ≤ c) else decide (c = 0)

/-- What a step does to a scan or a run toward one (R28, R30, R49). -/
def Device.afterStep (d : Device) (up : Bool) : Device :=
  let side : Side := if up then .ds else .ts
  match d.trv.state with
  | .scan =>
    if side = d.trv.scanDir then
      let d := if d.acq.next = some d.trv.counter then d.crossBoundary else d
      if d.atRangeEnd side then d.enterTurn else d
    else d
  | .approach | .turn =>
    match d.trv.motion with
    | .runUp s => if d.atRangeStart s then d.enterScan s else d
    | _ => d
  | .unhomed | .homing | .parked | .standardizing | .point | .parking | .halted => d

/-- A legal step (R4). -/
def Device.takeStep (d : Device) (up : Bool) : Device :=
  let c := d.trv.counter
  let d := d.setTrv { d.trv with counter := stepCounter up c, restTimer := d.after 100 }
  if d.trv.homed ∧ stepWraps up c then d.losePosition 3 c else d.afterStep up

/-- An illegal transition (R5). -/
def Device.takeIllegal (d : Device) : Device :=
  let n := min 255 (d.trv.faultCount + 1)
  let lost := d.trv.homed ∧ n = 4
  let d := d.setTrv { d.trv with faultCount := n }
  if lost then d.losePosition 1 d.trv.counter else d

/-- A sampling of A and B (R4, R5): the first only records. -/
def Device.sampleEncoder (d : Device) (a b : Bool) : Device :=
  let last := d.trv.sampling
  let d := d.setTrv { d.trv with sampling := some (a, b) }
  match last with
  | none => d
  | some (a0, b0) =>
    if a ≠ a0 ∧ b ≠ b0 then d.takeIllegal
    else if a ≠ a0 ∨ b ≠ b0 then d.takeStep (stepUp a0 b0 a b)
    else d

/-! ## Homing (R7 to R9) -/

/-- HOMING is entered: the homed flag clears and the first phase is chosen (R7). -/
def Device.enterHoming (d : Device) : Device :=
  let d := d.goTo .homing
  let d := d.setTrv { d.trv with homed := false }
  let v := d.frameField FrameRecord.homingSpeed
  if d.pins.home ∨ d.pins.limitTs then
    d.startDrive .ds (fun d => d.setTrv { d.trv with motion := .backOff, target := signed .ds v })
  else d.startDrive .ts (fun d => d.setTrv { d.trv with motion := .seek, target := signed .ts v })

/-- The back-off ends when both switches are open (R7). -/
def Device.endBackOff (d : Device) : Device :=
  if d.trv.motion = .backOff ∧ d.pins.home = false ∧ d.pins.limitTs = false then
    d.setTrv { d.trv with motion := .reversing, target := signed .ts (d.frameField FrameRecord.homingSpeed) }
  else d

/-- The closure that completes the homing (R8, R23). -/
def Device.completeHoming (d : Device) : Device :=
  let d := d.setTrv { d.trv with counter := d.frameField FrameRecord.homeOffset, faultCount := 0, homed := true }
  (d.fallIfActive srcPositionLost).enterParking

/-- A closure of the HOME switch (R8, R9). -/
def Device.homeClosure (d : Device) : Device :=
  if d.trv.motion = .seek then d.completeHoming
  else if d.trv.homed then
    if d.frameField FrameRecord.homeTolerance < dist d.trv.counter (d.frameField FrameRecord.homeOffset) then
      d.losePosition 2 d.trv.counter
    else d
  else d

/-! ## What sheet, link and standardization do to the traverse -/

/-- The head leaves the sheet (R39, R42): PARKING, the scan and the operation end, and the move to the park position starts. -/
def Device.leaveSheet (d : Device) (c : Completion) (r : OpResult) : Device :=
  let d := (d.goTo .parking).closeScan c
  let d := d.endOp r none
  d.beginMove (d.frameField FrameRecord.park) (d.frameField FrameRecord.travelSpeed) .park (Device.enterParked none)

/-- Entry of the sheet state to BREAK (R39). -/
def Device.parkOnBreak (d : Device) : Device :=
  if d.trv.state.overSheet then d.leaveSheet .abortedBreak .sheetBreak else d

/-- The resume-pending record at the declaration of a break (R40). -/
def Device.noteResume (d : Device) : Device :=
  match d.trv.op, d.trv.active with
  | some o, some s =>
    if s.autoResume then
      if o.kind = .scan then d.setTrv { d.trv with resume := some .scan }
      else if o.kind = .point then d.setTrv { d.trv with resume := some (.point o.position) }
      else d
    else d
  | _, _ => d

/-- Entry of the link state to LOST (R42). -/
def Device.parkOnLinkLoss (d : Device) : Device :=
  if d.trv.state.overSheet then d.leaveSheet .abortedLink .link
  else if d.trv.state = .standardizing then
    d.abandonStd.enterParked (some (if d.opKind = some .standardize then .aborted else .link, none))
  else if d.opKind = some .scan ∨ d.opKind = some .point then d.endOp .link none
  else d

/-- The plan is reloaded when the standardize that reload-due waits for succeeds (R29, R32). -/
def Device.reloadPlan (d : Device) (o : OpRecord) : Device :=
  d.setTrv { d.trv with planCount := if o.reloadDue then d.planBase else d.trv.planCount,
                        op := some { o with stdDue := false, reloadDue := false } }

/-- A SCAN operation after its standardize (R32); with the link LOST, which no run reaches, LINK (DEDUCED, log 28). -/
def Device.scanAfterStd (d : Device) (o : OpRecord) (r : OpResult) : Device :=
  if r = .adopted ∨ r = .adoptedDrift then
    let d := d.reloadPlan o
    if d.lnk.link = .lost then d.enterParked (some (.link, none))
    else if d.brk.sheet = .running ∨ d.brk.sheet = .noSheet then d.approachScan
    else d.enterParked (some (.sheetBreak, none))
  else d.enterParked (some (.stdFailed, some r))

/-- STD reports its result and the traverse leaves STANDARDIZING (R73, R34, R32). -/
def Device.afterStd (d : Device) (r : OpResult) : Device :=
  match d.trv.op with
  | none => d.enterParked none
  | some o => if o.kind = .scan then d.scanAfterStd o r else d.enterParked (some (r, some r))

/-- A result of STD, where there is one, goes to TRV in the same event (R73). -/
def Device.reportStd (c : Device × Option OpResult) : Device :=
  match c.2 with
  | none => c.1
  | some r => c.1.afterStd r

/-- The sample timer expires (R51): the sample closes, a new one opens, and the record is handed on by the state (R47). -/
def Device.closeTimedSample (d : Device) (o : OpenSample) : Device :=
  let s := d.closing o
  let period := if d.trv.state = .standardizing then (d.std.settings.map StdSettings.period).getD 0
    else (d.trv.active.map ScanSettings.pointPeriod).getD 0
  let d := d.startTimeGating period
  if d.trv.state = .standardizing then ((Device.reportStd (d.takeStdSample s))).recordClosed s
  else
    let c := d.convertSample false s
    (c.1.enterRing c.2).recordClosed s

end Sys2Proof.Machine
end

