-- ==== Sys2Proof/Machine/Breaks.lean ====
section
/-! DEFINITION. The Break Detector (08): stations, the machine sheet state, the declaration of a break, the cascade window,
notices and history, and the commands it owns (SET_STATION, SET_BREAK, GET_STATIONS, GET_BREAKS). -/

namespace Sys2Proof.Machine

/-! ## Stations (R128 to R135) -/

def Device.station (d : Device) (n : Fin 8) : Station := d.brk.stations[n]

def Device.setStationAt (d : Device) (n : Fin 8) (x : Station) : Device :=
  d.setBrk { d.brk with stations := d.brk.stations.set n x }

/-- A definition's polarity; a station without one is read by its raw level (R149, log 21). -/
def Station.polarity (x : Station) : Bool := (x.definition.map StationDef.polarity).getD false

/-- The input shows presence: its level is the one the polarity names (R128). -/
def Device.showsSheet (d : Device) (n : Fin 8) : Bool := d.pins.stations[n] != (d.station n).polarity

/-- The station's input takes the level that shows presence or absence. -/
def Device.moveStationInput (d : Device) (n : Fin 8) (present : Bool) : Device :=
  d.setPins { d.pins with stations := d.pins.stations.set n (present != (d.station n).polarity) }

/-- A station holds sheet when it is PRESENT or LOSING (R136). -/
def StationState.holds : StationState → Bool
  | .present | .losing => true
  | .disabled | .noSheet | .restoring | .broken => false

/-- The crawl speed in force (R131). -/
def Device.crawl (d : Device) : Nat := (d.brk.settings.map BreakSettings.crawl).getD 0

/-- The cascade time in force (R131). -/
def Device.cascadeTime (d : Device) : Nat := (d.brk.settings.map BreakSettings.cascade).getD 0

/-- The machine speed is at least the crawl speed (R133, R134). -/
def Device.aboveCrawl (d : Device) : Bool := decide (d.crawl ≤ d.acq.speed)

/-- A station starts as at enabling (R130). -/
def Device.startStation (d : Device) (n : Fin 8) : Device :=
  let x := d.station n
  let restore := (x.definition.map StationDef.restore).getD 0
  d.setStationAt n
    (if d.showsSheet n then { x with state := .restoring, qualifyTimer := none, restoreTimer := d.after restore }
     else { x with state := .noSheet, qualifyTimer := none, restoreTimer := none })

/-! ## The break record (R138, R141 to R146) -/

/-- The record of a break number, open or in the history (R144). -/
def Brk.find (b : Brk) (n : Nat) : Option BreakRecord := (b.openRec.toList ++ b.history).find? (fun r => r.number = n)

/-- A record marked as notified, where its number is the given one. -/
def BreakRecord.noted (n : Nat) (r : BreakRecord) : BreakRecord := if r.number = n then { r with notified := true } else r

/-- The 5 bytes of a loss entry (10 section 10.8). -/
def LossEntry.bytes (e : LossEntry) : List Byte :=
  [BitVec.ofNat 8 e.station.val] ++ beBytes 2 e.offset ++ [boolByte e.independent, BitVec.ofNat 8 e.repeats]

/-- The BREAK notice, from the record at its placement (R143, 10 section 10.8). -/
def BreakRecord.notice (r : BreakRecord) : Frame :=
  ⟨breakKind, 0,
   beBytes 4 r.number ++ beBytes 4 r.time ++ [BitVec.ofNat 8 r.firstOut.val, BitVec.ofNat 8 r.repeats] ++
   beBytes 2 r.speed ++ [r.travState.code] ++ opt16 r.cascadeClose ++
   [boolByte r.restore.isSome, BitVec.ofNat 8 r.losses.length] ++ r.losses.flatMap LossEntry.bytes⟩

/-- The notice of the due list's oldest entry is placed and its record marked (R144). -/
def Device.placeBreak (d : Device) : Device :=
  match d.brk.due with
  | [] => d
  | n :: rest =>
    let b := { d.brk with due := rest }
    match d.brk.find n with
    | none => d.setBrk b
    | some r =>
      (d.setBrk { b with openRec := b.openRec.map (BreakRecord.noted n), history := b.history.map (BreakRecord.noted n) }).setLnk
        { d.lnk with eventQ := d.lnk.eventQ ++ [r.notice] }

/-- Placements while the queue has a free place and the due list an entry (R144). -/
def Device.placeBreaks : Nat → Device → Device
  | 0, d => d
  | k + 1, d => if d.lnk.eventRoom ∧ d.brk.due ≠ [] then placeBreaks k d.placeBreak else d

/-- A notice falls due: to the end of the due list, and placed at once where there is room (R144). -/
def Device.fallDue (d : Device) (n : Nat) : Device :=
  let d := d.setBrk { d.brk with due := d.brk.due ++ [n] }
  d.placeBreaks d.brk.due.length

/-- The cascade window of a record closes now (R142). -/
def Device.closedWindow (d : Device) (r : BreakRecord) : BreakRecord := { r with cascadeClose := some (sat16 (d.since r.time)) }

/-- A record enters the history; the oldest is dropped beyond sixteen, and its due entry with it (R146, R144). -/
def Brk.archive (b : Brk) (r : BreakRecord) : Brk :=
  let dropped := b.history.drop 15
  { b with openRec := none, cascade := none, history := (r :: b.history).take 16,
           due := b.due.filter (fun n => !(dropped.any (fun x => x.number = n))) }

/-- The open record closes at the entry to RUNNING (R146). -/
def Device.closeRecord (d : Device) : Device :=
  match d.brk.openRec with
  | none => d
  | some r =>
    let running := d.brk.cascade.isSome
    let r := { (if running then d.closedWindow r else r) with restore := some (d.since r.time) }
    let d := d.setBrk { d.brk with openRec := some r, cascade := none }
    let d := if running then d.fallDue r.number else d
    d.setBrk (d.brk.archive (d.brk.openRec.getD r))

/-! ## The sheet state (R136, R137) -/

/-- Every enabled station holds sheet. -/
def Brk.allHold (b : Brk) : Bool :=
  allEight.all (fun n => decide (b.stations[n].state = .disabled) || b.stations[n].state.holds)

/-- Some station is BROKEN. -/
def Brk.anyBroken (b : Brk) : Bool := allEight.any (fun n => decide (b.stations[n].state = .broken))

/-- The sheet state that the stations and the open record give (R136). -/
def Brk.evaluate (b : Brk) : SheetState :=
  match b.openRec with
  | none => if b.allHold then .running else .noSheet
  | some _ => if b.anyBroken then .sheetBreak else if b.allHold then .running else .threading

/-- The sheet state is evaluated, and a change acted on in the same event (R136, R137, R146, R41). -/
def Device.evaluateSheet (d : Device) : Device :=
  let s := d.brk.evaluate
  if s = d.brk.sheet then d
  else
    let d := (d.setBrk { d.brk with sheet := s }).setChanged true
    match s with
    | .sheetBreak => d.parkOnBreak
    | .running => d.closeRecord.tryResume
    | .noSheet | .threading => d

/-! ## Presence events (R132 to R135) -/

/-- A presence-seen event (R132, R134, R135). -/
def Device.presenceSeen (d : Device) (n : Fin 8) : Device :=
  let x := d.station n
  match x.state with
  | .noSheet | .broken =>
    let d := d.setStationAt n { x with state := .restoring, restoreTimer := d.after ((x.definition.map StationDef.restore).getD 0) }
    (d.fallIfActive (srcBreak n)).evaluateSheet
  | .losing =>
    (d.setStationAt n { x with state := .present, qualifyTimer := none, flickers := sat16 (x.flickers + 1) }).evaluateSheet
  | .disabled | .restoring | .present => d

/-- A presence-lost event (R132, R133). -/
def Device.presenceLost (d : Device) (n : Fin 8) : Device :=
  let x := d.station n
  match x.state with
  | .restoring => (d.setStationAt n { x with state := .noSheet, restoreTimer := none }).evaluateSheet
  | .present =>
    (d.setStationAt n
      (if d.aboveCrawl then { x with state := .losing, qualifyTimer := d.after ((x.definition.map StationDef.qualify).getD 0) }
       else { x with state := .noSheet })).evaluateSheet
  | .disabled | .noSheet | .losing | .broken => d

/-- The station's input changes to presence or absence (R128); with no change there is no event (log 11). -/
def Device.stationInput (d : Device) (n : Fin 8) (present : Bool) : Device :=
  if d.showsSheet n = present then d
  else
    let d := d.moveStationInput n present
    if present then d.presenceSeen n else d.presenceLost n

/-! ## Qualified losses (R134, R138 to R141, R147) -/

/-- The record that a declaration opens (R138). -/
def Device.newBreakRecord (d : Device) (n : Fin 8) : BreakRecord :=
  { number := wrap32 (d.brk.breakNumber + 1), time := d.now, firstOut := n, repeats := 0,
    position := if d.trv.homed then some d.trv.counter else none, speed := d.acq.speed, travState := d.trv.state,
    scan := d.prf.openScan.map OpenScan.number, losses := [], cascadeClose := none, restore := none, notified := false }

/-- A break is declared (R138, R139). -/
def Device.declareBreak (d : Device) (n : Fin 8) : Device :=
  let r := d.newBreakRecord n
  let d := d.setBrk { d.brk with openRec := some r, breakNumber := r.number }
  let d := d.noteResume.evaluateSheet
  let d := d.setPrf { d.prf with reseed := true }
  let d := d.rise (srcBreak n) r.number
  d.setBrk { d.brk with cascade := d.after d.cascadeTime }

/-- A loss of a station that the record's loss list may hold already (R141). -/
def addLoss (n : Fin 8) (offset : Nat) (independent : Bool) : List LossEntry → List LossEntry
  | [] => [⟨n, offset, independent, 0⟩]
  | e :: es =>
    if e.station = n then { e with repeats := min 255 (e.repeats + 1) } :: es else e :: addLoss n offset independent es

/-- A qualified loss entered in the open record or counted against it (R141). -/
def BreakRecord.withLoss (r : BreakRecord) (n : Fin 8) (offset : Nat) (independent : Bool) : BreakRecord :=
  if r.firstOut = n then { r with repeats := min 255 (r.repeats + 1) }
  else { r with losses := addLoss n offset independent r.losses }

/-- The loss of a station raises its condition: first-out, or first entered as INDEPENDENT (R147). -/
def BreakRecord.raises (r : BreakRecord) (n : Fin 8) : Bool :=
  decide (r.firstOut = n) || r.losses.any (fun e => decide (e.station = n) && e.independent)

/-- A qualified loss while a record is open (R140, R141, R147). -/
def Device.cascadeLoss (d : Device) (n : Fin 8) : Device :=
  match d.brk.openRec with
  | none => d
  | some r =>
    let inside := d.brk.cascade.isSome
    let r := r.withLoss n (sat16 (d.since r.time)) (!inside)
    let d := d.setBrk { d.brk with openRec := some r, cascade := if inside then d.after d.cascadeTime else none }
    if r.raises n then d.rise (srcBreak n) r.number else d

/-- The qualify timer of a LOSING station expires (R134). -/
def Device.qualifyLoss (d : Device) (n : Fin 8) : Device :=
  let x := d.station n
  if d.brk.sheet ≠ .noSheet ∧ d.aboveCrawl then
    let d := d.setStationAt n { x with state := .broken, qualifyTimer := none, losses := sat16 (x.losses + 1) }
    if d.brk.sheet = .running then d.declareBreak n else (d.cascadeLoss n).evaluateSheet
  else
    (d.setStationAt n { x with state := .noSheet, qualifyTimer := none, threadLosses := sat16 (x.threadLosses + 1) }).evaluateSheet

/-- The restore timer expires: the station becomes PRESENT (R132). -/
def Device.stationRestored (d : Device) (n : Fin 8) : Device :=
  (d.setStationAt n { d.station n with state := .present, restoreTimer := none }).evaluateSheet

/-- The cascade timer expires: the window closes and the notice falls due (R142). -/
def Device.closeCascade (d : Device) : Device :=
  match d.brk.openRec with
  | none => d.setBrk { d.brk with cascade := none }
  | some r => (d.setBrk { d.brk with openRec := some (d.closedWindow r), cascade := none }).fallDue r.number

/-! ## RESTART (R151) -/

/-- A station at RESTART, before it starts as at enabling: its timers stopped, its counters 0. -/
def Station.cleared (x : Station) : Station :=
  { x with qualifyTimer := none, restoreTimer := none, flickers := 0, losses := 0, threadLosses := 0 }

/-- BRK at RESTART (R151). -/
def Device.restartBreaks (d : Device) : Device :=
  let b := d.brk
  let b := match b.openRec with
    | none => b
    | some r => b.archive (if b.cascade.isSome then d.closedWindow r else r)
  let d := d.setBrk { b with cascade := none, due := [], stations := b.stations.map Station.cleared }
  let d := allEight.foldl (fun d n => if (d.station n).state = .disabled then d else d.startStation n) d
  d.setBrk { d.brk with sheet := d.brk.evaluate }

/-! ## Commands -/

/-- The definition a SET_STATION payload carries, its times clamped (R129). -/
def stationDefOf (p : List Byte) : StationDef :=
  ⟨decide (field p 1 1 = 1), decide (field p 2 1 = 1), clampTo 5 2000 (field p 3 2), clampTo 100 60000 (field p 5 2)⟩

/-- A definition accepted for a station acts on it (R130). -/
def Device.defineStation (d : Device) (n : Fin 8) (f : StationDef) : Device :=
  let x := d.station n
  let y := { x with definition := some f }
  if f.enabled = false then
    d.setStationAt n { y with state := .disabled, qualifyTimer := none, restoreTimer := none }
  else if x.state = .disabled ∨ x.polarity ≠ f.polarity then (d.setStationAt n y).startStation n
  else d.setStationAt n y

/-- SET_STATION (R129, R130). -/
def Device.setStation (f : Frame) (d : Device) : Device × Option Answer :=
  let p := f.payload
  if p.length ≠ 7 then (d, some (.only .badLength))
  else if d.brk.sheet = .sheetBreak ∨ d.brk.sheet = .threading then (d, some (.only .sheet))
  else if 7 < field p 0 1 ∨ 1 < field p 1 1 ∨ 1 < field p 2 1 then (d, some (.only .badValue))
  else
    let x := stationDefOf p
    if x.enabled = true ∧ d.brk.settings = none then (d, some (.only .unconfigured))
    else ((d.defineStation (Fin.ofNat 8 (field p 0 1)) x).evaluateSheet,
      some (.flagged (decide (x.qualify ≠ field p 3 2 ∨ x.restore ≠ field p 5 2)) false))

/-- SET_BREAK (R131). -/
def Device.setBreak (f : Frame) (d : Device) : Device × Option Answer :=
  let p := f.payload
  if p.length ≠ 4 then (d, some (.only .badLength))
  else
    let x : BreakSettings := ⟨min 30000 (field p 0 2), clampTo 50 5000 (field p 2 2)⟩
    (d.setBrk { d.brk with settings := some x },
     some (.flagged (decide (x.crawl ≠ field p 0 2 ∨ x.cascade ≠ field p 2 2)) false))

/-- One station of GET_STATIONS (R149). -/
def Device.stationBytes (d : Device) (n : Fin 8) : List Byte :=
  let x := d.station n
  [presence x.definition] ++
  (match x.definition with
   | none => []
   | some f => [boolByte f.enabled, boolByte f.polarity] ++ beBytes 2 f.qualify ++ beBytes 2 f.restore) ++
  [x.state.code, boolByte (d.showsSheet n)] ++ beBytes 2 x.flickers ++ beBytes 2 x.losses ++ beBytes 2 x.threadLosses ++
  [boolByte (d.cond (srcBreak n))]

/-- GET_STATIONS (R149); sizes the rule does not give are DESIGN CHOICE (log 9). -/
def Device.getStations (f : Frame) (d : Device) : Device × Option Answer :=
  if f.payload ≠ [] then (d, some (.only .badLength))
  else
    let b := d.brk
    (d, some (.ok (allEight.flatMap d.stationBytes ++ [presence b.settings] ++
      (match b.settings with | none => [] | some k => beBytes 2 k.crawl ++ beBytes 2 k.cascade) ++
      [b.sheet.code] ++ opt32 (b.openRec.map BreakRecord.number) ++
      [boolByte b.cascade.isSome, BitVec.ofNat 8 b.due.length])))

/-- Every field of a break record with its loss list (R148, 08 section 8.4); sizes are DESIGN CHOICE (log 9). -/
def BreakRecord.bytes (r : BreakRecord) : List Byte :=
  beBytes 4 r.number ++ beBytes 4 r.time ++ [BitVec.ofNat 8 r.firstOut.val, BitVec.ofNat 8 r.repeats] ++ opt32 r.position ++
  beBytes 2 r.speed ++ [r.travState.code] ++ opt32 r.scan ++ [BitVec.ofNat 8 r.losses.length] ++
  r.losses.flatMap LossEntry.bytes ++ [presence r.cascadeClose] ++ opt16 r.cascadeClose ++ opt32 r.restore ++
  [boolByte r.notified]

/-- The records from a start position on, position 0 being the open one (R148). -/
def Brk.recordsFrom (b : Brk) (start : Nat) : List BreakRecord :=
  if start = 0 then b.openRec.toList ++ b.history else b.history.drop (start - 1)

/-- GET_BREAKS (R148). -/
def Device.getBreaks (f : Frame) (d : Device) : Device × Option Answer :=
  if f.payload.length ≠ 1 then (d, some (.only .badLength))
  else
    let n := field f.payload 0 1
    if 16 < n then (d, some (.only .badValue))
    else (d, some (.ok ([presence d.brk.openRec, BitVec.ofNat 8 d.brk.history.length] ++ beBytes 4 d.brk.breakNumber ++
      ((d.brk.recordsFrom n).take 3).flatMap BreakRecord.bytes)))

end Sys2Proof.Machine
end

