-- ==== Sys2Proof/Machine/Sequencing.lean ====
section
/-! DEFINITION. The commands that the Traverse Controller owns (01, 02): SET_FRAME, GET_FRAME, the motion commands with the
acceptance table of R20, SET_SCAN and GET_SCAN. -/

namespace Sys2Proof.Machine

/-! ## The frame record (R1 to R3) -/

/-- The record a SET_FRAME payload carries, its speeds and tolerance clamped (R1). -/
def frameOfPayload (p : List Byte) : FrameRecord :=
  { softLow := field p 0 4, softHigh := field p 4 4, homeOffset := field p 8 4, homeTolerance := clampTo 10 2000 (field p 12 2),
    park := field p 14 4, homingSpeed := clampTo 20 200 (field p 18 2), travelSpeed := clampTo 50 1000 (field p 20 2),
    accel := clampTo 100 5000 (field p 22 2) }

/-- A structural field of SET_FRAME is out of range (R1). -/
def FrameRecord.refused (f : FrameRecord) : Bool :=
  decide (262143 < f.softLow ∨ 262143 < f.softHigh ∨ 262143 < f.homeOffset ∨ 262143 < f.park) ||
  decide (f.softHigh < f.softLow + 4000) || decide (f.park < f.softLow ∨ f.softHigh < f.park)

/-- SET_FRAME is refused with BUSY in this traverse state (R1). -/
def Device.frameBusy (d : Device) : Bool :=
  match d.trv.state with
  | .unhomed | .parked => false
  | .halted => d.trv.enable
  | _ => true

/-- An accepted frame record replaces the one in force and acts on the position (R1, R2). -/
def Device.replaceFrame (d : Device) (f : FrameRecord) : Device :=
  let old := d.trv.frame
  let d := d.setTrv { d.trv with frame := some f }
  if d.trv.homed ∧ old.any (fun o => decide (o.homeOffset ≠ f.homeOffset)) then
    (d.setTrv { d.trv with homed := false }).goTo .unhomed
  else if d.trv.state = .parked ∧ old.any (fun o => decide (o.park ≠ f.park)) then d.goTo .halted
  else d

/-- SET_FRAME (R1, R2). -/
def Device.setFrame (f : Frame) (d : Device) : Device × Option Answer :=
  let p := f.payload
  if d.frameBusy then (d, some (.only .busy))
  else if p.length ≠ 24 then (d, some (.only .badLength))
  else
    let x := frameOfPayload p
    if x.refused then (d, some (.only .badValue))
    else (d.replaceFrame x,
      some (.flagged (decide (x.homeTolerance ≠ field p 12 2 ∨ x.homingSpeed ≠ field p 18 2 ∨
        x.travelSpeed ≠ field p 20 2 ∨ x.accel ≠ field p 22 2)) false))

/-- A frame record in the order of the SET_FRAME payload; all absent with no record (R3). -/
def frameRecordBytes (f : Option FrameRecord) : List Byte :=
  opt32 (f.map FrameRecord.softLow) ++ opt32 (f.map FrameRecord.softHigh) ++ opt32 (f.map FrameRecord.homeOffset) ++
  opt16 (f.map FrameRecord.homeTolerance) ++ opt32 (f.map FrameRecord.park) ++ opt16 (f.map FrameRecord.homingSpeed) ++
  opt16 (f.map FrameRecord.travelSpeed) ++ opt16 (f.map FrameRecord.accel)

/-- GET_FRAME (R3): always OK, whatever its payload (DESIGN CHOICE, log 31). -/
def Device.getFrame (_f : Frame) (d : Device) : Device × Option Answer :=
  (d, some (.ok (presence d.trv.frame :: frameRecordBytes d.trv.frame)))

/-! ## Motion commands (R20) -/

/-- What the acceptance table of R20 answers. -/
inductive Verdict where
  | taken
  | okNoDone
  | refuse (c : ReplyCode)
  deriving DecidableEq, Repr

/-- The row of R20's table for HOME. -/
def Device.homeVerdict (d : Device) : Verdict :=
  match d.trv.state with
  | .unhomed | .parked => .taken
  | .halted => if d.trv.enable then .refuse .busy else .taken
  | .homing | .standardizing | .approach | .scan | .turn | .point | .parking => .refuse .busy

/-- The row of R20's table for PARK. -/
def Device.parkVerdict (d : Device) : Verdict :=
  match d.trv.state with
  | .unhomed => .refuse .state
  | .parked => .okNoDone
  | .standardizing | .approach | .scan | .turn | .point => .taken
  | .halted => if d.trv.homed then .taken else .refuse .state
  | .homing | .parking => .refuse .busy

/-- The row of R20's table for SCAN and POINT. -/
def Device.measureVerdict (d : Device) : Verdict :=
  match d.trv.state with
  | .unhomed => .refuse .unconfigured
  | .parked => .taken
  | .halted => if d.trv.enable then .refuse .busy else if d.trv.homed then .taken else .refuse .unconfigured
  | .homing | .standardizing | .approach | .scan | .turn | .point | .parking => .refuse .busy

/-- The row of R20's table for STANDARDIZE. -/
def Device.standardizeVerdict (d : Device) : Verdict :=
  match d.trv.state with
  | .unhomed | .halted => .refuse .state
  | .parked => .taken
  | .homing | .standardizing | .approach | .scan | .turn | .point | .parking => .refuse .busy

/-- The row of R20's table for STOP. -/
def Device.stopVerdict (d : Device) : Verdict :=
  match d.trv.state with
  | .unhomed | .halted => .okNoDone
  | .homing | .parked | .standardizing | .approach | .scan | .turn | .point | .parking => .taken

/-- A command aborts what is in flight: an open scan and the operation (R24, R26); the DONE carries the state as it was (DEDUCED,
log 6). -/
def Device.abortOp (d : Device) : Device := (d.closeScan .abortedCommand).endOp .aborted none

/-- A command of the given payload length, judged by the table and then by its further checks (R20). -/
def Device.motionCommand (d : Device) (f : Frame) (len : Nat) (v : Verdict) (check : Option ReplyCode)
    (start : Device → Device) : Device × Option Answer :=
  if f.payload.length ≠ len then (d, some (.only .badLength))
  else match v with
    | .refuse c => (d, some (.only c))
    | .okNoDone => (d.motionTaken, some (.ok []))
    | .taken =>
      match check with
      | some c => (d, some (.only c))
      | none => (start d.motionTaken, some (.only .accepted))

/-- The frame record that HOME and PARK need (R20). -/
def Device.frameCheck (d : Device) : Option ReplyCode := if d.trv.frame = none then some .unconfigured else none

/-- HOME (R20, R23). -/
def Device.home (f : Frame) (d : Device) : Device × Option Answer :=
  d.motionCommand f 0 d.homeVerdict d.frameCheck (fun d => (d.setOp (newOp .home f.tag)).enterHoming)

/-- What an accepted PARK does (R24). -/
def Device.beginPark (tag : Byte) (d : Device) : Device :=
  let d := d.abortOp
  if d.trv.state = .standardizing then (d.abandonStd.setOp (newOp .park tag)).enterParked none
  else (d.setOp (newOp .park tag)).enterParking

/-- PARK (R20, R24). -/
def Device.park (f : Frame) (d : Device) : Device × Option Answer :=
  d.motionCommand f 0 d.parkVerdict d.frameCheck (Device.beginPark f.tag)

/-- SCAN (R20, R27). -/
def Device.scan (f : Frame) (d : Device) : Device × Option Answer :=
  d.motionCommand f 0 d.measureVerdict d.scanCheck (fun d => d.beginScan f.tag)

/-- POINT (R20, R33). -/
def Device.point (f : Frame) (d : Device) : Device × Option Answer :=
  d.motionCommand f 4 d.measureVerdict (d.pointCheck (field f.payload 0 4)) (fun d => d.beginPoint f.tag (field f.payload 0 4))

/-- The checks of STANDARDIZE (R20). -/
def Device.standardizeCheck (d : Device) : Option ReplyCode :=
  if d.std.settings = none then some .unconfigured
  else if d.cond srcShutter then some .state
  else if d.lnk.link = .lost then some .link
  else none

/-- STANDARDIZE (R20, R34). -/
def Device.standardize (f : Frame) (d : Device) : Device × Option Answer :=
  d.motionCommand f 0 d.standardizeVerdict d.standardizeCheck
    (fun d => (d.setOp (newOp .standardize f.tag)).enterStandardizing)

/-- What an accepted STOP does (R26): a stopping ramp, or HALTED at rest with STOPPED at once. -/
def Device.beginStop (tag : Byte) (d : Device) : Device :=
  let d := d.abortOp.abandonStd.goTo .halted
  let d := d.setOp (newOp .stop tag)
  if d.trv.enable then d.setTrv { d.trv with target := 0, motion := .stopping }
  else (d.endOp .stopped none).restRule

/-- STOP (R20, R26). -/
def Device.stop (f : Frame) (d : Device) : Device × Option Answer :=
  d.motionCommand f 0 d.stopVerdict none (Device.beginStop f.tag)

/-! ## Scan settings (R35 to R38) -/

/-- The settings a SET_SCAN payload carries, clamped (R35). -/
def scanSettingsOf (p : List Byte) : ScanSettings :=
  { low := field p 1 4, high := field p 5 4, speed := clampTo 50 1000 (field p 9 2), pitch := field p 11 2, p0 := field p 13 4,
    width := field p 17 2, count := field p 19 2, minSamples := clampTo 1 32 (field p 21 1), weight := clampTo 1 256 (field p 22 2),
    source := field p 24 1, base := field p 25 1, autoReload := decide (field p 26 1 % 2 = 1),
    autoResume := decide (field p 26 1 / 2 % 2 = 1), batch := clampTo 1 32 (field p 27 1),
    pointPeriod := clampTo 10 1000 (field p 28 2) }

/-- Some field of SET_SCAN had to be clamped (R35). -/
def scanClamped (p : List Byte) : Bool :=
  let s := scanSettingsOf p
  decide (s.speed ≠ field p 9 2 ∨ s.minSamples ≠ field p 21 1 ∨ s.weight ≠ field p 22 2 ∨ s.batch ≠ field p 27 1 ∨
    s.pointPeriod ≠ field p 28 2)

/-- A structural field of SET_SCAN is out of range (02 section 2.7, R35), the apply mode among them (DEDUCED, log 20). -/
def scanRefused (p : List Byte) (f : FrameRecord) : Bool :=
  let s := scanSettingsOf p
  decide (1 < field p 0 1 ∨ 262143 < s.high ∨ s.high ≤ s.low ∨ s.pitch < 40 ∨ 4000 < s.pitch ∨ s.width < 40 ∨ 4000 < s.width) ||
  decide (s.count < 1 ∨ 600 < s.count ∨ 2 < s.source ∨ s.base < 1 ∨ 3 < field p 26 1) ||
  decide (s.p0 < f.softLow ∨ f.softHigh < s.p0 + s.count * s.width - 1)

/-- The traverse states in which scan settings are applied at once (R36). -/
def TravState.settled : TravState → Bool
  | .unhomed | .parked | .halted => true
  | .homing | .standardizing | .approach | .scan | .turn | .point | .parking => false

/-- A pending record is displaced: its DONE carries REPLACED (R36, R37). -/
def Device.displacePending (d : Device) : Device :=
  match d.trv.pending with
  | none => d
  | some (tag, _) => (d.setTrv { d.trv with pending := none }).offerDone .setScan tag .replaced false none

/-- A record that passed is applied at once or stored (R36, R37). -/
def Device.takeSettings (d : Device) (tag : Byte) (s : ScanSettings) : Device :=
  let d := d.displacePending
  if d.trv.state.settled then d.applySettings s else d.setTrv { d.trv with pending := some (tag, s) }

/-- SET_SCAN (R35 to R37). -/
def Device.setScan (f : Frame) (d : Device) : Device × Option Answer :=
  let p := f.payload
  if p.length ≠ 30 then (d, some (.only .badLength))
  else if field p 0 1 = 0 ∧ d.trv.state.settled = false then (d, some (.only .busy))
  else match d.trv.frame with
    | none => (d, some (.only .unconfigured))
    | some fr =>
      let s := scanSettingsOf p
      let r := effectiveRange fr s
      if scanRefused p fr || !(r.usable s.pitch) then (d, some (.only .badValue))
      else (d.takeSettings f.tag s,
        some (.flagged (scanClamped p || decide (r.low ≠ s.low ∨ r.high ≠ s.high)) d.trv.pending.isSome))

/-- The 30 bytes of SET_SCAN with an apply mode (R38): 0 reported of the active record, AT_TURN of a pending one (R37). -/
def ScanSettings.bytes (s : ScanSettings) (mode : Byte) : List Byte :=
  [mode] ++ beBytes 4 s.low ++ beBytes 4 s.high ++ beBytes 2 s.speed ++ beBytes 2 s.pitch ++ beBytes 4 s.p0 ++ beBytes 2 s.width ++
  beBytes 2 s.count ++ beBytes 1 s.minSamples ++ beBytes 2 s.weight ++ beBytes 1 s.source ++ beBytes 1 s.base ++
  [BitVec.ofNat 8 (presenceBits [s.autoReload, s.autoResume])] ++ beBytes 1 s.batch ++ beBytes 2 s.pointPeriod

/-- The resume-pending record: 0 absent, 1 SCAN, 2 POINT, and the position (R38; codes DESIGN CHOICE, log 9). -/
def resumeBytes : Option Resume → List Byte
  | none => 0 :: opt32 none
  | some .scan => 1 :: opt32 none
  | some (.point p) => 2 :: opt32 (some p)

/-- The effective range and turn distance, absent while no record is active (R38). -/
def rangeBytes (active : Option ScanSettings) (r : Option EffRange) : List Byte :=
  match active, r with
  | some _, some r => positionBytes r.low ++ positionBytes r.high ++ beBytes 4 r.turn
  | _, _ => opt32 none ++ opt32 none ++ opt32 none

/-- GET_SCAN (R38), whatever its payload (DESIGN CHOICE, log 31). -/
def Device.getScan (_f : Frame) (d : Device) : Device × Option Answer :=
  let t := d.trv
  (d, some (.ok (
    [presence t.active] ++ (match t.active with | none => [] | some s => s.bytes 0) ++ rangeBytes t.active t.range ++
    [presence t.pending] ++ (match t.pending with | none => [] | some e => e.1 :: e.2.bytes 1) ++
    [BitVec.ofNat 8 d.planBase, BitVec.ofNat 8 t.planCount] ++ resumeBytes t.resume ++
    (match t.op with | none => [255, 255] | some o => [o.kind.code, o.tag]))))

end Sys2Proof.Machine
end

