-- ==== Sys2Proof/Machine/Link.lean ====
section
/-! DEFINITION. The Link Controller's quality counter, status commands, resets and start-up (10 sections 10.4, 10.10, 10.11). -/

namespace Sys2Proof.Machine

/-! ## Link quality and link state (R179 to R181) -/

/-- The errors of the receiver (R179). -/
inductive RxError where
  | framing | gap | length | crc | overrun
  deriving DecidableEq, Repr

/-- One more error of a kind, staying at 65,535 (R193). -/
def LinkCounts.bump (c : LinkCounts) : RxError → LinkCounts
  | .framing => { c with framing := sat16 (c.framing + 1) }
  | .gap => { c with gap := sat16 (c.gap + 1) }
  | .length => { c with length := sat16 (c.length + 1) }
  | .crc => { c with crc := sat16 (c.crc + 1) }
  | .overrun => { c with overrun := sat16 (c.overrun + 1) }

/-- The link state that follows the counter (R180). -/
def LinkState.follow (l : LinkState) (q : Nat) : LinkState :=
  match l with
  | .good => if 96 ≤ q then .degraded else .good
  | .degraded => if 192 ≤ q then .lost else if q < 96 then .good else .degraded
  | .lost => if q < 96 then .good else .lost

/-- The link state follows the counter, and a change is acted on in the same event (R180, R181). -/
def Device.followLink (d : Device) : Device :=
  let l := d.lnk.link.follow d.lnk.quality
  if l = d.lnk.link then d
  else
    let d := (d.setLnk { d.lnk with link := l }).setChanged true
    match l with
    | .good => d.fallIfActive srcLinkDegraded
    | .degraded => (d.rise srcLinkDegraded d.lnk.quality).discardTraffic
    | .lost => (d.rise srcLinkDegraded d.lnk.quality).discardTraffic.parkOnLinkLoss

/-- An error of the receiver (R179). -/
def Device.linkError (d : Device) (e : RxError) : Device :=
  (d.setLnk { d.lnk with counts := d.lnk.counts.bump e, quality := min 255 (d.lnk.quality + 8) }).followLink

/-- A good frame was appended to the command queue (R179). -/
def Device.linkGood (d : Device) : Device :=
  (d.setLnk { d.lnk with counts := { d.lnk.counts with good := wrap32 (d.lnk.counts.good + 1) },
                         quality := d.lnk.quality - 1 }).followLink

/-! ## Resets and start-up (R195 to R198) -/

/-- The configuration mask of STARTED (R196). -/
def Device.configMask (d : Device) : Nat :=
  presenceBits [d.trv.frame.isSome, d.trv.active.isSome, d.std.settings.isSome,
    d.std.calRbw.isSome || d.std.calM.isSome || d.std.calD0.isSome, d.acq.ppm.isSome,
    decide (d.cnv.bw.knots ≠ []), decide (d.cnv.water.knots ≠ []), decide (d.cnv.cal.knots ≠ []),
    d.brk.settings.isSome, allEight.any (fun n => (d.station n).definition.isSome),
    allEight.any (fun n => (d.window n).definition.isSome)]

/-- The STARTED notice (R196). -/
def Device.started (d : Device) (cause : Nat) (tag : Byte) : Frame :=
  ⟨startedKind, tag,
   [BitVec.ofNat 8 cause, boolByte d.lnk.baud] ++ beBytes 2 d.configMask ++ [BitVec.ofNat 8 d.brk.history.length] ++
     beBytes 4 d.brk.breakNumber⟩

/-- Every block at the reset values of power-on and the RESET pin; the wires, the clock and the given LNK stay (R195). -/
def Device.blank (d : Device) (l : Lnk) : Device :=
  { d with stateChanged := false, trv := .reset, acq := .reset, std := .reset, cnv := .reset, prf := .reset,
           win := Vector.replicate 8 Window.reset, brk := .reset, alm := .reset, lnk := l }

/-- What every reset ends with (R195, R196): the time base starts, STARTED is placed, and the conditions that the wires make
active at once are raised (R16, R18). -/
def Device.startUp (d : Device) (cause : Nat) (tag : Byte) : Device :=
  let d := d.setTimeBase d.clk
  let d := d.setLnk { d.lnk with eventQ := [d.started cause tag] }
  let d := if d.pins.limitTs ∨ d.pins.limitDs then d.riseOvertravel else d
  d.superviseShutter

/-- Power-on and the release of the RESET pin (R195, R198); the causes are 0 POWER and 1 PIN. -/
def Device.coldStart (d : Device) (cause : Nat) (strap : Bool) : Device :=
  ((d.blank (.reset strap)).setPins { d.pins with reset := false }).startUp cause 0

/-- The part held in reset (R195, log 19): TXD idle, RDY deasserted. -/
def Device.held (d : Device) : Device :=
  (d.blank { Lnk.reset d.lnk.baud with rdy := false }).setPins { d.pins with reset := true }

/-- A table's statistics cleared (R91). -/
def LinTable.restarted (t : LinTable) : LinTable := { t with converted := 0, underCount := 0, overCount := 0 }

/-- Every block at its RESTART values (R197): configuration and break history kept, everything dynamic reset. The effective
range stays with the settings it belongs to (log 30). -/
def Device.restartBlocks (d : Device) : Device :=
  let d := d.restartBreaks
  { d with
    stateChanged := false,
    trv := { Trv.reset with frame := d.trv.frame, active := d.trv.active, range := d.trv.range },
    acq := { Acq.reset with ppm := d.acq.ppm },
    std := { Std.reset with settings := d.std.settings, calRbw := d.std.calRbw, calM := d.std.calM, calD0 := d.std.calD0 },
    cnv := ⟨d.cnv.bw.restarted, d.cnv.water.restarted, d.cnv.cal.restarted⟩,
    prf := .reset,
    win := d.win.map (fun w => { Window.reset with definition := w.definition }),
    alm := .reset,
    lnk := { Lnk.reset d.lnk.baud with rx := d.lnk.rx, tx := d.lnk.tx } }

/-- RESTART (R197): accepted without a reply. -/
def Device.restart (f : Frame) (d : Device) : Device × Option Answer :=
  if f.payload ≠ [] then (d, some (.only .badLength)) else (d.restartBlocks.startUp 2 f.tag, none)

/-! ## Status (R192, R193) -/

/-- GET_STATUS (R192). -/
def Device.getStatus (f : Frame) (d : Device) : Device × Option Answer :=
  if f.payload ≠ [] then (d, some (.only .badLength))
  else (d, some (.ok (
    [d.trv.state.code, boolByte d.trv.homed] ++ opt32 (if d.trv.homed then some d.trv.counter else none) ++
    [d.brk.sheet.code, d.lnk.link.code, BitVec.ofNat 8 d.lnk.quality] ++ beBytes 2 d.acq.speed ++
    beBytes 4 d.prf.scanNumber ++ [BitVec.ofNat 8 d.planBase, BitVec.ofNat 8 d.trv.planCount, presence d.std.ref,
      BitVec.ofNat 8 (d.alm.countIn .requested), BitVec.ofNat 8 (d.alm.countIn .inService),
      BitVec.ofNat 8 d.lnk.cmdQ.length])))

/-- GET_LINK (R193). -/
def Device.getLink (f : Frame) (d : Device) : Device × Option Answer :=
  if f.payload ≠ [] then (d, some (.only .badLength))
  else
    let l := d.lnk
    let c := l.counts
    (d, some (.ok (
      [boolByte l.baud, l.link.code, BitVec.ofNat 8 l.quality] ++ beBytes 2 c.framing ++ beBytes 2 c.gap ++
      beBytes 2 c.length ++ beBytes 2 c.crc ++ beBytes 2 c.overrun ++ beBytes 2 c.breaks ++ beBytes 4 c.good ++
      beBytes 2 c.lostDone ++
      [BitVec.ofNat 8 l.cmdQ.length, BitVec.ofNat 8 l.replyQ.length, BitVec.ofNat 8 l.alarmQ.length,
       BitVec.ofNat 8 l.eventQ.length, BitVec.ofNat 8 (l.overflow.filter (fun g => g.kind = doneKind)).length,
       BitVec.ofNat 8 (l.overflow.filter (fun g => g.kind = stateKind)).length, boolByte l.rdy, boolByte d.pins.hrdy,
       boolByte (!l.startedHold)])))

end Sys2Proof.Machine
end

