-- ==== Sys2Proof/Machine/Dispatching.lean ====
section
/-! DEFINITION. The command queue and its dispatch (R178, R182, R183), the transmit arbiter (R189, R190), the receiver
(R174 to R177), and the frame of an event. -/

namespace Sys2Proof.Machine

/-! ## Dispatch (R182, R183) -/

/-- A command's owner: what it does with a frame, and its answer (none for an accepted RESTART). -/
abbrev Handler := Frame → Device → Device × Option Answer

/-- A frame whose kind names no command (R183): the payload is not examined, the received kind is answered. -/
def Device.unknownKind (f : Frame) (d : Device) : Device × Option Answer :=
  (d, some ⟨.badKind, false, false, [f.kind]⟩)

/-- The owners of the command kinds (10 section 10.9). -/
def handlerIndex : List (Byte × Handler) :=
  [(0x01, Device.getStatus), (0x02, Device.getLink), (0x03, Device.restart), (0x10, Device.setFrame),
   (0x11, Device.getFrame), (0x18, Device.home), (0x19, Device.park), (0x1A, Device.scan), (0x1B, Device.point),
   (0x1C, Device.standardize), (0x1D, Device.stop), (0x1E, Device.setScan), (0x1F, Device.getScan),
   (0x20, Device.setTach), (0x21, Device.getChannels), (0x28, Device.setStdSettings), (0x29, Device.setCalref),
   (0x2A, Device.getStd), (0x30, Device.setTable), (0x31, Device.getTable), (0x32, Device.convert),
   (0x38, Device.getProfile), (0x39, Device.getPoint), (0x40, Device.setWindow), (0x41, Device.getWindow),
   (0x48, Device.setStation), (0x49, Device.setBreak), (0x4A, Device.getStations), (0x4B, Device.getBreaks),
   (0x50, Device.ack), (0x51, Device.setAlarmMode), (0x52, Device.getAlarms)]

/-- The owner of a kind (R183). -/
def handlerOf (kind : Byte) : Handler := ((handlerIndex.find? (fun e => e.1 = kind)).map Prod.snd).getD Device.unknownKind

/-- A command is carried out: its owner acts, the reply is placed, and a changed state is reported (R182, R184, R188). -/
def Device.carryOut (d : Device) (h : Handler) (f : Frame) : Device :=
  let r := h f d
  (match r.2 with
   | none => r.1
   | some a => r.1.pushReply (a.frame f)).settle

/-- The command queue without its head; RDY is asserted where that empties it (R178). -/
def Lnk.dropHead (l : Lnk) : Lnk := { l with cmdQ := l.cmdQ.tail, rdy := l.rdy || l.cmdQ.tail.isEmpty }

/-- A frame at the tail of the command queue; RDY is deasserted at six (R177, R178). -/
def Lnk.append (l : Lnk) (f : Frame) : Lnk :=
  { l with cmdQ := l.cmdQ ++ [f], rdy := l.rdy && decide (l.cmdQ.length + 1 < 6) }

/-- The head of the command queue is dispatched (R182). -/
def Device.dispatchOne (d : Device) : Device :=
  match d.lnk.cmdQ with
  | [] => d
  | f :: _ => (d.setLnk d.lnk.dropHead).carryOut (handlerOf f.kind) f

/-- Dispatches in turn while the reply queue has a free place (R182). -/
def Device.dispatchLoop : Nat → Device → Device
  | 0, d => d
  | k + 1, d => if d.lnk.cmdQ ≠ [] ∧ d.lnk.replyQ.length < 8 then dispatchLoop k d.dispatchOne else d

/-- Dispatch is started (R182). -/
def Device.dispatchAll (d : Device) : Device := d.dispatchLoop d.lnk.cmdQ.length

/-! ## The transmit arbiter (R189, R190) -/

/-- A frame begins on TXD. -/
def Device.begin (d : Device) (f : Frame) : Device := d.setLnk { d.lnk with tx := some f }

/-- A field of a payload replaced (R107, R112). -/
def patch (p : List Byte) (offset : Nat) (v : List Byte) : List Byte := p.take offset ++ v ++ p.drop (offset + v.length)

/-- A reply is begun: a place frees, and dispatch may continue (R190, R182). -/
def Device.beginReply (d : Device) (f : Frame) : Device :=
  ((d.setLnk { d.lnk with replyQ := d.lnk.replyQ.tail }).begin f).dispatchAll

/-- An ALARM notice is begun: the Alarm Controller examines its requests (R190, R160). -/
def Device.beginAlarm (d : Device) (f : Frame) : Device :=
  ((d.setLnk { d.lnk with alarmQ := d.lnk.alarmQ.tail }).begin f).examine

/-- A notice leaves the head of the event-notice queue for the line (R190). -/
def Device.takeNotice (d : Device) (f : Frame) : Device := (d.setLnk { d.lnk with eventQ := d.lnk.eventQ.tail }).begin f

/-- A notice of the event-notice queue is begun (R190): a STATE notice with the states as they stand at the beginning and the time of
the latest change (R188; DEDUCED, log 5). -/
def Device.beginNotice (d : Device) (f : Frame) : Device :=
  d.takeNotice (if f.kind = stateKind then { f with payload := patch f.payload 0 d.stateBytes } else f)

/-- STARTED is begun: the STARTED-first hold and the delivery hold are released, and an examination runs (R190, R171). -/
def Device.beginStarted (d : Device) (f : Frame) : Device :=
  let d := d.takeNotice f
  let d := d.setLnk { d.lnk with startedHold := false }
  (d.setAlm { d.alm with hold := false }).examine

/-- The next frame of the report is begun; the header takes the skip count and returns it to 0 (R190, R107). -/
def Device.beginReport (d : Device) (f : Frame) : Device :=
  let p := d.prf
  let next : Report := { p.report with next := p.report.next + 1 }
  if f.kind = profileKind then
    (d.setPrf { p with report := next, skip := 0 }).begin { f with payload := patch f.payload 42 (beBytes 2 p.skip) }
  else (d.setPrf { p with report := next }).begin f

/-- The POINT_DATA notice is begun; it takes the skipped-batch count and returns it to 0 (R190, R112). -/
def Device.beginBatch (d : Device) (f : Frame) : Device :=
  (d.setPrf { d.prf with batch := none, skippedBatches := 0 }).begin
    { f with payload := patch f.payload 10 (beBytes 2 d.prf.skippedBatches) }

/-- The arbiter's choice while HRDY is asserted, the line free and STARTED begun: replies, alarms, notices, and in GOOD the
report and the batch (R189). -/
def Device.beginNext (d : Device) : Device :=
  match d.lnk.replyQ, d.lnk.alarmQ, d.lnk.eventQ with
  | f :: _, _, _ => d.beginReply f
  | [], f :: _, _ => d.beginAlarm f
  | [], [], f :: _ => d.beginNotice f
  | [], [], [] =>
    if d.lnk.link = .good then
      match d.prf.report.unbegun, d.prf.batch with
      | f :: _, _ => d.beginReport f
      | [], some f => d.beginBatch f
      | [], none => d
    else d

/-- The line is free and the host can take a frame (R189, R191). -/
def Device.lineReady (d : Device) : Bool := d.lnk.tx.isNone && d.pins.hrdy

/-- The arbiter acts (R189); once, at the end of an event (log 8). -/
def Device.arbitrate (d : Device) : Device :=
  if d.lineReady then
    if d.lnk.startedHold then
      match d.lnk.eventQ with
      | f :: _ => if f.kind = startedKind then d.beginStarted f else d
      | [] => d
    else d.beginNext
  else d

/-! ## Events -/

/-- What an event does while the part is not held in reset (R195). -/
def Device.live (d : Device) (act : Device → Device) : Device := if d.pins.reset then d else act d

/-- An event that may change a reported state or place a frame: it settles and the arbiter acts (R188, R189). -/
def Device.event (d : Device) (act : Device → Device) : Device := d.live (fun d => (act d).settle.arbitrate)

/-- An expiry: nothing unless its timer runs; the clock is brought to the deadline (log 2). -/
def Device.expiry (d : Device) (t : Timer) (act : Device → Device) : Device :=
  match t with
  | none => d
  | some x => act (d.reach x)

/-- A change of an input's level; a row that reports no change does nothing (log 11). -/
def Device.edge (d : Device) (old new : Bool) (act : Device → Device) : Device := if old = new then d else act d

/-! ## Commands that arrive (R177, R182, log 4) -/

/-- A host command reaches its dispatch: at once where nothing waits ahead of it, else from the command queue. -/
def Device.hostCommand (d : Device) (h : Handler) (f : Frame) : Device :=
  d.event (fun d =>
    if d.lnk.cmdQ = [] ∧ d.lnk.replyQ.length < 8 then d.carryOut h f
    else if d.lnk.cmdQ.length < 8 then (d.setLnk (d.lnk.append f)).dispatchAll
    else d.linkError .overrun)

/-! ## The receiver (R174 to R177) -/

/-- What a character leads to. -/
inductive RxEvent where
  | nothing
  | failed (e : RxError)
  | complete (f : Frame)
  deriving DecidableEq, Repr

/-- The received bytes that the check covers (R177). -/
def Rx.body (r : Rx) : List Byte := r.length :: r.kind :: r.tag :: r.payload

/-- The frame that a receiver has assembled. -/
def Rx.frame (r : Rx) : Frame := ⟨r.kind, r.tag, r.payload⟩

/-- A character with a valid stop bit (R174, R177); the gap timer's next expiry is given. -/
def Rx.take (r : Rx) (gap : Timer) (b : Byte) : Rx × RxEvent :=
  match r.state with
  | .hunt => if b = 0xA5 then ({ Rx.reset with state := .length, gap := gap }, .nothing) else (r, .nothing)
  | .length =>
    if 250 < b.toNat then (.reset, .failed .length) else ({ r with state := .kind, length := b, gap := gap }, .nothing)
  | .kind => ({ r with state := .tag, kind := b, gap := gap }, .nothing)
  | .tag => ({ r with state := if r.length = 0 then .checkHigh else .payload, tag := b, payload := [], gap := gap }, .nothing)
  | .payload =>
    let p := r.payload ++ [b]
    ({ r with state := if r.length.toNat ≤ p.length then .checkHigh else .payload, payload := p, gap := gap }, .nothing)
  | .checkHigh => ({ r with state := .checkLow, checkHigh := b, gap := gap }, .nothing)
  | .checkLow => (.reset, if r.checkHigh ++ b = crc r.body then .complete r.frame else .failed .crc)
  | .lineLow => (r, .nothing)

/-- A character whose stop bit is low (R176): an error inside a frame only. -/
def Rx.takeBroken (r : Rx) : Rx × RxEvent :=
  match r.state with
  | .hunt | .lineLow => (r, .nothing)
  | .length | .kind | .tag | .payload | .checkHigh | .checkLow => (.reset, .failed .framing)

/-- A good frame (R177): appended, counted and dispatched, or dropped with OVERRUN. -/
def Device.receiveGood (d : Device) (f : Frame) : Device :=
  if d.lnk.cmdQ.length < 8 then ((d.setLnk (d.lnk.append f)).linkGood).dispatchAll else d.linkError .overrun

/-- What the receiver's event does to the part. -/
def Device.received (d : Device) : RxEvent → Device
  | .nothing => d
  | .failed e => d.linkError e
  | .complete f => d.receiveGood f

/-- A character on RXD (R174, R176). -/
def Device.rxByte (d : Device) (b : Byte) (stop : Bool) : Device :=
  let r := if stop then d.lnk.rx.take (d.after 2) b else d.lnk.rx.takeBroken
  (d.setLnk { d.lnk with rx := r.1 }).received r.2

/-- RXD has been low for 20 bit times (R176). -/
def Device.lineBreak (d : Device) : Device :=
  if d.lnk.rx.state = .lineLow then d
  else d.setLnk { d.lnk with rx := { Rx.reset with state := .lineLow },
                             counts := { d.lnk.counts with breaks := sat16 (d.lnk.counts.breaks + 1) } }

/-- RXD goes high after a line break (R176). -/
def Device.lineBreakEnd (d : Device) : Device :=
  if d.lnk.rx.state = .lineLow then d.setLnk { d.lnk with rx := .reset } else d

/-- The head of the overflow list takes a free place of the event-notice queue (R187). -/
def Device.placeOverflow (d : Device) : Device :=
  match d.lnk.overflow with
  | [] => d
  | f :: rest => if d.lnk.eventRoom then d.setLnk { d.lnk with eventQ := d.lnk.eventQ ++ [f], overflow := rest } else d

end Sys2Proof.Machine
end

