-- ==== Sys2Proof/Machine/FrameEvents.lean ====
section
/-! DEFINITION. The meanings of the events at the frame: encoder, switches, drive, shutter (01), and the automatic resume (02). -/

namespace Sys2Proof.Machine

/-- An event comes after `dt` microseconds. -/
def State.after (s : State) (dt : Nat) (act : Device → Device) : Host.Outcome State Fault Refusal :=
  .next (s.onDevice (fun d => act (d.advance dt)))

/-- A sampling of A and B with one line changed (R4); the levels decide (log 12). -/
def execLegalStep (dt : Nat) (a b : Bool) (s : State) : Host.Outcome State Fault Refusal :=
  s.after dt (fun d => d.event (fun d => d.sampleEncoder a b))

/-- A sampling of A and B with both lines changed (R5); the levels decide (log 12). -/
def execIllegalTransition (dt : Nat) (a b : Bool) (s : State) : Host.Outcome State Fault Refusal :=
  s.after dt (fun d => d.event (fun d => d.sampleEncoder a b))

/-- The HOME switch closes (R8, R9). -/
def execHomeSwitchClose (dt : Nat) (s : State) : Host.Outcome State Fault Refusal :=
  s.after dt (fun d => d.edge d.pins.home true (fun d => (d.setPins { d.pins with home := true }).event Device.homeClosure))

/-- The HOME switch opens (R7). -/
def execHomeSwitchOpen (dt : Nat) (s : State) : Host.Outcome State Fault Refusal :=
  s.after dt (fun d => d.edge d.pins.home false (fun d => (d.setPins { d.pins with home := false }).live Device.endBackOff))

/-- A limit switch's new level. -/
def Device.setLimit (d : Device) (side : Side) (v : Bool) : Device :=
  match side with
  | .ts => d.setPins { d.pins with limitTs := v }
  | .ds => d.setPins { d.pins with limitDs := v }

/-- What a closure of a limit switch does (R16, R7). -/
def Device.limitClosed (d : Device) (side : Side) : Device :=
  if side = .ts ∧ d.trv.motion = .backOff then d.riseOvertravel else d.riseOvertravel.haltAtOnce

/-- What an opening of a limit switch does (R16, R7). -/
def Device.limitOpened (d : Device) : Device :=
  (if d.pins.limitTs || d.pins.limitDs then d else d.fallIfActive srcOvertravel).endBackOff

/-- A limit switch closes (R16). -/
def execLimitSwitchClose (dt : Nat) (side : Side) (s : State) : Host.Outcome State Fault Refusal :=
  s.after dt (fun d => d.edge (d.pins.limit side) true (fun d => (d.setLimit side true).event (fun d => d.limitClosed side)))

/-- A limit switch opens (R16, R7). -/
def execLimitSwitchOpen (dt : Nat) (side : Side) (s : State) : Host.Outcome State Fault Refusal :=
  s.after dt (fun d => d.edge (d.pins.limit side) false (fun d => (d.setLimit side false).live Device.limitOpened))

/-- READY falls (R13): a drive fault while ENABLE is asserted. -/
def execReadyFall (dt : Nat) (s : State) : Host.Outcome State Fault Refusal :=
  s.after dt (fun d => d.edge d.pins.ready false (fun d =>
    (d.setPins { d.pins with ready := false }).event (fun d => if d.trv.enable then d.driveFault 1 else d)))

/-- READY rises (R13): the level alone changes. -/
def execReadyRise (dt : Nat) (s : State) : Host.Outcome State Fault Refusal :=
  s.after dt (fun d => d.setPins { d.pins with ready := true })

/-- A stall interval ends (R14). -/
def Device.stallEnd (d : Device) (noted : Nat) : Device :=
  if circleDist noted d.trv.counter < 40 then d.driveFault 3
  else d.setTrv { d.trv with stall := some ⟨d.trv.counter, d.clk + 500000⟩ }

/-- The stall interval expires (R14). -/
def execStallIntervalExpiry (dt : Nat) (s : State) : Host.Outcome State Fault Refusal :=
  s.after dt (fun d => match d.trv.stall with
    | none => d
    | some i => d.expiry (some i.expiry) (fun d => d.event (fun d => d.stallEnd i.noted)))

/-- The rest timer expires (R15). -/
def execRestTimerExpiry (dt : Nat) (s : State) : Host.Outcome State Fault Refusal :=
  s.after dt (fun d => d.expiry d.trv.restTimer (fun d =>
    d.event (fun d => (d.setTrv { d.trv with restTimer := none }).restRule)))

/-- A speed reference period starts (R12): the ramp step (R11), the new times, and what the ramp leads to. -/
def execSpeedRefPeriodStart (dt : Nat) (s : State) : Host.Outcome State Fault Refusal :=
  s.after dt (fun d => d.expiry d.trv.periodDue (fun d => d.event (fun d => d.rampStep.startPeriod.afterRamp)))

/-- The high time of the speed reference ends (R12). -/
def execSpeedRefHighTimeEnd (dt : Nat) (s : State) : Host.Outcome State Fault Refusal :=
  s.after dt (fun d => d.expiry d.trv.highDue (fun d => d.setTrv { d.trv with speedRef := false, highDue := none }))

/-- The CLOSED feedback changes (R18). -/
def execShutterFeedbackChange (dt : Nat) (closed : Bool) (s : State) : Host.Outcome State Fault Refusal :=
  s.after dt (fun d => d.edge d.pins.closed closed (fun d =>
    (d.setPins { d.pins with closed := closed }).live Device.superviseShutter))

/-- The mismatch timer has expired (R18, R71): SHUTTER rises, and a collection fails. -/
def Device.shutterMismatch (d : Device) : Device :=
  let d := (d.setTrv { d.trv with mismatch := none }).rise srcShutter (if d.trv.openCmd then 1 else 0)
  Device.reportStd d.shutterFailsStd

/-- The mismatch timer expires (R18). -/
def execShutterMismatchExpiry (dt : Nat) (s : State) : Host.Outcome State Fault Refusal :=
  s.after dt (fun d => d.expiry d.trv.mismatch (fun d => d.event Device.shutterMismatch))

/-- The automatic resume is examined (R41). -/
def execAutomaticResume (dt : Nat) (s : State) : Host.Outcome State Fault Refusal :=
  s.after dt (fun d => d.event Device.tryResume)

end Sys2Proof.Machine
end

