-- ==== Sys2Proof/Machine/BreakEvents.lean ====
section
/-! DEFINITION. The meanings of the events at the break stations and of the Break Detector's timers (08). -/

namespace Sys2Proof.Machine

/-- A station's input comes to show presence (R128, R132, R134, R135); held in reset only the wire moves. -/
def execStationPresenceSeen (dt : Nat) (station : Fin 8) (s : State) : Host.Outcome State Fault Refusal :=
  s.after dt (fun d => if d.pins.reset then d.moveStationInput station true
    else d.event (fun d => d.stationInput station true))

/-- A station's input comes to show absence (R128, R132, R133); held in reset only the wire moves. -/
def execStationPresenceLost (dt : Nat) (station : Fin 8) (s : State) : Host.Outcome State Fault Refusal :=
  s.after dt (fun d => if d.pins.reset then d.moveStationInput station false
    else d.event (fun d => d.stationInput station false))

/-- A qualify timer expires (R134). -/
def execQualifyExpiry (dt : Nat) (station : Fin 8) (s : State) : Host.Outcome State Fault Refusal :=
  s.after dt (fun d => d.expiry (d.station station).qualifyTimer (fun d => d.event (fun d => d.qualifyLoss station)))

/-- A restore timer expires (R132). -/
def execRestoreExpiry (dt : Nat) (station : Fin 8) (s : State) : Host.Outcome State Fault Refusal :=
  s.after dt (fun d => d.expiry (d.station station).restoreTimer (fun d => d.event (fun d => d.stationRestored station)))

/-- The cascade timer expires (R142). -/
def execCascadeExpiry (dt : Nat) (s : State) : Host.Outcome State Fault Refusal :=
  s.after dt (fun d => d.expiry d.brk.cascade (fun d => d.event Device.closeCascade))

/-- A freed place takes the BREAK notice of the oldest due record (R144). -/
def execBreakNoticePlaced (dt : Nat) (s : State) : Host.Outcome State Fault Refusal :=
  s.after dt (fun d => d.event (fun d => d.placeBreaks 1))

end Sys2Proof.Machine
end

