-- ==== Sys2Proof/Machine/HeadEvents.lean ====
section
/-! DEFINITION. The meanings of the events at the head's channels, the sample timer and the tachometer (03). -/

namespace Sys2Proof.Machine

/-- A rising edge of BW, MW or MR (R44). -/
def execChannelPulseEdge (dt : Nat) (channel : PulseChannel) (s : State) : Host.Outcome State Fault Refusal :=
  s.after dt (fun d => d.live (fun d => d.onSample (fun o => o.pulse channel)))

/-- CAL rises (R45). -/
def execCalRisingEdge (dt : Nat) (s : State) : Host.Outcome State Fault Refusal :=
  s.after dt (fun d => d.edge d.pins.cal true (fun d => (d.setPins { d.pins with cal := true }).live Device.calRise))

/-- CAL falls (R45). -/
def execCalFallingEdge (dt : Nat) (s : State) : Host.Outcome State Fault Refusal :=
  s.after dt (fun d => d.edge d.pins.cal false (fun d => (d.setPins { d.pins with cal := false }).live Device.calFall))

/-- A CAL period has run for 100,000 µs (R45). -/
def execCalPeriodTimeout (dt : Nat) (s : State) : Host.Outcome State Fault Refusal :=
  s.after dt (fun d => d.expiry d.acq.calTimeout Device.calAbandon)

/-- SP changes (R46). -/
def execSheetPresentChange (dt : Nat) (sheet : Bool) (s : State) : Host.Outcome State Fault Refusal :=
  s.after dt (fun d => d.edge d.pins.sp sheet (fun d => d.sheetChange sheet))

/-- The sample timer has expired (R51). -/
def Device.sampleExpired (d : Device) : Device :=
  match d.acq.sample with
  | none => d
  | some o => d.closeTimedSample o

/-- The sample timer expires (R51). -/
def execSampleTimerExpiry (dt : Nat) (s : State) : Host.Outcome State Fault Refusal :=
  s.after dt (fun d => d.expiry d.acq.sampleTimer (fun d => d.event Device.sampleExpired))

/-- A rising edge of TACH (R54). -/
def execTachRisingEdge (dt : Nat) (s : State) : Host.Outcome State Fault Refusal :=
  s.after dt (fun d => d.live Device.tachEdge)

/-- The tach timeout expires (R55). -/
def execTachTimeout (dt : Nat) (s : State) : Host.Outcome State Fault Refusal :=
  s.after dt (fun d => d.expiry d.acq.tachTimeout Device.tachStop)

end Sys2Proof.Machine
end

