-- ==== Sys2Proof/Machine/HostCommands.lean ====
section
/-! DEFINITION. The meanings of the host commands: each row is the dispatch of a frame of its kind, by the owner that 10
section 10.9 names (R182, R183, log 4). -/

namespace Sys2Proof.Machine

/-- A host command of a kind comes after `dt` microseconds and is carried out by its owner. -/
def State.command (s : State) (dt : Nat) (h : Handler) (kind tag : Byte) (payload : List Byte) :
    Host.Outcome State Fault Refusal :=
  .next (s.onDevice (fun d => (d.advance dt).hostCommand h ⟨kind, tag, payload⟩))

/-- GET_STATUS (R192). -/
def execGetStatus (dt : Nat) (tag : Byte) (payload : List Byte) (s : State) : Host.Outcome State Fault Refusal :=
  s.command dt Device.getStatus 0x01 tag payload

/-- GET_LINK (R193). -/
def execGetLink (dt : Nat) (tag : Byte) (payload : List Byte) (s : State) : Host.Outcome State Fault Refusal :=
  s.command dt Device.getLink 0x02 tag payload

/-- RESTART (R197). -/
def execRestart (dt : Nat) (tag : Byte) (payload : List Byte) (s : State) : Host.Outcome State Fault Refusal :=
  s.command dt Device.restart 0x03 tag payload

/-- SET_FRAME (R1, R2). -/
def execSetFrame (dt : Nat) (tag : Byte) (payload : List Byte) (s : State) : Host.Outcome State Fault Refusal :=
  s.command dt Device.setFrame 0x10 tag payload

/-- GET_FRAME (R3). -/
def execGetFrame (dt : Nat) (tag : Byte) (payload : List Byte) (s : State) : Host.Outcome State Fault Refusal :=
  s.command dt Device.getFrame 0x11 tag payload

/-- HOME (R20, R23). -/
def execHome (dt : Nat) (tag : Byte) (payload : List Byte) (s : State) : Host.Outcome State Fault Refusal :=
  s.command dt Device.home 0x18 tag payload

/-- PARK (R20, R24). -/
def execPark (dt : Nat) (tag : Byte) (payload : List Byte) (s : State) : Host.Outcome State Fault Refusal :=
  s.command dt Device.park 0x19 tag payload

/-- SCAN (R20, R27). -/
def execScan (dt : Nat) (tag : Byte) (payload : List Byte) (s : State) : Host.Outcome State Fault Refusal :=
  s.command dt Device.scan 0x1A tag payload

/-- POINT (R20, R33). -/
def execPoint (dt : Nat) (tag : Byte) (payload : List Byte) (s : State) : Host.Outcome State Fault Refusal :=
  s.command dt Device.point 0x1B tag payload

/-- STANDARDIZE (R20, R34). -/
def execStandardize (dt : Nat) (tag : Byte) (payload : List Byte) (s : State) : Host.Outcome State Fault Refusal :=
  s.command dt Device.standardize 0x1C tag payload

/-- STOP (R20, R26). -/
def execStop (dt : Nat) (tag : Byte) (payload : List Byte) (s : State) : Host.Outcome State Fault Refusal :=
  s.command dt Device.stop 0x1D tag payload

/-- SET_SCAN (R35 to R37). -/
def execSetScan (dt : Nat) (tag : Byte) (payload : List Byte) (s : State) : Host.Outcome State Fault Refusal :=
  s.command dt Device.setScan 0x1E tag payload

/-- GET_SCAN (R38). -/
def execGetScan (dt : Nat) (tag : Byte) (payload : List Byte) (s : State) : Host.Outcome State Fault Refusal :=
  s.command dt Device.getScan 0x1F tag payload

/-- SET_TACH (R56). -/
def execSetTach (dt : Nat) (tag : Byte) (payload : List Byte) (s : State) : Host.Outcome State Fault Refusal :=
  s.command dt Device.setTach 0x20 tag payload

/-- GET_CHANNELS (R57). -/
def execGetChannels (dt : Nat) (tag : Byte) (payload : List Byte) (s : State) : Host.Outcome State Fault Refusal :=
  s.command dt Device.getChannels 0x21 tag payload

/-- SET_STD (R60). -/
def execSetStd (dt : Nat) (tag : Byte) (payload : List Byte) (s : State) : Host.Outcome State Fault Refusal :=
  s.command dt Device.setStdSettings 0x28 tag payload

/-- SET_CALREF (R61). -/
def execSetCalref (dt : Nat) (tag : Byte) (payload : List Byte) (s : State) : Host.Outcome State Fault Refusal :=
  s.command dt Device.setCalref 0x29 tag payload

/-- GET_STD (R75). -/
def execGetStd (dt : Nat) (tag : Byte) (payload : List Byte) (s : State) : Host.Outcome State Fault Refusal :=
  s.command dt Device.getStd 0x2A tag payload

/-- SET_TABLE (R77). -/
def execSetTable (dt : Nat) (tag : Byte) (payload : List Byte) (s : State) : Host.Outcome State Fault Refusal :=
  s.command dt Device.setTable 0x30 tag payload

/-- GET_TABLE (R79). -/
def execGetTable (dt : Nat) (tag : Byte) (payload : List Byte) (s : State) : Host.Outcome State Fault Refusal :=
  s.command dt Device.getTable 0x31 tag payload

/-- CONVERT (R92). -/
def execConvert (dt : Nat) (tag : Byte) (payload : List Byte) (s : State) : Host.Outcome State Fault Refusal :=
  s.command dt Device.convert 0x32 tag payload

/-- GET_PROFILE (R109). -/
def execGetProfile (dt : Nat) (tag : Byte) (payload : List Byte) (s : State) : Host.Outcome State Fault Refusal :=
  s.command dt Device.getProfile 0x38 tag payload

/-- GET_POINT (R113). -/
def execGetPoint (dt : Nat) (tag : Byte) (payload : List Byte) (s : State) : Host.Outcome State Fault Refusal :=
  s.command dt Device.getPoint 0x39 tag payload

/-- SET_WINDOW (R115, R117). -/
def execSetWindow (dt : Nat) (tag : Byte) (payload : List Byte) (s : State) : Host.Outcome State Fault Refusal :=
  s.command dt Device.setWindow 0x40 tag payload

/-- GET_WINDOW (R126). -/
def execGetWindow (dt : Nat) (tag : Byte) (payload : List Byte) (s : State) : Host.Outcome State Fault Refusal :=
  s.command dt Device.getWindow 0x41 tag payload

/-- SET_STATION (R129, R130). -/
def execSetStation (dt : Nat) (tag : Byte) (payload : List Byte) (s : State) : Host.Outcome State Fault Refusal :=
  s.command dt Device.setStation 0x48 tag payload

/-- SET_BREAK (R131). -/
def execSetBreak (dt : Nat) (tag : Byte) (payload : List Byte) (s : State) : Host.Outcome State Fault Refusal :=
  s.command dt Device.setBreak 0x49 tag payload

/-- GET_STATIONS (R149). -/
def execGetStations (dt : Nat) (tag : Byte) (payload : List Byte) (s : State) : Host.Outcome State Fault Refusal :=
  s.command dt Device.getStations 0x4A tag payload

/-- GET_BREAKS (R148). -/
def execGetBreaks (dt : Nat) (tag : Byte) (payload : List Byte) (s : State) : Host.Outcome State Fault Refusal :=
  s.command dt Device.getBreaks 0x4B tag payload

/-- ACK (R165, R166). -/
def execAck (dt : Nat) (tag : Byte) (payload : List Byte) (s : State) : Host.Outcome State Fault Refusal :=
  s.command dt Device.ack 0x50 tag payload

/-- SET_ALARM_MODE (R168). -/
def execSetAlarmMode (dt : Nat) (tag : Byte) (payload : List Byte) (s : State) : Host.Outcome State Fault Refusal :=
  s.command dt Device.setAlarmMode 0x51 tag payload

/-- GET_ALARMS (R169). -/
def execGetAlarms (dt : Nat) (tag : Byte) (payload : List Byte) (s : State) : Host.Outcome State Fault Refusal :=
  s.command dt Device.getAlarms 0x52 tag payload

/-- A frame whose kind names no command (R183). -/
def execUnknownKindCommand (dt : Nat) (kind tag : Byte) (payload : List Byte) (s : State) :
    Host.Outcome State Fault Refusal :=
  s.command dt Device.unknownKind kind tag payload

end Sys2Proof.Machine
end

