-- ==== Sys2Proof/Machine/LinkEvents.lean ====
section
/-! DEFINITION. The meanings of the resets (10 section 10.11) and of the events at the host link (10 sections 10.2, 10.7). -/

namespace Sys2Proof.Machine

/-- Power is applied (R195); with the RESET pin asserted the part stays held (log 19). -/
def execPowerOn (dt : Nat) (strap : Bool) (s : State) : Host.Outcome State Fault Refusal :=
  s.after dt (fun d => if d.pins.reset then (d.setLnk { d.lnk with baud := strap }).held
    else (d.coldStart 0 strap).arbitrate)

/-- The RESET pin is asserted (R195). -/
def execResetPinAssert (dt : Nat) (s : State) : Host.Outcome State Fault Refusal :=
  s.after dt Device.held

/-- The RESET pin is released (R195). -/
def execResetPinRelease (dt : Nat) (strap : Bool) (s : State) : Host.Outcome State Fault Refusal :=
  s.after dt (fun d => if d.pins.reset then (d.coldStart 1 strap).arbitrate else d)

/-- A character is received (R174, R176, R177). -/
def execRxByte (dt : Nat) (byte : Byte) (stop : Bool) (s : State) : Host.Outcome State Fault Refusal :=
  s.after dt (fun d => d.event (fun d => d.rxByte byte stop))

/-- The gap timer has expired (R175). -/
def Device.gapError (d : Device) : Device := (d.setLnk { d.lnk with rx := .reset }).linkError .gap

/-- The gap timer expires (R175). -/
def execGapTimeout (dt : Nat) (s : State) : Host.Outcome State Fault Refusal :=
  s.after dt (fun d => d.expiry d.lnk.rx.gap (fun d => d.event Device.gapError))

/-- RXD has been low for 20 bit times (R176). -/
def execLineBreak (dt : Nat) (s : State) : Host.Outcome State Fault Refusal :=
  s.after dt (fun d => d.live Device.lineBreak)

/-- RXD goes high after a line break (R176). -/
def execLineBreakEnd (dt : Nat) (s : State) : Host.Outcome State Fault Refusal :=
  s.after dt (fun d => d.live Device.lineBreakEnd)

/-- HRDY rises (R191): with the line free the arbiter acts. -/
def execHrdyRise (dt : Nat) (s : State) : Host.Outcome State Fault Refusal :=
  s.after dt (fun d => d.edge d.pins.hrdy true (fun d => (d.setPins { d.pins with hrdy := true }).event id))

/-- HRDY falls (R191): a frame in progress goes on. -/
def execHrdyFall (dt : Nat) (s : State) : Host.Outcome State Fault Refusal :=
  s.after dt (fun d => d.setPins { d.pins with hrdy := false })

/-- The last byte of a frame leaves TXD (R189): the line is free and the arbiter acts. -/
def execTxFrameEnd (dt : Nat) (s : State) : Host.Outcome State Fault Refusal :=
  s.after dt (fun d => match d.lnk.tx with
    | none => d
    | some _ => (d.setLnk { d.lnk with tx := none }).event id)

/-- A freed place takes the head of the overflow list (R187). -/
def execOverflowPlacement (dt : Nat) (s : State) : Host.Outcome State Fault Refusal :=
  s.after dt (fun d => d.event Device.placeOverflow)

end Sys2Proof.Machine
end

