-- ==== Sys2Proof/Machine/Dispatch.lean ====
section
/-! DEFINITION. One arm per command and event: its meaning. -/

namespace Sys2Proof.Machine

def exec (i : Instr) (s : State) : Host.Outcome State Fault Refusal :=
  match i with
  | .getStatus dt tag payload => Sys2Proof.Machine.execGetStatus dt tag payload s
  | .getLink dt tag payload => Sys2Proof.Machine.execGetLink dt tag payload s
  | .restart dt tag payload => Sys2Proof.Machine.execRestart dt tag payload s
  | .setFrame dt tag payload => Sys2Proof.Machine.execSetFrame dt tag payload s
  | .getFrame dt tag payload => Sys2Proof.Machine.execGetFrame dt tag payload s
  | .home dt tag payload => Sys2Proof.Machine.execHome dt tag payload s
  | .park dt tag payload => Sys2Proof.Machine.execPark dt tag payload s
  | .scan dt tag payload => Sys2Proof.Machine.execScan dt tag payload s
  | .point dt tag payload => Sys2Proof.Machine.execPoint dt tag payload s
  | .standardize dt tag payload => Sys2Proof.Machine.execStandardize dt tag payload s
  | .stop dt tag payload => Sys2Proof.Machine.execStop dt tag payload s
  | .setScan dt tag payload => Sys2Proof.Machine.execSetScan dt tag payload s
  | .getScan dt tag payload => Sys2Proof.Machine.execGetScan dt tag payload s
  | .setTach dt tag payload => Sys2Proof.Machine.execSetTach dt tag payload s
  | .getChannels dt tag payload => Sys2Proof.Machine.execGetChannels dt tag payload s
  | .setStd dt tag payload => Sys2Proof.Machine.execSetStd dt tag payload s
  | .setCalref dt tag payload => Sys2Proof.Machine.execSetCalref dt tag payload s
  | .getStd dt tag payload => Sys2Proof.Machine.execGetStd dt tag payload s
  | .setTable dt tag payload => Sys2Proof.Machine.execSetTable dt tag payload s
  | .getTable dt tag payload => Sys2Proof.Machine.execGetTable dt tag payload s
  | .convert dt tag payload => Sys2Proof.Machine.execConvert dt tag payload s
  | .getProfile dt tag payload => Sys2Proof.Machine.execGetProfile dt tag payload s
  | .getPoint dt tag payload => Sys2Proof.Machine.execGetPoint dt tag payload s
  | .setWindow dt tag payload => Sys2Proof.Machine.execSetWindow dt tag payload s
  | .getWindow dt tag payload => Sys2Proof.Machine.execGetWindow dt tag payload s
  | .setStation dt tag payload => Sys2Proof.Machine.execSetStation dt tag payload s
  | .setBreak dt tag payload => Sys2Proof.Machine.execSetBreak dt tag payload s
  | .getStations dt tag payload => Sys2Proof.Machine.execGetStations dt tag payload s
  | .getBreaks dt tag payload => Sys2Proof.Machine.execGetBreaks dt tag payload s
  | .ack dt tag payload => Sys2Proof.Machine.execAck dt tag payload s
  | .setAlarmMode dt tag payload => Sys2Proof.Machine.execSetAlarmMode dt tag payload s
  | .getAlarms dt tag payload => Sys2Proof.Machine.execGetAlarms dt tag payload s
  | .unknownKindCommand dt kind tag payload => Sys2Proof.Machine.execUnknownKindCommand dt kind tag payload s
  | .powerOn dt strap => Sys2Proof.Machine.execPowerOn dt strap s
  | .resetPinAssert dt => Sys2Proof.Machine.execResetPinAssert dt s
  | .resetPinRelease dt strap => Sys2Proof.Machine.execResetPinRelease dt strap s
  | .legalStep dt a b => Sys2Proof.Machine.execLegalStep dt a b s
  | .illegalTransition dt a b => Sys2Proof.Machine.execIllegalTransition dt a b s
  | .homeSwitchClose dt => Sys2Proof.Machine.execHomeSwitchClose dt s
  | .homeSwitchOpen dt => Sys2Proof.Machine.execHomeSwitchOpen dt s
  | .limitSwitchClose dt side => Sys2Proof.Machine.execLimitSwitchClose dt side s
  | .limitSwitchOpen dt side => Sys2Proof.Machine.execLimitSwitchOpen dt side s
  | .readyFall dt => Sys2Proof.Machine.execReadyFall dt s
  | .stallIntervalExpiry dt => Sys2Proof.Machine.execStallIntervalExpiry dt s
  | .restTimerExpiry dt => Sys2Proof.Machine.execRestTimerExpiry dt s
  | .speedRefPeriodStart dt => Sys2Proof.Machine.execSpeedRefPeriodStart dt s
  | .speedRefHighTimeEnd dt => Sys2Proof.Machine.execSpeedRefHighTimeEnd dt s
  | .shutterFeedbackChange dt closed => Sys2Proof.Machine.execShutterFeedbackChange dt closed s
  | .shutterMismatchExpiry dt => Sys2Proof.Machine.execShutterMismatchExpiry dt s
  | .channelPulseEdge dt channel => Sys2Proof.Machine.execChannelPulseEdge dt channel s
  | .calRisingEdge dt => Sys2Proof.Machine.execCalRisingEdge dt s
  | .calPeriodTimeout dt => Sys2Proof.Machine.execCalPeriodTimeout dt s
  | .sheetPresentChange dt sheet => Sys2Proof.Machine.execSheetPresentChange dt sheet s
  | .sampleTimerExpiry dt => Sys2Proof.Machine.execSampleTimerExpiry dt s
  | .tachRisingEdge dt => Sys2Proof.Machine.execTachRisingEdge dt s
  | .tachTimeout dt => Sys2Proof.Machine.execTachTimeout dt s
  | .stationPresenceSeen dt station => Sys2Proof.Machine.execStationPresenceSeen dt station s
  | .stationPresenceLost dt station => Sys2Proof.Machine.execStationPresenceLost dt station s
  | .qualifyExpiry dt station => Sys2Proof.Machine.execQualifyExpiry dt station s
  | .restoreExpiry dt station => Sys2Proof.Machine.execRestoreExpiry dt station s
  | .cascadeExpiry dt => Sys2Proof.Machine.execCascadeExpiry dt s
  | .breakNoticePlaced dt => Sys2Proof.Machine.execBreakNoticePlaced dt s
  | .automaticResume dt => Sys2Proof.Machine.execAutomaticResume dt s
  | .rxByte dt byte stop => Sys2Proof.Machine.execRxByte dt byte stop s
  | .gapTimeout dt => Sys2Proof.Machine.execGapTimeout dt s
  | .lineBreak dt => Sys2Proof.Machine.execLineBreak dt s
  | .lineBreakEnd dt => Sys2Proof.Machine.execLineBreakEnd dt s
  | .hrdyRise dt => Sys2Proof.Machine.execHrdyRise dt s
  | .txFrameEnd dt => Sys2Proof.Machine.execTxFrameEnd dt s
  | .overflowPlacement dt => Sys2Proof.Machine.execOverflowPlacement dt s
  | .hrdyFall dt => Sys2Proof.Machine.execHrdyFall dt s
  | .readyRise dt => Sys2Proof.Machine.execReadyRise dt s
  | .calFallingEdge dt => Sys2Proof.Machine.execCalFallingEdge dt s

end Sys2Proof.Machine
end

