-- ==== Sys2Proof/Safety.lean ====
section
/-! DEFINITION. The terms claims are made in: how a row ends, which notices it leaves, when a command is carried out at once, a run
of the receiver over bytes, what a collection starts with, what a closed record does to the channel supervision, and what a sound
state of the part is (the shutter and the drive follow the traverse state, the head is off the sheet when the rules demand it, the
queues keep their bounds, the break record stands exactly while the sheet state says so, the alarm conditions follow their owners). -/

namespace Sys2Proof.Machine

/-! ## How a row ends -/

/-- A row answers a next state whose part is the given one. -/
def State.becomes (s : State) (d : Device) : Host.Outcome State Fault Refusal := .next { s with dev := d }

/-- A row ends with the given part once a changed state has been reported (R188) and the arbiter has acted (R189). -/
def State.ends (s : State) (d : Device) : Host.Outcome State Fault Refusal := s.becomes d.settle.arbitrate

/-- A row ends with a reply in the reply queue: kind, tag and payload of the reply (R184). -/
def State.replies (s : State) (d : Device) (kind tag : Byte) (payload : List Byte) : Host.Outcome State Fault Refusal :=
  s.ends (d.pushReply ⟨kind, tag, payload⟩)

/-- The notices of an event: the link is as the other part's with the given notices offered in turn (R186, R187), but for the
alarm-notice queue, which is the Alarm Controller's (R160). -/
def Device.tells (e d : Device) (notices : List Frame) : Prop :=
  e.lnk = { (notices.foldl Device.offer d).lnk with alarmQ := e.lnk.alarmQ }

/-- The DONE of an operation (R19, R185): kind, result, ADJUSTED, traverse state, and the standardization result, which for STANDARDIZE
is its result. -/
def OpRecord.done (o : OpRecord) (result state std : Byte) : Frame :=
  ⟨0xC1, o.tag, [o.kind.code, result, if o.adjusted then 1 else 0, state, if o.kind = .standardize then result else std]⟩

/-- The DONE that ends the operation in flight, if there is one; no standardization result but that of a STANDARDIZE. -/
def Device.opDone (d : Device) (result state : Byte) : List Frame := (d.trv.op.map (fun o => o.done result state 255)).toList

/-- The DONE of an operation that a fault ends: FAULT, for STANDARDIZE ABORTED (R34, R43). -/
def Device.faultDone (d : Device) (state : Byte) : List Frame :=
  (d.trv.op.map (fun o => o.done (if o.kind = .standardize then 1 else 2) state 255)).toList

/-- The DONE of a pending settings record that is applied (R37): APPLIED, with ADJUSTED where the effective range that the frame
record in force gives (R22) differs from the programmed one. -/
def Device.appliedDone (d : Device) (state : Byte) : List Frame :=
  (d.trv.pending.map (fun q =>
    let differs := d.trv.frame.any (fun f =>
      let t : Nat := (10 * q.2.speed ^ 2 + f.accel - 1) / f.accel
      decide (max (q.2.low : Int) (f.softLow + t) ≠ q.2.low ∨ min (q.2.high : Int) (f.softHigh - t) ≠ q.2.high))
    (⟨0xC1, q.1, [0x1E, 8, if differs then 1 else 0, state, 255]⟩ : Frame))).toList

/-- A command is carried out at once: the part is not held in reset, no command waits ahead of it and the reply queue has a free
place (R182, R195). -/
def Device.clear (d : Device) : Prop := d.pins.reset = false ∧ d.lnk.cmdQ = [] ∧ d.lnk.replyQ.length < 8

/-- The receiver over a run of bytes with valid stop bits: its last state, and what each byte led to (R174). -/
def Rx.run (gap : Timer) : Rx → List Byte → Rx × List RxEvent
  | r, [] => (r, [])
  | r, b :: bs =>
    let x := r.take gap b
    let y := Rx.run gap x.1 bs
    (y.1, x.2 :: y.2)

/-! ## Measuring -/

/-- STANDARDIZING with a fresh collection (R34, R62) and its time-gated sample (R51): the shutter open, ENABLE low, the settings in
force copied, nothing received or summed. -/
def Device.collectsFrom (e d : Device) : Prop :=
  e.trv.state = .standardizing ∧ e.trv.openCmd = true ∧ e.trv.enable = false ∧
  ∀ q ∈ d.std.settings, e.std.snapshot = q ∧ e.std.settleLeft = q.settle ∧ e.std.received = 0 ∧ e.std.summed = 0 ∧
    e.std.sums = ⟨0, 0, 0, 0, 0, 0⟩ ∧ e.std.satMark = false ∧ e.std.phase = (if 1 ≤ q.settle then .settling else .collecting) ∧
    e.acq.sampleTimer = some (d.clk + q.period * 1000) ∧
    e.acq.sample = some ⟨.time, d.trv.counter, d.clk, 0, 0, 0, 0, 0, d.pins.sp, false, false⟩

/-- What a closed record does to the channel supervision (R47, R52, R53): it is the last closed one; a channel whose count in it is 0
adds to its run, at most 255, any other starts again at 0; a dead channel joins the flagged set at a run of eight, a live one leaves
it. A channel that joins raises CHANNEL_FAULT, whose value, where the entry was IDLE, is the mask of the set; a set that empties lowers
it; the set changes at once (log 36). -/
def Device.supervisedFrom (e d : Device) (q : Sample) : Prop :=
  let run (count n : Nat) : Nat := if count = 0 then min 255 (n + 1) else 0
  let flag (count n : Nat) (b : Bool) : Bool := decide (count = 0 ∧ (b = true ∨ 8 ≤ run count n))
  let old := d.acq.flagged
  let new : ChannelSet := ⟨flag q.bw d.acq.dead.bw old.bw, flag q.mw d.acq.dead.mw old.mw, flag q.mr d.acq.dead.mr old.mr,
    flag q.calTotal d.acq.dead.cal old.cal⟩
  let joins := new.bw = true ∧ old.bw = false ∨ new.mw = true ∧ old.mw = false ∨ new.mr = true ∧ old.mr = false ∨
    new.cal = true ∧ old.cal = false
  let was := d.entry srcChannelFault
  let now := e.entry srcChannelFault
  e.acq.last = some q ∧ e.acq.flagged = new ∧
  e.acq.dead = ⟨run q.bw d.acq.dead.bw, run q.mw d.acq.dead.mw, run q.mr d.acq.dead.mr, run q.calTotal d.acq.dead.cal⟩ ∧
  (joins → now.live = true ∧ (was.state = .idle → now.value =
      some ((if new.bw then 1 else 0) + (if new.mw then 2 else 0) + (if new.mr then 4 else 0) + (if new.cal then 8 else 0))) ∧
    (was.state = .inService ∨ was.state = .standing → now.value = was.value ∧ now.repeats = min (was.repeats + 1) 65535)) ∧
  (¬joins → new = ⟨false, false, false, false⟩ → old ≠ new → now.live = false) ∧
  (¬joins → new ≠ ⟨false, false, false, false⟩ ∨ old = new → now.live = was.live ∧ now.value = was.value)

/-! ## Sound states -/

/-- OPEN is driven exactly in the traverse states that R17 names. -/
def Device.shutterFollows (d : Device) : Prop := d.trv.openCmd = d.trv.state.opens

/-- The drive is dead while ENABLE is low (R10, R12, R14): commanded speed zero, output low, no period and no stall interval. -/
def Device.driveDead (d : Device) : Prop :=
  d.trv.enable = false → d.trv.commanded = 0 ∧ d.trv.speedRef = false ∧ d.trv.periodDue = none ∧ d.trv.highDue = none ∧
    d.trv.stall = none

/-- What the drive does over or toward the sheet: a move to a run-up point or to a point, a run-up, a scan, a turn's braking, or
holding a point. -/
def Motion.overSheet : Motion → Bool
  | .move _ _ (.runUp _) | .move _ _ .point | .runUp _ | .scanning | .braking _ | .hold => true
  | .rest | .backOff | .reversing | .seek | .move _ _ .park | .stopping => false

/-- ENABLE in a traverse state with what the drive does (R10): asserted while the head is moved, in HALTED while a stopping ramp
runs. -/
def TravState.drives (st : TravState) (m : Motion) : Bool :=
  match st with
  | .homing | .approach | .scan | .turn | .point | .parking => true
  | .unhomed | .parked | .standardizing => false
  | .halted => decide (m = .stopping)

/-- ENABLE follows the traverse state (R10), together with what keeps it so: a stopping ramp runs in HALTED alone (R15), nothing is
driven with ENABLE low, a SCAN operation has an effective range (R20), and scan settings wait only beside a frame record (R35). -/
def Device.enableFollows (d : Device) : Prop :=
  d.trv.enable = d.trv.state.drives d.trv.motion ∧ (d.trv.motion = .stopping → d.trv.state = .halted) ∧
  (d.trv.enable = false → d.trv.motion = .rest) ∧ (d.opKind = some .scan → d.trv.range.isSome = true) ∧
  (d.trv.pending.isSome = true → d.trv.frame.isSome = true)

/-- Off the sheet (R39): with the sheet state BREAK or the link state LOST, the traverse is in none of APPROACH, SCAN, TURN
and POINT; together with what keeps it so: the drive does nothing toward the sheet outside those states. -/
def Device.offSheet (d : Device) : Prop :=
  (d.brk.sheet = .sheetBreak ∨ d.lnk.link = .lost → d.trv.state.overSheet = false) ∧
  (d.trv.motion.overSheet = true → d.trv.state.overSheet = true)

/-- Measuring follows the traverse state: a scan record is open exactly in SCAN (R96, R97), a collection runs only in STANDARDIZING
(R62), and a sample is open or the sample timer runs only in SCAN, STANDARDIZING and POINT (R50, R51); in SCAN the head runs
across the range. -/
def Device.measuresInPlace (d : Device) : Prop :=
  (d.prf.openScan.isSome = true ↔ d.trv.state = .scan) ∧ (d.std.phase ≠ .idle → d.trv.state = .standardizing) ∧
  (d.acq.sample.isSome = true ∨ d.acq.sampleTimer.isSome = true →
    d.trv.state = .scan ∨ d.trv.state = .standardizing ∨ d.trv.state = .point) ∧
  (d.trv.state = .scan → d.trv.motion = .scanning)

/-- The number of frames of a kind in a queue. -/
def countKind (k : Byte) (q : List Frame) : Nat := (q.filter (fun f => f.kind = k)).length

/-- The bounds of the link's queues (R177, R182, R160, R186, R187), one waiting STATE notice (R188), and RDY deasserted with six
commands or more and under the RESET pin (R178). -/
def Device.queuesSound (d : Device) : Prop :=
  d.lnk.cmdQ.length ≤ 8 ∧ d.lnk.replyQ.length ≤ 8 ∧ d.lnk.alarmQ.length ≤ 8 ∧ d.lnk.eventQ.length ≤ 8 ∧
  countKind doneKind d.lnk.overflow ≤ 8 ∧ countKind stateKind (d.lnk.eventQ ++ d.lnk.overflow) ≤ 1 ∧
  (d.lnk.rdy = true → d.lnk.cmdQ.length < 6 ∧ d.pins.reset = false)

/-- The link state is the one its counter allows (R180): below 96 GOOD, from 96 to 191 DEGRADED or LOST, from 192 LOST. -/
def Device.linkSound (d : Device) : Prop :=
  d.lnk.quality ≤ 255 ∧ (d.lnk.link = .good ↔ d.lnk.quality < 96) ∧ (192 ≤ d.lnk.quality → d.lnk.link = .lost)

/-- A break record is open exactly while the sheet state is BREAK or THREADING (R129, R136), the cascade timer runs only while
one is (R142), the history holds at most sixteen records (R146), and a station appears at most once among the first-out station and
the loss list of a record (R141). -/
def Device.recordStands (d : Device) : Prop :=
  (d.brk.openRec.isSome = true ↔ d.brk.sheet = .sheetBreak ∨ d.brk.sheet = .threading) ∧
  (d.brk.cascade.isSome = true → d.brk.openRec.isSome = true) ∧ d.brk.history.length ≤ 16 ∧
  ∀ r ∈ d.brk.openRec.toList ++ d.brk.history, (r.firstOut :: r.losses.map LossEntry.station).Nodup

/-- The position counter and the scan plan keep their ranges (R4, R29); the home offset that homing writes does too (R1); the point
ring holds at most 64 entries (R110). -/
def Device.countsInRange (d : Device) : Prop :=
  d.trv.counter ≤ 262143 ∧ d.trv.frame.all (fun f => decide (f.homeOffset ≤ 262143)) = true ∧
  d.trv.planCount ≤ (d.trv.active.map ScanSettings.base).getD 0 ∧ d.prf.ring.length ≤ 64

/-- A valid reference set can be divided by (R65, R83, R84), and none of its recorded drifts exceeds the reject limit in force when it
was adopted (R66, R67). -/
def Device.referenceSound (d : Device) : Prop :=
  ∀ r ∈ d.std.ref, 0 < r.rBw ∧ 0 < r.m ∧ ∀ v, r.driftBw = some v ∨ r.driftM = some v ∨ r.driftD0 = some v → v ≤ r.rejectAt

/-- The live condition of a source is its owner's level (R152), wherever other state shows that level: POSITION_LOST only without a
known position (R6, R8), OVERTRAVEL while a limit switch is closed and the part not held in reset (R16), SHUTTER, once its mismatch
timer has run, while the feedback disagrees with the command (R18), a station's condition while it is BROKEN by a loss that raises it
(R147; its timers, which keep that so, run only in LOSING and RESTORING, R132, R133), STD_FAIL and STD_DRIFT after the last standardize
that failed or was adopted, as long as none was aborted since (R69, R70), CHANNEL_FAULT while the flagged set is not empty (R52, R53),
LINK_DEGRADED while the link is not GOOD (R181), and each window's condition while its state is EXCURSION (R122). -/
def Device.conditionsFollow (d : Device) : Prop :=
  (d.cond srcPositionLost = true → d.trv.homed = false) ∧
  d.cond srcOvertravel = (!d.pins.reset && (d.pins.limitTs || d.pins.limitDs)) ∧
  (d.pins.reset = false → (d.cond srcShutter = true ∨ d.trv.mismatch.isSome = true ↔ d.pins.closed = d.trv.openCmd)) ∧
  (∀ n : Fin 8, d.cond (srcBreak n) = true ↔ (d.station n).state = .broken ∧
    ∃ r ∈ d.brk.openRec, r.firstOut = n ∨ ∃ l ∈ r.losses, l.station = n ∧ l.independent = true) ∧
  (∀ n : Fin 8, ((d.station n).qualifyTimer.isSome = true → (d.station n).state = .losing) ∧
    ((d.station n).restoreTimer.isSome = true → (d.station n).state = .restoring)) ∧
  (∀ l ∈ d.std.last, (l.result = .adopted ∨ l.result = .adoptedDrift → d.cond srcStdFail = false ∧
      (d.cond srcStdDrift = true ↔ l.result = .adoptedDrift)) ∧
    (l.result = .sheet ∨ l.result = .channel ∨ l.result = .drift ∨ l.result = .shutter → d.cond srcStdFail = true)) ∧
  (d.std.last = none → d.cond srcStdFail = false) ∧ (d.std.ref = none → d.cond srcStdDrift = false) ∧
  d.cond srcChannelFault = decide (d.acq.flagged.mask ≠ 0) ∧
  d.cond srcLinkDegraded = decide (d.lnk.link ≠ .good) ∧
  ∀ n : Fin 8, d.cond (srcWindow n) = decide ((d.window n).state = .excursion)

/-- No deliverable request waits (R160, R169): a candidate is held back by the delivery hold, by an entry in service, or by a full
alarm-notice queue. -/
def Device.alarmsServed (d : Device) : Prop :=
  ∀ s : Fin 24, d.alm.candidate = some s → d.alm.hold = true ∨ d.alm.passes s = false ∨ 8 ≤ d.lnk.alarmQ.length

end Sys2Proof.Machine
end

