-- ==== Sys2Proof/WellFormed.lean ====
section
/-! DEFINITION. Which commands can reach the part at all: a frame's payload is at most 250 bytes (10 section 10.1), and a
frame of unknown kind has a kind that the command index does not name (R183). -/

namespace Sys2Proof

/-- A command as the link can carry it. Events have no ill-formed operands: their types admit only what the inputs can show. -/
def WellFormed (i : Instr) : Bool :=
  match frameOf i with
  | some (k, _, p) =>
    decide (p.length ≤ 250) &&
      (match i with
       | .unknownKindCommand _ _ _ _ => !(commandKinds.contains k)
       | _ => true)
  | none => true

end Sys2Proof
end

