-- ==== Sys2Proof/Certificates/Slice0/Obligations.lean ====
section
/-! DEFINITION. The statements for the provers. Each docstring names the rules it rests on; where a clause is the model's own
choice it names the log entry. `s` is the machine before the row, `d` its part when the row's `dt` microseconds have passed. -/

open Sys2Proof Sys2Proof.Machine

/-! ## The machine -/

/-- A step runs the command at the front of the queue on the state with the queue's rest; on an empty queue the part idles (the
model's choice, log 1). -/
def Obligations.StepRunsFront : Prop :=
  (∀ (c : Instr) (rest : List Instr) (d : Device), step ⟨c :: rest, d⟩ = exec c ⟨rest, d⟩) ∧
  ∀ d : Device, step ⟨[], d⟩ = .next ⟨[], d⟩

/-- Every command and event ends in a next state and leaves the queue of waiting commands alone: the part never stops (a fault of
the manual is an alarm condition, R152). -/
def Obligations.EveryRowCompletes : Prop :=
  ∀ (c : Instr) (s : State), ∃ d : Device, exec c s = s.becomes d

/-- What reset leaves, as the reset tables of the chapters give it (01 section 1.8, 02 2.10, 03 3.7, 04 4.8, 05 5.10, R114, 07 7.5,
08 8.9, 09 9.9, R198), and nothing waiting. -/
def Obligations.ResetLeaves : Prop :=
  let d := State.reset.dev
  State.reset.pending = [] ∧
  (d.trv.state = .unhomed ∧ d.trv.counter = 0 ∧ d.trv.homed = false ∧ d.trv.faultCount = 0 ∧ d.trv.sampling = none ∧
    d.trv.frame = none ∧ d.trv.enable = false ∧ d.trv.direction = false ∧ d.trv.speedRef = false ∧ d.trv.commanded = 0 ∧
    d.trv.target = 0 ∧ d.trv.stall = none ∧ d.trv.restTimer = none ∧ d.trv.openCmd = false) ∧
  (d.trv.op = none ∧ d.trv.active = none ∧ d.trv.pending = none ∧ d.trv.planCount = 0 ∧ d.trv.resume = none) ∧
  (d.acq.sample = none ∧ d.acq.sampleTimer = none ∧ d.acq.next = none ∧ d.acq.calStart = none ∧ d.acq.last = none ∧
    d.acq.dead = ⟨0, 0, 0, 0⟩ ∧ d.acq.flagged = ⟨false, false, false, false⟩ ∧ d.acq.ppm = none ∧ d.acq.tachEdge = none ∧
    d.acq.tachPeriod = none ∧ d.acq.tachTimeout = none ∧ d.acq.speed = 0) ∧
  (d.std.settings = none ∧ d.std.calRbw = none ∧ d.std.calM = none ∧ d.std.calD0 = none ∧ d.std.ref = none ∧ d.std.count = 0 ∧
    d.std.phase = .idle ∧ d.std.sums = ⟨0, 0, 0, 0, 0, 0⟩ ∧ d.std.last = none) ∧
  (d.cnv.bw = ⟨[], 0, 0, 0⟩ ∧ d.cnv.water = ⟨[], 0, 0, 0⟩ ∧ d.cnv.cal = ⟨[], 0, 0, 0⟩) ∧
  (d.prf.openScan = none ∧ d.prf.scanNumber = 0 ∧ d.prf.latest = none ∧ d.prf.filtered = none ∧ d.prf.reseed = true ∧
    d.prf.report.unbegun = [] ∧ d.prf.skip = 0 ∧ d.prf.ring = [] ∧ d.prf.entryNumber = 0 ∧ d.prf.batch = none ∧
    d.prf.batchCount = 0 ∧ d.prf.skippedBatches = 0) ∧
  (∀ n : Fin 8, d.window n = ⟨none, .normal, 0, none, none⟩) ∧
  (∀ n : Fin 8, d.station n = ⟨none, .disabled, none, none, 0, 0, 0⟩) ∧
  (d.brk.settings = none ∧ d.brk.sheet = .running ∧ d.brk.openRec = none ∧ d.brk.cascade = none ∧ d.brk.history = [] ∧
    d.brk.due = [] ∧ d.brk.breakNumber = 0) ∧
  (∀ a : Fin 24, d.entry a = ⟨.idle, false, 0, none, none, none⟩) ∧
  (d.alm.rotating = false ∧ d.alm.lowest = 23 ∧ d.alm.specialMask = false ∧ d.alm.autoAck = false ∧ d.alm.mask = 0 ∧
    d.alm.hold = true) ∧
  (d.lnk.rx.state = .hunt ∧ d.lnk.rx.gap = none ∧ d.lnk.cmdQ = [] ∧ d.lnk.rdy = true ∧ d.lnk.quality = 0 ∧ d.lnk.link = .good ∧
    d.lnk.replyQ = [] ∧ d.lnk.alarmQ = [] ∧ d.lnk.eventQ.map Frame.kind = [0xC0] ∧ d.lnk.overflow = [] ∧ d.lnk.tx = none ∧
    d.lnk.startedHold = true ∧ d.lnk.counts = ⟨0, 0, 0, 0, 0, 0, 0, 0⟩)

/-- RESET_PIN_ASSERT: every block goes to its reset values and RDY is deasserted (R195); the wires stay as they are. The baud rate
last read stays in the model (log 19). -/
def Obligations.ResetPinHolds : Prop :=
  ∀ (s : State) (dt : Nat),
    exec (.resetPinAssert dt) s = s.becomes
      { clk := s.dev.clk + dt, timeBase := s.dev.timeBase, stateChanged := false, pins := { s.dev.pins with reset := true },
        trv := .reset, acq := .reset, std := .reset, cnv := .reset, prf := .reset,
        win := Vector.replicate 8 Window.reset, brk := .reset, alm := .reset,
        lnk := { Lnk.reset s.dev.lnk.baud with rdy := false } }

/-- While the RESET pin is asserted the part holds every block at its reset values (R195): no command and no event but the
release of the pin changes anything but the wires, the clock and the strap that a power-on reads (log 19). -/
def Obligations.HeldPartStaysBlank : Prop :=
  ∀ (c : Instr) (s : State), s.dev.pins.reset = true → s.dev = s.dev.held →
    (∀ (dt : Nat) (strap : Bool), c ≠ .resetPinRelease dt strap) →
    ∃ d : Device, exec c s = s.becomes d ∧ d = d.held

/-- POWER_ON and the release of the RESET pin (R195, R196, R198): every block at its reset values, the baud rate read from the
strap, the time base started, STARTED placed with its cause, OVERTRAVEL latched behind the delivery hold where a limit switch is
closed (R16, R171), the mismatch timer started where the feedback shows open (R18). -/
def Obligations.PowerOnStarts : Prop :=
  ∀ (s : State) (dt : Nat) (strap : Bool),
    let d := s.dev.advance dt
    let started (cause : Byte) : Device :=
      { clk := d.clk, timeBase := d.clk, stateChanged := false, pins := { d.pins with reset := false },
        trv := { Trv.reset with mismatch := if d.pins.closed then none else some (d.clk + 500000) },
        acq := .reset, std := .reset, cnv := .reset, prf := .reset, win := Vector.replicate 8 Window.reset, brk := .reset,
        alm := { Alm.reset with entries :=
          if d.pins.limitTs || d.pins.limitDs then
            Alm.reset.entries.set 1 ⟨.requested, true, 0, some 0, some 0, some (d.pins.switchCode * 16777216)⟩
          else Alm.reset.entries },
        lnk := { Lnk.reset strap with eventQ := [⟨0xC0, 0, [cause, boolByte strap, 0, 0, 0, 0, 0, 0, 0]⟩] } }
    (d.pins.reset = false → exec (.powerOn dt strap) s = s.becomes (started 0).arbitrate) ∧
    (d.pins.reset = true → exec (.resetPinRelease dt strap) s = s.becomes (started 1).arbitrate)

/-- RESTART (R197, R198): configuration and break history kept, everything dynamic reset, no reply; STARTED carries the RESTART's
tag and the cause COMMAND (R196); an open break record moves to the history (R151), enabled stations start as at enabling (R130,
R151). The effective range stays with its settings (log 30). -/
def Obligations.RestartKeepsConfiguration : Prop :=
  ∀ (s : State) (dt : Nat) (tag : Byte),
    let d := s.dev.advance dt
    d.clear → ∃ e : Device, exec (.restart dt tag []) s = s.becomes e.arbitrate ∧
      e.clk = d.clk ∧ e.timeBase = d.clk ∧ e.stateChanged = false ∧ e.pins = d.pins ∧
      e.trv = { Trv.reset with frame := d.trv.frame, active := d.trv.active, range := d.trv.range,
                               mismatch := if d.pins.closed then none else some (d.clk + 500000) } ∧
      e.acq = { Acq.reset with ppm := d.acq.ppm } ∧
      e.std = { Std.reset with settings := d.std.settings, calRbw := d.std.calRbw, calM := d.std.calM, calD0 := d.std.calD0 } ∧
      e.cnv = ⟨⟨d.cnv.bw.knots, 0, 0, 0⟩, ⟨d.cnv.water.knots, 0, 0, 0⟩, ⟨d.cnv.cal.knots, 0, 0, 0⟩⟩ ∧ e.prf = .reset ∧
      (∀ n : Fin 8, e.window n = ⟨(d.window n).definition, .normal, 0, none, none⟩) ∧
      e.alm = { Alm.reset with entries :=
        if d.pins.limitTs || d.pins.limitDs then
          Alm.reset.entries.set 1 ⟨.requested, true, 0, some 0, some 0, some (d.pins.switchCode * 16777216)⟩
        else Alm.reset.entries } ∧
      e.lnk = { Lnk.reset d.lnk.baud with rx := d.lnk.rx, tx := d.lnk.tx,
                                          eventQ := [⟨0xC0, tag, [2, boolByte d.lnk.baud] ++ beBytes 2 d.configMask ++
                                            [BitVec.ofNat 8 e.brk.history.length] ++ beBytes 4 d.brk.breakNumber⟩] } ∧
      e.brk.settings = d.brk.settings ∧ e.brk.openRec = none ∧ e.brk.cascade = none ∧ e.brk.due = [] ∧
      e.brk.breakNumber = d.brk.breakNumber ∧
      e.brk.history = (match d.brk.openRec with
        | none => d.brk.history
        | some r => ((if d.brk.cascade.isSome then { r with cascadeClose := some (sat16 (d.since r.time)) } else r) ::
            d.brk.history).take 16) ∧
      (∀ n : Fin 8, e.station n =
        ⟨(d.station n).definition,
         if (d.station n).state = .disabled then .disabled else if d.showsSheet n then .restoring else .noSheet, none,
         if (d.station n).state ≠ .disabled ∧ d.showsSheet n = true then
           some (d.clk + ((d.station n).definition.map StationDef.restore).getD 0 * 1000) else none, 0, 0, 0⟩) ∧
      (e.brk.sheet = if ∀ n : Fin 8, (d.station n).state = .disabled then .running else .noSheet)

/-! ## The host link: commands -/

/-- GET_STATUS (R192): a payload is refused with BAD_LENGTH; else the reply is OK with the 21 bytes as they stand at the dispatch,
the command queue level being the level after GET_STATUS itself has left the queue; nothing else changes. -/
def Obligations.StatusIsReported : Prop :=
  let status (d : Device) : List Byte :=
    [d.trv.state.code, boolByte d.trv.homed] ++ (if d.trv.homed then beBytes 4 d.trv.counter else [0xFF, 0xFF, 0xFF, 0xFF]) ++
    [d.brk.sheet.code, d.lnk.link.code, BitVec.ofNat 8 d.lnk.quality] ++ beBytes 2 d.acq.speed ++ beBytes 4 d.prf.scanNumber ++
    [BitVec.ofNat 8 ((d.trv.active.map ScanSettings.base).getD 0), BitVec.ofNat 8 d.trv.planCount, boolByte d.std.ref.isSome,
     BitVec.ofNat 8 (d.alm.countIn .requested), BitVec.ofNat 8 (d.alm.countIn .inService), BitVec.ofNat 8 d.lnk.cmdQ.length]
  (∀ (f : Frame) (d : Device),
    handlerOf 0x01 f d = (d, some (if f.payload = [] then .ok (status d) else .only .badLength)) ∧ (status d).length = 21) ∧
  (∀ (s : State) (dt : Nat) (tag : Byte) (p : List Byte),
    let d := s.dev.advance dt
    d.clear → exec (.getStatus dt tag p) s = s.replies d 0x81 tag (if p = [] then [0, 0] ++ status d else [3, 0])) ∧
  ∀ (d : Device) (tag : Byte) (rest : List Frame), d.lnk.cmdQ = ⟨0x01, tag, []⟩ :: rest →
    let left := d.setLnk { d.lnk with cmdQ := rest, rdy := d.lnk.rdy || rest.isEmpty }
    d.dispatchOne = (left.pushReply ⟨0x81, tag, [0, 0] ++ status left⟩).settle ∧ left.lnk.cmdQ.length = rest.length

/-- GET_FRAME (R3): in every traverse state OK with the presence byte and the record in force in the order of SET_FRAME, or the empty
record's filler. That a payload is not examined is the model's choice (log 31). -/
def Obligations.FrameIsReported : Prop :=
  let record (d : Device) : List Byte :=
    match d.trv.frame with
    | none => 0 :: List.replicate 24 0xFF
    | some f => 1 :: (beBytes 4 f.softLow ++ beBytes 4 f.softHigh ++ beBytes 4 f.homeOffset ++ beBytes 2 f.homeTolerance ++
        beBytes 4 f.park ++ beBytes 2 f.homingSpeed ++ beBytes 2 f.travelSpeed ++ beBytes 2 f.accel)
  (∀ (f : Frame) (d : Device), handlerOf 0x11 f d = (d, some (.ok (record d)))) ∧
  ∀ (s : State) (dt : Nat) (tag : Byte) (p : List Byte),
    let d := s.dev.advance dt
    d.clear → exec (.getFrame dt tag p) s = s.replies d 0x91 tag ([0, 0] ++ record d)

/-- A frame whose kind is not in the command index (R183): BAD_KIND, with the kind 0xFF, the frame's tag, and the received kind;
the payload is not examined and nothing else changes. -/
def Obligations.UnknownKindRefused : Prop :=
  ∀ (s : State) (dt : Nat) (kind tag : Byte) (p : List Byte),
    let d := s.dev.advance dt
    WellFormed (.unknownKindCommand dt kind tag p) = true → d.clear →
    exec (.unknownKindCommand dt kind tag p) s = s.replies d 0xFF tag [2, 0, kind] ∧
      handlerOf kind ⟨kind, tag, p⟩ d = (d, some ⟨.badKind, false, false, [kind]⟩)

/-- A refused command changes no state (R183, R184): whatever the kind, an owner that answers with a code other than OK and
ACCEPTED leaves the part as it was, and, but for BAD_KIND, sets no flag and sends no data. A payload whose length is not the one
its owner's rule gives is refused with BAD_LENGTH. -/
def Obligations.RefusalChangesNothing : Prop :=
  (∀ (kind : Byte) (f : Frame) (d e : Device) (a : Answer),
    handlerOf kind f d = (e, some a) → a.code ≠ .ok → a.code ≠ .accepted →
    e = d ∧ a.adjusted = false ∧ a.replaced = false ∧ (a.code ≠ .badKind → a.data = [])) ∧
  (∀ (f : Frame) (d : Device), f.payload.length < 2 ∨ f.payload.length ≠ 2 + 6 * field f.payload 1 1 →
    handlerOf 0x30 f d = (d, some (.only .badLength))) ∧
  ∀ e ∈ [((0x01 : Byte), 0), (0x02, 0), (0x03, 0), (0x18, 0), (0x19, 0), (0x1A, 0), (0x1B, 4), (0x1C, 0), (0x1D, 0), (0x1E, 30),
      (0x20, 2), (0x29, 13), (0x31, 1), (0x32, 24), (0x38, 2), (0x39, 1), (0x40, 13), (0x41, 1), (0x48, 7), (0x49, 4), (0x4A, 0),
      (0x4B, 1), (0x50, 1), (0x51, 7), (0x52, 1)],
    ∀ (f : Frame) (d : Device), f.payload.length ≠ e.2 → handlerOf e.1 f d = (d, some (.only .badLength))

/-- Dispatch (R182, R178): the head of the queue leaves it and is handed to its owner; its reply goes to the tail of the reply
queue; RDY is asserted again where the queue is now empty; the next is dispatched while the reply queue has a place. A host
command that finds the reply queue full is appended, RDY falling in the event that brings the level to six; with eight waiting it
is lost with OVERRUN (R177, R179). That a command row stands for a frame whose reception the RX_BYTE row counts is the model's
choice (log 4). -/
def Obligations.CommandsDispatchInOrder : Prop :=
  (∀ (d : Device) (f : Frame) (rest : List Frame), d.lnk.cmdQ = f :: rest → d.lnk.replyQ.length < 8 →
    let left := d.setLnk { d.lnk with cmdQ := rest, rdy := d.lnk.rdy || rest.isEmpty }
    let r : Device × Option Answer := handlerOf f.kind f left
    let after : Device := (match r.2 with
      | none => r.1
      | some (a : Answer) => r.1.pushReply ⟨if a.code = ReplyCode.badKind then 0xFF else f.kind + 0x80, f.tag,
          a.code.code :: flagsByte a.adjusted a.replaced :: a.data⟩).settle
    d.dispatchAll = after.dispatchLoop rest.length) ∧
  ∀ (c : Instr) (s : State) (kind tag : Byte) (p : List Byte), frameOf c = some (kind, tag, p) → s.dev.pins.reset = false →
    8 ≤ s.dev.lnk.replyQ.length → ∃ dt : Nat,
    let d := s.dev.advance dt
    (d.lnk.cmdQ.length < 8 → exec c s = s.ends (d.setLnk { d.lnk with
      cmdQ := d.lnk.cmdQ ++ [⟨kind, tag, p⟩], rdy := d.lnk.rdy && decide (d.lnk.cmdQ.length + 1 < 6) })) ∧
    (d.lnk.cmdQ.length = 8 → exec c s = s.ends (d.setLnk { d.lnk with
      quality := min 255 (d.lnk.quality + 8),
      counts := { d.lnk.counts with overrun := sat16 (d.lnk.counts.overrun + 1) } }).followLink)

/-! ## The host link: the line -/

/-- The receiver assembles exactly what was sent (R172 to R174, R177): from HUNT, the bytes of a frame as it travels (Sync, Length,
Kind, Tag, Payload and its check high byte first) lead to nothing but, at the last of them, that frame, and the receiver is in HUNT
again with the gap timer stopped. The computation of R173 over the nine bytes 0x31 to 0x39 gives 0x29B1. -/
def Obligations.ReceiverAssembles : Prop :=
  crc [0x31, 0x32, 0x33, 0x34, 0x35, 0x36, 0x37, 0x38, 0x39] = 0x29B1 ∧
  ∀ (f : Frame) (gap : Timer) (r : Rx), f.payload.length ≤ 250 → r.state = .hunt →
    Rx.run gap r f.wire = (Rx.reset, List.replicate (f.payload.length + 5) .nothing ++ [.complete f])

/-- Characters that complete no frame (R174 to R176, R179): in HUNT any byte but Sync, and a character with a low stop bit, are
discarded without an error; Sync starts a frame and the 2 ms gap timer, and each further byte with a valid stop bit restarts it: the
length, at most 250, the kind, the tag, the payload until as many bytes as the length says have come, the check's high byte; a length
above 250 and a low stop bit inside a frame abandon it with their errors, each adding 8 to the quality counter, at most 255, and one to
its own count; in a line break nothing is taken. -/
def Obligations.ReceiverErrors : Prop :=
  ∀ (s : State) (dt : Nat) (b : Byte) (stop : Bool),
    let d := s.dev.advance dt
    let worse (c : LinkCounts) : Device :=
      (d.setLnk { d.lnk with rx := .reset, quality := min 255 (d.lnk.quality + 8), counts := c }).followLink
    let x := d.lnk.rx
    let goesOn (r : Rx) := exec (.rxByte dt b true) s = s.ends (d.setLnk { d.lnk with rx := { r with gap := some (d.clk + 2000) } })
    d.pins.reset = false →
    (x.state = .length → b.toNat ≤ 250 → goesOn { x with state := .kind, length := b }) ∧
    (x.state = .kind → goesOn { x with state := .tag, kind := b }) ∧
    (x.state = .tag → goesOn { x with state := if x.length = 0 then .checkHigh else .payload, tag := b, payload := [] }) ∧
    (x.state = .payload → x.payload.length + 1 < x.length.toNat → goesOn { x with payload := x.payload ++ [b] }) ∧
    (x.state = .payload → x.length.toNat ≤ x.payload.length + 1 →
      goesOn { x with state := .checkHigh, payload := x.payload ++ [b] }) ∧
    (x.state = .checkHigh → goesOn { x with state := .checkLow, checkHigh := b }) ∧
    (d.lnk.rx.state = .hunt ∧ (stop = false ∨ b ≠ 0xA5) → exec (.rxByte dt b stop) s = s.ends d) ∧
    (d.lnk.rx.state = .hunt ∧ stop = true ∧ b = 0xA5 →
      exec (.rxByte dt b stop) s = s.ends (d.setLnk { d.lnk with
        rx := { Rx.reset with state := .length, gap := some (d.clk + 2000) } })) ∧
    (d.lnk.rx.state = .length ∧ stop = true ∧ 250 < b.toNat →
      exec (.rxByte dt b stop) s = s.ends (worse { d.lnk.counts with length := sat16 (d.lnk.counts.length + 1) })) ∧
    (d.lnk.rx.state ≠ .hunt ∧ d.lnk.rx.state ≠ .lineLow ∧ stop = false →
      exec (.rxByte dt b stop) s = s.ends (worse { d.lnk.counts with framing := sat16 (d.lnk.counts.framing + 1) })) ∧
    (d.lnk.rx.state = .lineLow → exec (.rxByte dt b stop) s = s.ends d)

/-- The byte that completes a frame (R177, R179): with a check that does not match the frame is dropped with CRC; a good frame is
appended and takes 1 from the counter, and dispatch runs; with eight commands waiting it is dropped with OVERRUN. -/
def Obligations.FrameCompletes : Prop :=
  ∀ (s : State) (dt : Nat) (b : Byte),
    let d := s.dev.advance dt
    let r := d.lnk.rx
    let c := d.lnk.counts
    let good := r.checkHigh ++ b = crc (r.length :: r.kind :: r.tag :: r.payload)
    d.pins.reset = false → r.state = .checkLow →
    (¬good → exec (.rxByte dt b true) s = s.ends
      (d.setLnk { d.lnk with rx := .reset, quality := min 255 (d.lnk.quality + 8),
                             counts := { c with crc := sat16 (c.crc + 1) } }).followLink) ∧
    (good ∧ d.lnk.cmdQ.length < 8 → exec (.rxByte dt b true) s = s.ends
      ((d.setLnk { d.lnk with rx := .reset, cmdQ := d.lnk.cmdQ ++ [⟨r.kind, r.tag, r.payload⟩],
                              rdy := d.lnk.rdy && decide (d.lnk.cmdQ.length + 1 < 6), quality := d.lnk.quality - 1,
                              counts := { c with good := wrap32 (c.good + 1) } }).followLink).dispatchAll) ∧
    (good ∧ 8 ≤ d.lnk.cmdQ.length → exec (.rxByte dt b true) s = s.ends
      (d.setLnk { d.lnk with rx := .reset, quality := min 255 (d.lnk.quality + 8),
                             counts := { c with overrun := sat16 (c.overrun + 1) } }).followLink)

/-- The events of the line (R175, R176, R189, R191): the gap timer's expiry abandons the partial frame with GAP; RXD low for 20 bit
times drops it without an error and counts a break; RXD high again brings HUNT; the end of a transmitted frame frees the line, and
HRDY rising lets the arbiter act; HRDY falling starts and stops nothing. An expiry brings the clock to the deadline (log 2). -/
def Obligations.LineEventsAct : Prop :=
  ∀ (s : State) (dt t : Nat),
    let d := s.dev.advance dt
    d.pins.reset = false →
    (d.lnk.rx.gap = some t → exec (.gapTimeout dt) s = s.ends
      ((d.setClk (max d.clk t)).setLnk { d.lnk with
        rx := .reset, quality := min 255 (d.lnk.quality + 8),
        counts := { d.lnk.counts with gap := sat16 (d.lnk.counts.gap + 1) } }).followLink) ∧
    (d.lnk.rx.state ≠ .lineLow → exec (.lineBreak dt) s = s.becomes (d.setLnk { d.lnk with
      rx := { Rx.reset with state := .lineLow }, counts := { d.lnk.counts with breaks := sat16 (d.lnk.counts.breaks + 1) } })) ∧
    (d.lnk.rx.state = .lineLow → exec (.lineBreakEnd dt) s = s.becomes (d.setLnk { d.lnk with rx := .reset })) ∧
    (d.lnk.tx ≠ none → exec (.txFrameEnd dt) s = s.ends (d.setLnk { d.lnk with tx := none })) ∧
    (d.pins.hrdy = false → exec (.hrdyRise dt) s = s.ends (d.setPins { d.pins with hrdy := true })) ∧
    exec (.hrdyFall dt) s = s.becomes (d.setPins { d.pins with hrdy := false })

/-- What a change of the link state does, in the event of the change (R180, R181, R108, R112, R42): LINK_DEGRADED falls at the entry
to GOOD; at the entries to DEGRADED and LOST it rises with the counter and what the report and batch buffers have not begun is
discarded and counted. At the entry to LOST a head over the sheet parks as in a break, its open scan closing ABORTED_LINK, its operation
ending LINK; a collection is abandoned and the traverse PARKED, a STANDARDIZE ending ABORTED, a SCAN ending LINK; a SCAN or POINT
operation in another state ends LINK and the motion goes on; HOME, PARK and STOP go on; the resume-pending record is kept. The traverse
state in those DONE notices is the model's choice (log 6). -/
def Obligations.LinkStateActs : Prop :=
  ∀ d : Device,
    let entered (l : LinkState) : Device := (d.setLnk { d.lnk with link := l }).setChanged true
    let left (e : Device) : Device := e.setPrf { e.prf with
      report := if e.prf.report.unbegun = [] then e.prf.report else ⟨e.prf.report.frames.take e.prf.report.next, e.prf.report.next⟩,
      skip := if e.prf.report.unbegun = [] then e.prf.skip else sat16 (e.prf.skip + 1),
      batch := none,
      skippedBatches := if e.prf.batch = none then e.prf.skippedBatches else sat16 (e.prf.skippedBatches + 1) }
    (d.lnk.link = .good → d.lnk.quality < 96 → d.followLink = d) ∧
    (d.lnk.link = .good → 96 ≤ d.lnk.quality →
      d.followLink = left ((entered .degraded).rise srcLinkDegraded d.lnk.quality)) ∧
    (d.lnk.link = .degraded → d.lnk.quality < 96 → d.followLink = (entered .good).fallIfActive srcLinkDegraded) ∧
    (d.lnk.link = .degraded → 96 ≤ d.lnk.quality → d.lnk.quality < 192 → d.followLink = d) ∧
    (d.lnk.link = .degraded → 192 ≤ d.lnk.quality →
      d.followLink = (left ((entered .lost).rise srcLinkDegraded d.lnk.quality)).parkOnLinkLoss) ∧
    (d.lnk.link = .lost → d.lnk.quality < 96 → d.followLink = (entered .good).fallIfActive srcLinkDegraded) ∧
    (d.lnk.link = .lost → 96 ≤ d.lnk.quality → d.followLink = d) ∧
    (d.lnk.link = .lost →
      let e := d.parkOnLinkLoss
      let st := d.trv.state
      let sheeted := st = .approach ∨ st = .scan ∨ st = .turn ∨ st = .point
      e.brk = d.brk ∧ e.cnv = d.cnv ∧ e.win = d.win ∧ e.pins = d.pins ∧ e.std.ref = d.std.ref ∧ e.trv.counter = d.trv.counter ∧
      e.trv.homed = d.trv.homed ∧
      (sheeted → e.trv.op = none ∧ e.trv.openCmd = false ∧ e.prf.openScan = none ∧ e.acq.sample = none ∧ e.acq.sampleTimer = none ∧
        (∀ w ∈ d.prf.openScan, e.prf.latest =
          some (w.finish ((d.trv.active.map ScanSettings.minSamples).getD 1) d.now .abortedLink)) ∧
        ∀ f ∈ d.trv.frame, f.softLow ≤ f.park → f.park ≤ f.softHigh →
          let toward : Side := if d.trv.counter < f.park then .ds else .ts
          (20 < Machine.dist d.trv.counter f.park → d.trv.enable = true → d.pins.limit toward = false →
            e.trv.state = .parking ∧ e.trv.motion = .move f.park f.travelSpeed .park ∧ e.trv.enable = true ∧
            e.trv.commanded = d.trv.commanded ∧ e.trv.resume = d.trv.resume ∧
            (∀ o ∈ d.trv.op, e.lnk = (d.offer (o.done 5 8 255)).lnk)) ∧
          (20 < Machine.dist d.trv.counter f.park → d.trv.enable = true → d.pins.limit toward = true →
            e.trv.state = .halted ∧ e.trv.enable = false ∧ e.cond srcOvertravel = true ∧ e.tells d (d.opDone 5 8)) ∧
          (Machine.dist d.trv.counter f.park ≤ 20 →
            e.trv.state = .parked ∧ e.trv.enable = false ∧ e.trv.commanded = 0 ∧ e.trv.pending = none ∧
            (d.trv.resume = none → e.tells d (d.opDone 5 8 ++ d.appliedDone 2)))) ∧
      (st = .standardizing → e.trv.state = .parked ∧ e.trv.op = none ∧ e.trv.enable = false ∧ e.trv.openCmd = false ∧
        e.trv.pending = none ∧ e.std.phase = .idle ∧ (d.std.phase ≠ .idle → e.std.last.map StdLast.result = some .aborted) ∧
        (d.trv.resume = none → ∀ o ∈ d.trv.op,
          e.tells d (d.appliedDone 2 ++ [o.done (if o.kind = .standardize then 1 else 5) 2 255]))) ∧
      (¬sheeted → st ≠ .standardizing → ∀ o, d.trv.op = some o → o.kind = .scan ∨ o.kind = .point →
        e = (d.setTrv { d.trv with op := none }).offer (o.done 5 st.code 255)) ∧
      (¬sheeted → st ≠ .standardizing → (∀ o ∈ d.trv.op, o.kind ≠ .scan ∧ o.kind ≠ .point) → e = d))

/-- The transmit arbiter's order (R189, R190, R107, R112, R171): until STARTED has been begun it begins STARTED alone, which releases
both holds and starts an examination; then a reply, which lets dispatch continue; then an ALARM notice, which starts an
examination; then an event notice, a STATE notice with the states as they then stand (R188; that its time stays the latest change's is
log 5); then, in GOOD only, the report's next frame, its header taking the skip count, and the batch,
taking its own. With HRDY deasserted or a frame in progress nothing begins (R191). That it acts once, at the end of the event, is
the model's choice (log 8). -/
def Obligations.ArbiterOrder : Prop :=
  ∀ (d : Device) (f : Frame) (rest : List Frame),
    let l := d.lnk
    let p := d.prf
    (l.tx ≠ none ∨ d.pins.hrdy = false → d.arbitrate = d) ∧
    (l.tx = none → d.pins.hrdy = true →
      (l.startedHold = true → l.eventQ = f :: rest → f.kind = startedKind → d.arbitrate =
        ((d.setLnk { l with eventQ := rest, tx := some f, startedHold := false }).setAlm { d.alm with hold := false }).examine) ∧
      (l.startedHold = true → (∀ g ∈ l.eventQ.head?, g.kind ≠ startedKind) → d.arbitrate = d) ∧
      (l.startedHold = false → l.replyQ = f :: rest →
        d.arbitrate = (d.setLnk { l with replyQ := rest, tx := some f }).dispatchAll) ∧
      (l.startedHold = false → l.replyQ = [] → l.alarmQ = f :: rest →
        d.arbitrate = (d.setLnk { l with alarmQ := rest, tx := some f }).examine) ∧
      (l.startedHold = false → l.replyQ = [] → l.alarmQ = [] → l.eventQ = f :: rest →
        d.arbitrate = d.setLnk { l with eventQ := rest, tx := some (if f.kind = stateKind then { f with
          payload := [d.trv.state.code, boolByte d.trv.homed, d.brk.sheet.code, l.link.code] ++ f.payload.drop 4 } else f) }) ∧
      (l.startedHold = false → l.replyQ = [] → l.alarmQ = [] → l.eventQ = [] →
        (l.link ≠ .good → d.arbitrate = d) ∧
        (l.link = .good → p.report.unbegun = f :: rest → f.kind = profileKind → d.arbitrate =
          (d.setPrf { p with report := ⟨p.report.frames, p.report.next + 1⟩, skip := 0 }).setLnk { l with
            tx := some { f with payload := f.payload.take 42 ++ beBytes 2 p.skip ++ f.payload.drop 44 } }) ∧
        (l.link = .good → p.report.unbegun = f :: rest → f.kind ≠ profileKind → d.arbitrate =
          (d.setPrf { p with report := ⟨p.report.frames, p.report.next + 1⟩ }).setLnk { l with tx := some f }) ∧
        (l.link = .good → p.report.unbegun = [] → p.batch = some f → d.arbitrate =
          (d.setPrf { p with batch := none, skippedBatches := 0 }).setLnk { l with
            tx := some { f with payload := f.payload.take 10 ++ beBytes 2 p.skippedBatches ++ f.payload.drop 12 } }) ∧
        (p.report.unbegun = [] → p.batch = none → d.arbitrate = d)))

/-- An operation's end offers its DONE notice (R19, R185): kind, result, flags, traverse state, and a standardization result or
255. A DONE or STATE notice is offered (R186, R187): placed at the tail where there is room and nothing waits in the overflow list, else
kept there in order; a DONE beyond eight is lost and counted. A freed place takes the overflow list's head (R187). -/
def Obligations.NoticesKeepOrder : Prop :=
  (∀ (d : Device) (o : OpRecord) (r : OpResult) (std : Option OpResult), d.trv.op = some o → d.endOp r std =
    (d.setTrv { d.trv with op := none }).offer ⟨doneKind, o.tag, [o.kind.code, r.code, if o.adjusted then 1 else 0,
      d.trv.state.code, if o.kind = .standardize then r.code else (std.map OpResult.code).getD 255]⟩) ∧
  (∀ (d : Device) (f : Frame),
    let l := d.lnk
    (l.eventQ.length < 8 → l.overflow = [] → d.offer f = d.setLnk { l with eventQ := l.eventQ ++ [f] }) ∧
    (8 ≤ l.eventQ.length ∨ l.overflow ≠ [] →
      (f.kind = doneKind → 8 ≤ countKind doneKind l.overflow →
        d.offer f = d.setLnk { l with counts := { l.counts with lostDone := min 65535 (l.counts.lostDone + 1) } }) ∧
      (f.kind ≠ doneKind ∨ countKind doneKind l.overflow < 8 →
        d.offer f = d.setLnk { l with overflow := l.overflow ++ [f] }))) ∧
  ∀ (s : State) (dt : Nat) (f : Frame) (rest : List Frame),
    let d := s.dev.advance dt
    d.pins.reset = false → d.lnk.overflow = f :: rest →
    (d.lnk.eventQ.length < 8 → exec (.overflowPlacement dt) s =
      s.ends (d.setLnk { d.lnk with eventQ := d.lnk.eventQ ++ [f], overflow := rest })) ∧
    (8 ≤ d.lnk.eventQ.length → exec (.overflowPlacement dt) s = s.ends d)

/-- A changed state is reported once at the end of the event (R188; the moment is the model's choice, log 5): a STATE notice that
already waits takes the states and the time as they now stand and keeps its place, else a new one is offered. -/
def Obligations.StateNoticeWaitsOnce : Prop :=
  ∀ d : Device,
    let now : List Byte := [d.trv.state.code, boolByte d.trv.homed, d.brk.sheet.code, d.lnk.link.code] ++
      beBytes 4 ((d.clk - d.timeBase) / 1000 % 4294967296)
    let fresh (q : List Frame) : List Frame := q.map (fun f => if f.kind = stateKind then ⟨stateKind, f.tag, now⟩ else f)
    let waits := ∃ f ∈ d.lnk.eventQ ++ d.lnk.overflow, f.kind = stateKind
    (d.stateChanged = false → d.settle = d) ∧
    (d.stateChanged = true → waits → d.settle =
      (d.setLnk { d.lnk with eventQ := fresh d.lnk.eventQ, overflow := fresh d.lnk.overflow }).setChanged false) ∧
    (d.stateChanged = true → ¬waits → d.settle = (d.offer ⟨stateKind, 0, now⟩).setChanged false)

/-! ## The frame and the drive -/

/-- SET_FRAME (R1, R2): BUSY outside UNHOMED, PARKED and a standing HALTED; then the length, the structural fields, the clamping;
an accepted record replaces the one in force. A changed home offset of a homed part clears the homed flag and leads to UNHOMED; else
a changed park position of a PARKED traverse leads to HALTED; sampling and every other block stay. -/
def Obligations.SetFrameActs : Prop :=
  ∀ (s : State) (dt : Nat) (tag : Byte) (p : List Byte),
    let d := s.dev.advance dt
    let x : FrameRecord := ⟨field p 0 4, field p 4 4, field p 8 4, clampTo 10 2000 (field p 12 2), field p 14 4,
      clampTo 20 200 (field p 18 2), clampTo 50 1000 (field p 20 2), clampTo 100 5000 (field p 22 2)⟩
    let clamped : Byte := if x.homeTolerance = field p 12 2 ∧ x.homingSpeed = field p 18 2 ∧ x.travelSpeed = field p 20 2 ∧
      x.accel = field p 22 2 then 0 else 1
    let may := d.trv.state = .unhomed ∨ d.trv.state = .parked ∨ d.trv.state = .halted ∧ d.trv.enable = false
    let bad := 262143 < x.softLow ∨ 262143 < x.softHigh ∨ 262143 < x.homeOffset ∨ 262143 < x.park ∨
      x.softHigh < x.softLow + 4000 ∨ x.park < x.softLow ∨ x.softHigh < x.park
    let moved := d.trv.homed = true ∧ ∃ o ∈ d.trv.frame, o.homeOffset ≠ x.homeOffset
    let away := d.trv.state = .parked ∧ ∃ o ∈ d.trv.frame, o.park ≠ x.park
    d.clear → d.shutterFollows →
    (¬may → exec (.setFrame dt tag p) s = s.replies d 0x90 tag [6, 0]) ∧
    (may → p.length ≠ 24 → exec (.setFrame dt tag p) s = s.replies d 0x90 tag [3, 0]) ∧
    (may → p.length = 24 → bad → exec (.setFrame dt tag p) s = s.replies d 0x90 tag [4, 0]) ∧
    (may → p.length = 24 → ¬bad → moved → exec (.setFrame dt tag p) s =
      s.replies ((d.setTrv { d.trv with frame := some x, homed := false, state := .unhomed }).stopSampling.setChanged true)
        0x90 tag [0, clamped]) ∧
    (may → p.length = 24 → ¬bad → ¬moved → away → exec (.setFrame dt tag p) s =
      s.replies ((d.setTrv { d.trv with frame := some x, state := .halted, resume := none }).stopSampling.setChanged true)
        0x90 tag [0, clamped]) ∧
    (may → p.length = 24 → ¬bad → ¬moved → ¬away → exec (.setFrame dt tag p) s =
      s.replies (d.setTrv { d.trv with frame := some x }) 0x90 tag [0, clamped])

/-- LEGAL_STEP (R4, R15): the table of steps, the first sampling only recording; a step moves the counter by one and restarts the
rest timer. In SCAN, and in the run-ups of APPROACH and TURN, a step can do more (`ScanningSteps`, `RunUpEntersScan`); while a move or
a braking runs there it only counts. A step of a homed head across the end of the
coordinate sets the wrapped value and is a position loss with cause RANGE whose value holds the count before it (R6). -/
def Obligations.LegalStepCounts : Prop :=
  ∀ (s : State) (dt : Nat) (a0 b0 a b : Bool),
    let d := s.dev.advance dt
    let x := d.trv.counter
    let stepped (n : Nat) : Device := d.setTrv { d.trv with sampling := some (a, b), counter := n, restTimer := some (d.clk + 100000) }
    let still := d.trv.state ≠ .scan ∧ ((d.trv.state = .approach ∨ d.trv.state = .turn) → ∀ side, d.trv.motion ≠ .runUp side)
    let up := (a0, b0, a, b) ∈ [(false, false, true, false), (true, true, false, true), (true, false, true, true),
      (false, true, false, false)]
    let down := (a0, b0, a, b) ∈ [(false, true, true, true), (true, false, false, false), (false, false, false, true),
      (true, true, true, false)]
    d.pins.reset = false → x ≤ 262143 →
    (d.trv.sampling = none → exec (.legalStep dt a b) s = s.ends (d.setTrv { d.trv with sampling := some (a, b) })) ∧
    (d.trv.sampling = some (a0, b0) →
      (a = a0 → b = b0 → exec (.legalStep dt a b) s = s.ends d) ∧
      (up → x < 262143 → still → exec (.legalStep dt a b) s = s.ends (stepped (x + 1))) ∧
      (down → 0 < x → still → exec (.legalStep dt a b) s = s.ends (stepped (x - 1))) ∧
      (up → x = 262143 → d.trv.homed = false → still → exec (.legalStep dt a b) s = s.ends (stepped 0)) ∧
      (down → x = 0 → d.trv.homed = false → still → exec (.legalStep dt a b) s = s.ends (stepped 262143)) ∧
      (up → x = 262143 → d.trv.homed = true → exec (.legalStep dt a b) s = s.ends ((stepped 0).losePosition 3 262143)) ∧
      (down → x = 0 → d.trv.homed = true → exec (.legalStep dt a b) s = s.ends ((stepped 262143).losePosition 3 0)))

/-- A step while a scan runs (R29, R30, R37, R49, R50), the head in the direction of the scan: off the next boundary and short of the
range end it only counts; against the direction it only counts; onto the next boundary it closes the open sample with everything as it
stands and opens the next one; at or past the far end the traverse enters TURN, where the scan closes COMPLETE, the plan counts it,
the pending settings are applied, told by a DONE with APPLIED, and bound it, an epoch starting where they cut otherwise, and the head
brakes. A record counts for the tables it was converted with (R91; `TableReadsBack` says how), is placed in the slice of its midpoint
(R93 to R95), and goes through the channel supervision (R52, R53). A close (R97) makes the scan record LATEST with its slice values,
flags and summary (R98 to R100, R102); a COMPLETE one then creates, reseeds or folds FILTERED with its summary (R103, R104), evaluates
every enabled window over the slices that count (R105, R116 to R124; a run of them is `WindowPersistence`), raises and lowers their
conditions, and counts for the reference set (R74); an aborted one leaves all of these (R101); the report is prepared, skipped or not
due (R106). -/
def Obligations.ScanningSteps : Prop :=
  (∀ (s : State) (dt : Nat) (a b : Bool) (r : EffRange) (k : ScanSettings),
    let d := s.dev.advance dt
    ∀ (up : Bool) (n : Nat) (a0 b0 : Bool), d.trv.sampling = some (a0, b0) → (a != a0) = !(b != b0) → up = stepUp a0 b0 a b →
    n = (if up then d.trv.counter + 1 else d.trv.counter - 1) → 0 < d.trv.counter → d.trv.counter < 262143 →
    d.pins.reset = false → d.trv.state = .scan → d.trv.openCmd = true → d.trv.range = some r → d.trv.active = some k →
    let m := d.setTrv { d.trv with sampling := some (a, b), counter := n, restTimer := some (d.clk + 100000) }
    let forward := (up = true ↔ d.trv.scanDir = .ds)
    let atEnd := if up then r.high ≤ n else (n : Int) ≤ r.low
    (¬forward → exec (.legalStep dt a b) s = s.ends m) ∧
    (forward → ¬atEnd → d.acq.next ≠ some n → exec (.legalStep dt a b) s = s.ends m) ∧
    (forward → ¬atEnd → d.acq.next = some n → exec (.legalStep dt a b) s = s.ends m.crossBoundary) ∧
    (forward → d.acq.next = some n → m.crossBoundary.acq.sample = some ⟨.position, n, d.clk, 0, 0, 0, 0, 0, d.pins.sp, false, false⟩ ∧
      m.crossBoundary.acq.next = (if up then (if (n : Int) + k.pitch ≤ r.high then some (n + k.pitch) else none)
        else if r.low + k.pitch ≤ n then some (n - k.pitch) else none) ∧
      m.crossBoundary.trv = m.trv ∧ m.crossBoundary.std = d.std ∧ m.crossBoundary.brk = d.brk ∧ m.crossBoundary.win = d.win ∧
      m.crossBoundary.pins = d.pins ∧ m.crossBoundary.prf.latest = d.prf.latest ∧ m.crossBoundary.tells d [] ∧
      (d.acq.sample = none → m.crossBoundary.acq.last = d.acq.last ∧ m.crossBoundary.acq.dead = d.acq.dead ∧
        m.crossBoundary.acq.flagged = d.acq.flagged ∧ m.crossBoundary.cnv = d.cnv ∧ m.crossBoundary.alm = d.alm) ∧
      ∀ o ∈ d.acq.sample,
        let q : Sample := ⟨o.gating, o.start, n, min (max 1 (d.clk - o.openedAt)) 4294967295, o.bw, o.mw, o.mr, o.calHigh, o.calTotal,
          if o.changed then .mixed else if o.spAtOpen then .all else .none, d.acq.speed, d.now,
          o.sat || decide (4294967295 < d.clk - o.openedAt)⟩
        let record := convertRecord d.cnv d.std.ref true q
        m.crossBoundary.supervisedFrom d q ∧ m.crossBoundary.cnv = d.cnv.counted record ∧
        (∀ i : Fin 24, i ≠ srcChannelFault → (m.crossBoundary.entry i).live = (d.entry i).live ∧
          (m.crossBoundary.entry i).value = (d.entry i).value) ∧
        m.crossBoundary.prf.openScan = d.prf.openScan.map (fun w => w.take record)) ∧
    (forward → atEnd → ∃ e : Device, exec (.legalStep dt a b) s = s.ends e ∧
      let x := if d.acq.next = some n then m.crossBoundary else m
      e.trv.state = .turn ∧ e.trv.counter = n ∧ e.trv.target = 0 ∧ e.trv.openCmd = true ∧ e.trv.pending = none ∧
      let z := x.closeScan .complete
      e.prf.openScan = none ∧ e.prf.latest = z.prf.latest ∧ e.prf.report = z.prf.report ∧ e.prf.skip = z.prf.skip ∧
      e.win = z.win ∧ e.std = z.std ∧ e.alm = z.alm ∧ e.cnv = z.cnv ∧
      (d.trv.pending = none → e.prf.filtered = z.prf.filtered ∧ e.prf.reseed = z.prf.reseed) ∧
      (∀ q f, d.trv.pending = some q → d.trv.frame = some f →
        let turn : Int := ((10 * q.2.speed ^ 2 + f.accel - 1) / f.accel : Nat)
        if k.pitch = q.2.pitch ∧ k.p0 = q.2.p0 ∧ k.width = q.2.width ∧ k.count = q.2.count ∧
          r.low = max (q.2.low : Int) (f.softLow + turn) ∧ r.high = min (q.2.high : Int) (f.softHigh - turn) then
          e.prf.filtered = z.prf.filtered ∧ e.prf.reseed = z.prf.reseed
        else e.prf.filtered = none ∧ e.prf.reseed = true) ∧
      e.acq = { x.acq with sample := none, next := none, sampleTimer := none } ∧ e.tells d (d.appliedDone 6) ∧
      e.trv.enable = d.trv.enable ∧
      e.trv.commanded = d.trv.commanded ∧ e.brk = d.brk ∧ e.pins = d.pins ∧
      (d.trv.pending = none → e.trv.active = some k ∧ e.trv.planCount = d.trv.planCount - 1) ∧
      (∀ q ∈ d.trv.pending, e.trv.active = some q.2 ∧ e.trv.planCount = min (d.trv.planCount - 1) q.2.base) ∧
      e.trv.motion = .braking (decide (e.trv.planCount = 0)) ∧
      e.trv.scanDir = (if e.trv.planCount = 0 then d.trv.scanDir else d.trv.scanDir.opposite) ∧
      e.trv.op = d.trv.op.map (fun o => if e.trv.planCount = 0 ∧ (e.trv.active.map ScanSettings.autoReload).getD false = true then
        { o with stdDue := true, reloadDue := true } else o))) ∧
  (∀ (w : OpenScan) (r : ConvRecord), w.slices.length = w.map.count → 0 < w.map.width →
    let mid := (r.sample.start + r.sample.stop) / 2
    let plus (n : Nat) (v : Option Nat) : Nat := if v.isSome then min (n + 1) 65535 else n
    let add (a : SliceAcc) : SliceAcc := match r.form with
      | .converted => { a with
          n := min (a.n + 1) 65535, bwSum := a.bwSum + r.bw.getD 0, bwCount := plus a.bwCount r.bw,
          waterSum := a.waterSum + r.water.getD 0, waterCount := plus a.waterCount r.water,
          calSum := a.calSum + r.cal.getD 0, calCount := plus a.calCount r.cal,
          clampMark := a.clampMark || [r.bwFlags, r.waterFlags, r.calFlags].any (fun f => f.clamp || f.underEnd || f.overEnd) }
      | .raw => { a with n := min (a.n + 1) 65535 }
      | .edge => { a with edgeMark := true }
      | .offSheet => { a with offSheet := min (a.offSheet + 1) 65535 }
    w.take r = { w with
      speedSum := w.speedSum + r.sample.speed, speedCount := w.speedCount + 1,
      minAll := if r.sample.sheet = .all then some (min mid (w.minAll.getD mid)) else w.minAll,
      maxAll := if r.sample.sheet = .all then some (max mid (w.maxAll.getD mid)) else w.maxAll,
      slices := w.slices.mapIdx (fun i a =>
        if w.map.p0 + i * w.map.width ≤ mid ∧ mid < w.map.p0 + (i + 1) * w.map.width then add a else a) }) ∧
  ∀ (d : Device) (w : OpenScan) (k : ScanSettings) (c : Completion), d.prf.openScan = some w → d.trv.active = some k →
    let e := d.closeScan c
    let mean (sum count : Nat) : Option Nat := if count = 0 then none else some ((sum + count / 2) / count)
    let slice (a : SliceAcc) : Slice :=
      { bw := mean a.bwSum a.bwCount, water := mean a.waterSum a.waterCount, cal := mean a.calSum a.calCount,
        moisture := if a.bwCount = 0 ∨ a.waterCount = 0 ∨ a.bwSum = 0 then none
          else some (min 10000 ((a.waterSum * 10000 + a.bwSum / 2) / a.bwSum)),
        dry := match mean a.bwSum a.bwCount, mean a.waterSum a.waterCount with
          | some b, some v => some (b - v)
          | _, _ => none,
        notScanned := decide (a.n = 0 ∧ a.offSheet = 0 ∧ a.edgeMark = false),
        offSheet := decide (a.n = 0 ∧ 0 < a.offSheet ∧ a.edgeMark = false), weak := decide (0 < a.n ∧ a.n < k.minSamples),
        edge := a.edgeMark, clamped := a.clampMark, n := a.n, valid := decide (k.minSamples ≤ a.n) }
    let summary (vs : List Nat) : Option MeanRange :=
      if vs = [] then none else some ⟨vs.sum / vs.length, vs.foldl max 0 - vs.foldl min (vs.headD 0)⟩
    let slices := w.slices.map slice
    let valid := slices.filter (fun x => x.valid)
    let scan : Profile :=
      { number := w.number, dir := w.dir, startTime := w.startTime, endTime := d.now, completion := c, map := w.map,
        tsEdge := w.minAll, dsEdge := w.maxAll, meanSpeed := if w.speedCount = 0 then none else some (w.speedSum / w.speedCount),
        validCount := valid.length, bw := summary (valid.filterMap Slice.bw), moisture := summary (valid.filterMap Slice.moisture),
        cal := summary (valid.filterMap Slice.cal), slices := slices }
    let some5 (x : Slice) : Bool := x.bw.isSome || x.water.isSome || x.cal.isSome || x.moisture.isSome || x.dry.isSome
    let moved (f v : Option Nat) : Option Nat := match v with
      | none => f
      | some v => some (match f with
        | none => v
        | some f => filterStep k.weight f v)
    let first (x : Slice) : Slice :=
      if x.valid then { x with n := if some5 x then 1 else 0 }
      else { x with bw := none, water := none, cal := none, moisture := none, dry := none, n := 0 }
    let next (f x : Slice) : Slice :=
      if x.valid then { x with
        bw := moved f.bw x.bw, water := moved f.water x.water, cal := moved f.cal x.cal, moisture := moved f.moisture x.moisture,
        dry := moved f.dry x.dry, n := if some5 x then min 255 (f.n + 1) else f.n }
      else { x with bw := f.bw, water := f.water, cal := f.cal, moisture := f.moisture, dry := f.dry, n := f.n }
    let holding (start : Nat) (l : List Slice) : Profile := { scan with
      startTime := start, completion := .complete, slices := l, validCount := (l.filter (fun x => decide (0 < x.n))).length,
      bw := summary (l.filterMap Slice.bw), moisture := summary (l.filterMap Slice.moisture),
      cal := summary (l.filterMap Slice.cal) }
    let filtered : Profile := match d.prf.filtered with
      | none => holding d.now (slices.map first)
      | some f => if d.prf.reseed then holding d.now (slices.map first) else holding f.startTime (List.zipWith next f.slices slices)
    e.prf.openScan = none ∧ e.prf.latest = some scan ∧ e.prf.scanNumber = d.prf.scanNumber ∧ e.prf.ring = d.prf.ring ∧
    e.prf.batch = d.prf.batch ∧ e.trv = d.trv ∧ e.acq = d.acq ∧ e.cnv = d.cnv ∧ e.brk = d.brk ∧ e.pins = d.pins ∧
    (c ≠ .complete → e.prf.filtered = d.prf.filtered ∧ e.prf.reseed = d.prf.reseed ∧ e.win = d.win ∧ e.std = d.std ∧
      e.alm = d.alm ∧ e.lnk = d.lnk) ∧
    (c = .complete → e.prf.filtered = some filtered ∧ e.prf.reseed = false ∧
      e.std = { d.std with ref := d.std.ref.map (fun r => { r with scansSince := min (r.scansSince + 1) 4294967295 }) } ∧
      ∀ n : Fin 8,
        let v := d.window n
        let u := e.window n
        ((∀ f, v.definition = some f → f.enabled = false) → u = v) ∧
        (∀ f, v.definition = some f → f.enabled = true →
          let given (x : Slice) : Option Nat := match f.meas with
            | .bw => x.bw
            | .moist => x.moisture
            | .dry => x.dry
            | .cal => x.cal
          let values : List Nat := match f.source with
            | .latest => (((slices.drop f.base).take (2 ^ f.exponent)).filter (fun x => x.valid)).filterMap given
            | .filtered => ((filtered.slices.drop f.base).take (2 ^ f.exponent)).filterMap given
          let value := values.sum / values.length
          u = v.evaluated f w.number values ∧
          (values = [] → u = { v with eval := some ⟨w.number, .noData, none, 0⟩ }) ∧
          (values ≠ [] → u.eval = some ⟨w.number,
            if f.high.any (fun h => decide (h < value)) then .above
            else if f.low.any (fun l => decide (value < l)) then .below else .within, some value, values.length⟩) ∧
          (u.state = .excursion → v.state ≠ .excursion → (d.entry (srcWindow n)).state = .idle →
            (e.entry (srcWindow n)).value = some value)) ∧
        e.cond (srcWindow n) = (if u.state = .excursion ∧ v.state ≠ .excursion then true
          else if v.state = .excursion ∧ u.state ≠ .excursion then false else d.cond (srcWindow n))) ∧
    (k.source ≠ 1 → k.source ≠ 2 ∨ c ≠ .complete → e.prf.report = d.prf.report ∧ e.prf.skip = d.prf.skip) ∧
    (k.source = 1 ∨ k.source = 2 ∧ c = .complete →
      let p := if k.source = 1 then scan else filtered
      let src : ProfileSource := if k.source = 1 then .latest else .filtered
      if d.lnk.link = .good ∧ d.prf.report.unbegun = [] then
        e.prf.report = ⟨⟨0xC5, 0, p.header src true 0⟩ ::
          (List.range ((w.map.count + 19) / 20)).map (fun i => ⟨0xC6, 0, p.segment src i⟩), 0⟩ ∧ e.prf.skip = d.prf.skip
      else e.prf.report = d.prf.report ∧ e.prf.skip = min (d.prf.skip + 1) 65535)

/-- The head comes to the range (R28, R31, R96, R48): the step that brings the counter to the range end at which the scan begins
enters SCAN, opens scan record and gating. The boundaries lie whole pitches from range low, up to range high; the next one is the
first that the head will reach, the smallest at or above the counter DS-ward, the largest at or below it TS-ward; where the counter
stands on it a sample opens at once and the next boundary is one pitch on. Any other step of a run-up only counts. That a counter past
that end counts as reaching it is the model's choice (log 17). -/
def Obligations.RunUpEntersScan : Prop :=
  ∀ (s : State) (dt : Nat) (a b : Bool) (r : EffRange) (k : ScanSettings) (side : Side),
    let d := s.dev.advance dt
    ∀ (up : Bool) (n : Nat) (a0 b0 : Bool), d.trv.sampling = some (a0, b0) → (a != a0) = !(b != b0) → up = stepUp a0 b0 a b →
    n = (if up then d.trv.counter + 1 else d.trv.counter - 1) → 0 < d.trv.counter → d.trv.counter < 262143 →
    d.pins.reset = false → d.trv.state = .approach ∨ d.trv.state = .turn → d.trv.motion = .runUp side → d.shutterFollows →
    d.trv.range = some r → d.trv.active = some k → 0 ≤ r.low → r.low ≤ r.high → 0 < k.pitch →
    let m := d.setTrv { d.trv with sampling := some (a, b), counter := n, restTimer := some (d.clk + 100000) }
    let reached := match side with
      | .ds => r.low ≤ (n : Int)
      | .ts => (n : Int) ≤ r.high
    (¬reached → exec (.legalStep dt a b) s = s.ends m) ∧
    (reached → ∃ e : Device, exec (.legalStep dt a b) s = s.ends e ∧
      e.trv.state = .scan ∧ e.trv.motion = .scanning ∧ e.trv.scanDir = side ∧ e.trv.openCmd = true ∧ e.trv.counter = n ∧
      e.trv.enable = d.trv.enable ∧ e.trv.commanded = d.trv.commanded ∧ e.trv.target = d.trv.target ∧ e.trv.op = d.trv.op ∧
      e.prf.scanNumber = (d.prf.scanNumber + 1) % 4294967296 ∧
      e.prf.openScan = some ⟨e.prf.scanNumber, side, d.now, ⟨k.p0, k.width, k.count⟩, 0, 0, none, none,
        List.replicate k.count SliceAcc.empty⟩ ∧ e.prf.latest = d.prf.latest ∧ e.prf.filtered = d.prf.filtered ∧
      e.acq.last = d.acq.last ∧ e.std = d.std ∧ e.cnv = d.cnv ∧ e.brk = d.brk ∧
      e.tells d [] ∧
      let first : Int := match side with
        | .ds => r.low + ((n - r.low + k.pitch - 1) / k.pitch) * k.pitch
        | .ts => r.low + ((n - r.low) / k.pitch) * k.pitch
      let next : Int := if first ≠ n then first else match side with
        | .ds => first + k.pitch
        | .ts => first - k.pitch
      e.acq.next = (if r.low ≤ next ∧ next ≤ r.high then some next.toNat else none) ∧
      e.acq.sample = (if first = n ∧ r.low ≤ first ∧ first ≤ r.high then
        some ⟨.position, n, d.clk, 0, 0, 0, 0, 0, d.pins.sp, false, false⟩ else none) ∧ e.acq.sampleTimer = none)

/-- ILLEGAL_TRANSITION (R5) and what a loss of position does (R6, R34, R43): both lines changed leave the counter, add one to the
fault count, at most 255; a homed head whose count reaches 4 loses its position with cause ENCODER. A loss clears the homed flag,
raises POSITION_LOST with cause and count, ends the operation with FAULT, or a standing STANDARDIZE with ABORTED; a moving head halts
with a stopping ramp, one that is halting goes on, a standing one becomes UNHOMED. The traverse state in the DONE is the model's
reading (log 6). -/
def Obligations.IllegalTransitionsCount : Prop :=
  (∀ (s : State) (dt : Nat) (a0 b0 : Bool),
    let d := s.dev.advance dt
    let n := min 255 (d.trv.faultCount + 1)
    let counted := d.setTrv { d.trv with sampling := some (!a0, !b0), faultCount := n }
    d.pins.reset = false → d.trv.sampling = some (a0, b0) →
    (¬(d.trv.homed = true ∧ n = 4) → exec (.illegalTransition dt (!a0) (!b0)) s = s.ends counted) ∧
    (d.trv.homed = true → n = 4 → exec (.illegalTransition dt (!a0) (!b0)) s = s.ends (counted.losePosition 1 d.trv.counter))) ∧
  ∀ (d : Device) (cause c : Nat),
    let e := d.losePosition cause c
    e.trv.homed = false ∧ e.trv.counter = d.trv.counter ∧ e.trv.op = none ∧ e.cond srcPositionLost = true ∧
    ((d.entry srcPositionLost).state = .idle → (e.entry srcPositionLost).value = some (cause * 16777216 + c) ∧
      (e.entry srcPositionLost).first = some d.now ∧ (e.entry srcPositionLost).repeats = 0) ∧
    e.trv.enable = d.trv.enable ∧ e.trv.commanded = d.trv.commanded ∧ e.brk = d.brk ∧ e.cnv = d.cnv ∧ e.pins = d.pins ∧
    (d.trv.enable = true → e.tells d (d.opDone 2 9)) ∧ (d.trv.enable = false → e.tells d (d.faultDone 0)) ∧
    (d.trv.enable = true → d.trv.state = .halted → e.trv.state = .halted ∧ e.trv.motion = d.trv.motion ∧ e.std = d.std ∧
      e.prf = d.prf) ∧
    (d.trv.enable = true → d.trv.state ≠ .halted → e.trv.state = .halted ∧ e.trv.motion = .stopping ∧ e.trv.target = 0 ∧
      e.trv.resume = none ∧ e.trv.openCmd = false ∧ e.prf.openScan = none ∧
      ∀ w ∈ d.prf.openScan, e.prf.latest =
        some (w.finish ((d.trv.active.map ScanSettings.minSamples).getD 1) d.now .abortedFault)) ∧
    (d.trv.enable = false → e.trv.state = .unhomed ∧ e.trv.openCmd = false ∧ e.std.phase = .idle ∧ e.std.ref = d.std.ref)

/-- HOME_SWITCH_CLOSE (R8, R9, R23): in the seek it completes the homing: the counter takes the home offset, the fault count is
cleared, the homed flag set, POSITION_LOST falls, and the head goes on to the park position, where, within 20 fc of it, pending settings
are applied and the operation is over with COMPLETE, and toward a closed limit switch it ends in FAULT; with the homed flag set it is a
home check against the tolerance; else it is not used. The traverse state in those DONEs is the model's reading (log 6). -/
def Obligations.HomeSwitchCloses : Prop :=
  ∀ (s : State) (dt : Nat) (f : FrameRecord),
    let d := s.dev.advance dt
    let m := d.setPins { d.pins with home := true }
    let off := Machine.dist d.trv.counter f.homeOffset
    d.pins.reset = false → d.pins.home = false → d.trv.frame = some f →
    (d.trv.motion ≠ .seek → d.trv.homed = false → exec (.homeSwitchClose dt) s = s.ends m) ∧
    (d.trv.motion ≠ .seek → d.trv.homed = true → off ≤ f.homeTolerance → exec (.homeSwitchClose dt) s = s.ends m) ∧
    (d.trv.motion ≠ .seek → d.trv.homed = true → f.homeTolerance < off →
      exec (.homeSwitchClose dt) s = s.ends (m.losePosition 2 d.trv.counter)) ∧
    (d.trv.motion = .seek → ∃ e : Device, exec (.homeSwitchClose dt) s = s.ends e ∧ e.pins = m.pins ∧
      e.trv.counter = f.homeOffset ∧ e.trv.faultCount = 0 ∧ e.trv.homed = true ∧ e.cond srcPositionLost = false ∧
      e.trv.frame = some f ∧ e.brk = d.brk ∧ e.cnv = d.cnv ∧
      let toward : Side := if f.homeOffset < f.park then .ds else .ts
      (d.trv.enable = true → f.softLow ≤ f.park → f.park ≤ f.softHigh → 20 < Machine.dist f.homeOffset f.park →
        (d.pins.limit toward = false → e.trv.state = .parking ∧ e.trv.motion = .move f.park f.travelSpeed .park ∧
          e.trv.enable = true ∧ e.trv.commanded = d.trv.commanded ∧ e.trv.op = d.trv.op ∧ e.tells d []) ∧
        (d.pins.limit toward = true → e.trv.state = .halted ∧ e.trv.enable = false ∧ e.trv.op = none ∧ e.tells d (d.faultDone 9))) ∧
      (∀ o, d.trv.op = some o → o.kind = .home → d.trv.resume = none → f.softLow ≤ f.park → f.park ≤ f.softHigh →
        Machine.dist f.homeOffset f.park ≤ 20 →
        e.trv.state = .parked ∧ e.trv.enable = false ∧ e.trv.commanded = 0 ∧ e.trv.op = none ∧ e.trv.pending = none ∧
        e.tells d (d.appliedDone 2 ++ [o.done 0 2 255])))

/-- The limit switches and the opening of the HOME switch (R7, R16, R43): a closure raises OVERTRAVEL with the switch code, and, but
for the TS switch in the back-off, halts at once, the operation ending FAULT, a STANDARDIZE ABORTED (R34; the traverse state in the DONE
is the model's reading, log 6); OVERTRAVEL falls once both are open; the back-off ends in the event in which HOME
and TS are both open: the head is then driven TS-ward. -/
def Obligations.FrameSwitchesAct : Prop :=
  ∀ (s : State) (dt : Nat) (side : Side),
    let d := s.dev.advance dt
    let withLimit (v : Bool) : Device := d.setPins (match side with
      | .ts => { d.pins with limitTs := v }
      | .ds => { d.pins with limitDs := v })
    let code (x : Device) : Nat := (if x.pins.limitTs then 1 else 0) + (if x.pins.limitDs then 2 else 0)
    let raised := (withLimit true).rise srcOvertravel (code (withLimit true) * 16777216 + d.trv.counter)
    let backedOff (x : Device) : Device :=
      if x.trv.motion = .backOff ∧ x.pins.home = false ∧ x.pins.limitTs = false then x.setTrv { x.trv with
        motion := .reversing, target := -(((x.trv.frame.map FrameRecord.homingSpeed).getD 0 * 100 : Nat) : Int) }
      else x
    d.pins.reset = false →
    (d.pins.limit side = false → side = .ts → d.trv.motion = .backOff → exec (.limitSwitchClose dt side) s = s.ends raised) ∧
    (d.pins.limit side = false → ¬(side = .ts ∧ d.trv.motion = .backOff) →
      ∃ e : Device, exec (.limitSwitchClose dt side) s = s.ends e ∧ e.pins = (withLimit true).pins ∧
        e.cond srcOvertravel = true ∧ e.trv.enable = false ∧ e.trv.commanded = 0 ∧ e.trv.motion = .rest ∧
        e.trv.counter = d.trv.counter ∧ e.trv.homed = d.trv.homed ∧ e.trv.op = none ∧ e.prf.openScan = none ∧
        e.std.phase = .idle ∧ e.std.ref = d.std.ref ∧ e.brk = d.brk ∧ e.cnv = d.cnv ∧ e.tells d (d.faultDone 9) ∧
        e.trv.state = (if d.trv.homed = false ∧ d.trv.enable = false ∧ d.trv.restTimer = none then .unhomed else .halted) ∧
        ((d.entry srcOvertravel).state = .idle → (e.entry srcOvertravel).repeats = 0 ∧ (e.entry srcOvertravel).first = some d.now ∧
          (e.entry srcOvertravel).value = some (code (withLimit true) * 16777216 + d.trv.counter)) ∧
        ((d.entry srcOvertravel).state ≠ .idle → (e.entry srcOvertravel).repeats = min ((d.entry srcOvertravel).repeats + 1) 65535 ∧
          (e.entry srcOvertravel).value = (d.entry srcOvertravel).value)) ∧
    (d.pins.limit side = true → d.pins.limit side.opposite = false →
      exec (.limitSwitchOpen dt side) s = s.becomes (backedOff ((withLimit false).fallIfActive srcOvertravel))) ∧
    (d.pins.limit side = true → d.pins.limit side.opposite = true →
      exec (.limitSwitchOpen dt side) s = s.becomes (backedOff (withLimit false))) ∧
    (d.pins.home = true →
      exec (.homeSwitchOpen dt) s = s.becomes (backedOff (d.setPins { d.pins with home := false })))

/-- Drive supervision (R13, R14, R15, R43): READY falling with ENABLE asserted is a drive fault with cause READY_LOST, a stall
interval in which the counter went less than 40 fc the shorter way around one with cause STALL; else the next interval starts. A
drive fault halts at once: ENABLE low, speed zero, output low, rest timer restarted, the scan closed ABORTED_FAULT, the operation
ended with FAULT, a STANDARDIZE with ABORTED (the traverse state in the DONE is the model's reading, log 6). A HALTED traverse
without a position becomes UNHOMED when the rest timer expires with ENABLE low. An expiry brings the clock to the deadline (log 2). -/
def Obligations.DriveIsSupervised : Prop :=
  (∀ (s : State) (dt : Nat),
    let d := s.dev.advance dt
    let low := d.setPins { d.pins with ready := false }
    exec (.readyRise dt) s = s.becomes (d.setPins { d.pins with ready := true }) ∧
    (d.pins.reset = false → d.pins.ready = true → exec (.readyFall dt) s = s.ends (if d.trv.enable then low.driveFault 1 else low)) ∧
    (∀ i ∈ d.trv.stall, d.pins.reset = false →
      let x := d.setClk (max d.clk i.expiry)
      let far := min (Machine.dist i.noted d.trv.counter) (262144 - Machine.dist i.noted d.trv.counter)
      exec (.stallIntervalExpiry dt) s =
        s.ends (if far < 40 then x.driveFault 3 else x.setTrv { d.trv with stall := some ⟨d.trv.counter, x.clk + 500000⟩ })) ∧
    (∀ t, d.trv.restTimer = some t → d.pins.reset = false → d.shutterFollows →
      let x := d.setClk (max d.clk t)
      exec (.restTimerExpiry dt) s = s.ends (if d.trv.state = .halted ∧ d.trv.homed = false ∧ d.trv.enable = false then
        ((x.setTrv { d.trv with restTimer := none, state := .unhomed }).stopSampling.setChanged true)
        else x.setTrv { d.trv with restTimer := none }))) ∧
  ∀ (d : Device) (cause : Nat),
    let e := d.driveFault cause
    e.trv.enable = false ∧ e.trv.commanded = 0 ∧ e.trv.target = 0 ∧ e.trv.motion = .rest ∧
    (d.trv.enable = true → e.trv.speedRef = false ∧ e.trv.periodDue = none ∧ e.trv.highDue = none ∧ e.trv.stall = none ∧
      e.trv.restTimer = some (d.clk + 100000)) ∧
    e.trv.counter = d.trv.counter ∧ e.trv.homed = d.trv.homed ∧ e.trv.op = none ∧ e.prf.openScan = none ∧ e.std.phase = .idle ∧
    (∀ w ∈ d.prf.openScan, e.prf.latest =
      some (w.finish ((d.trv.active.map ScanSettings.minSamples).getD 1) d.now .abortedFault)) ∧
    e.cond srcDriveFault = true ∧ e.tells d (d.faultDone 9) ∧
    ((d.entry srcDriveFault).state = .idle → (e.entry srcDriveFault).value = some (cause * 16777216 + d.trv.counter)) ∧
    e.trv.state = (if d.trv.homed = false ∧ d.trv.enable = false ∧ d.trv.restTimer = none then .unhomed else .halted)

/-- A speed reference period starts (R10, R11, R12, R14, R21): one acceleration step of a 500th of the acceleration toward the
target, a positioning move setting its own target from the stopping distance, none toward a closed limit switch; DIRECTION from the
sign; the high time of 2 µs per mm/s; stall supervision from 20 mm/s. What the step leads to is `RampsEnd`. SPEED_REF_HIGH_TIME_END
drives the output low. The model's choices: a head on its destination counts as moving toward it (log 15), the speed stays where it is
while its target lies toward a closed switch (log 35), a reversal may cross zero inside one step (log 39), an expiry brings the clock to the
deadline (log 2). -/
def Obligations.SpeedReferencePeriod : Prop :=
  ∀ (s : State) (dt t : Nat) (f : FrameRecord),
    let d := s.dev.advance dt
    let x := d.setClk (max d.clk t)
    let c := d.trv.commanded
    let target : Int := match d.trv.motion with
      | .move dest speed _ =>
        if (d.trv.counter = dest ∨ d.trv.counter < dest ∧ 0 < c ∨ dest < d.trv.counter ∧ c < 0) ∧
          Machine.dist d.trv.counter dest ≤ (c.natAbs ^ 2 + 1000 * f.accel - 1) / (1000 * f.accel) then 0
        else if d.trv.counter < dest then (speed * 100 : Nat) else -((speed * 100 : Nat) : Int)
      | _ => d.trv.target
    let next : Int :=
      if target < 0 ∧ d.pins.limitTs = true ∨ 0 < target ∧ d.pins.limitDs = true then c
      else if (target - c).natAbs < f.accel / 5 then target
      else if c < target then c + (f.accel / 5 : Nat) else if target < c then c - (f.accel / 5 : Nat) else c
    let v := min 1000 (next.natAbs / 100)
    let ramped := x.setTrv { d.trv with
      target := target, commanded := next, highTime := 2 * v, lowTime := 2000 - 2 * v,
      direction := if 0 < next then true else if next < 0 then false else d.trv.direction,
      speedRef := decide (0 < v), periodDue := some (x.clk + 2000),
      highDue := if 0 < v ∧ v < 1000 then some (x.clk + 2 * v) else none,
      stall := if d.trv.enable = true ∧ 2000 ≤ next.natAbs then some (d.trv.stall.getD ⟨d.trv.counter, x.clk + 500000⟩) else none }
    (d.trv.periodDue = some t → d.trv.frame = some f → 0 < f.accel → d.pins.reset = false →
      exec (.speedRefPeriodStart dt) s = s.ends ramped.afterRamp) ∧
    (d.trv.highDue = some t → exec (.speedRefHighTimeEnd dt) s =
      s.becomes (x.setTrv { d.trv with speedRef := false, highDue := none }))

/-- What a ramp step leads to (R7, R15, R21, R24, R25, R26, R28, R31, R32, R33): nothing while the head is on its way; the seek once
the speed has left zero TS-ward; at speed zero, a move within 20 fc of its destination arrives and one farther creeps on at the homing
speed, a stopping ramp ends with ENABLE low and a STOP with it, STOPPED, a turn runs back at the range, or to the run-up point, or
parks. The arrival at the park position applies pending settings (APPLIED), ends HOME and PARK with COMPLETE and a SCAN with PLAN_DONE,
but takes a SCAN whose standardize is due to STANDARDIZING with a fresh collection. The traverse state in a DONE is log 6. -/
def Obligations.RampsEnd : Prop :=
  ∀ (d : Device) (f : FrameRecord), d.trv.frame = some f → d.trv.enable = true → d.shutterFollows →
    let e := d.afterRamp
    let t := d.trv
    let speed (side : Side) : Int := match side with
      | .ds => (((t.active.map ScanSettings.speed).getD 0 * 100 : Nat) : Int)
      | .ts => -(((t.active.map ScanSettings.speed).getD 0 * 100 : Nat) : Int)
    (t.motion = .rest ∨ t.motion = .backOff ∨ t.motion = .seek ∨ (∃ side, t.motion = .runUp side) ∨ t.motion = .scanning ∨
      t.motion = .hold → e = d) ∧
    (t.motion = .reversing → e = if t.commanded < 0 then d.setTrv { t with motion := .seek } else d) ∧
    (t.motion = .stopping → t.commanded ≠ 0 → e = d) ∧
    (t.motion = .stopping → t.commanded = 0 → e.trv.enable = false ∧ e.trv.motion = .rest ∧ e.trv.state = t.state ∧
      e.trv.restTimer = some (d.clk + 100000) ∧ e.trv.homed = t.homed ∧
      (∀ o, t.op = some o → e.trv.op = if o.kind = .stop then none else some o) ∧
      e.tells d (if d.opKind = some .stop then d.opDone 7 t.state.code else [])) ∧
    (∀ dest v p, t.motion = .move dest v p →
      (t.commanded ≠ 0 ∨ t.target ≠ 0 → e = d) ∧
      (t.commanded = 0 → t.target = 0 → 20 < Machine.dist t.counter dest → f.softLow ≤ dest → dest ≤ f.softHigh →
        d.pins.limit (if t.counter < dest then .ds else .ts) = false →
        e = d.setTrv { t with
          motion := .move dest f.homingSpeed p,
          target := if t.counter < dest then (f.homingSpeed * 100 : Nat) else -((f.homingSpeed * 100 : Nat) : Int) }) ∧
      (t.commanded = 0 → t.target = 0 → Machine.dist t.counter dest ≤ 20 →
        (p = .park → t.resume = none → (∀ o, t.op = some o → o.kind = .scan → o.stdDue = false) →
          (∀ o, t.op = some o → o.kind = .home ∨ o.kind = .park ∨ o.kind = .scan) →
          e.trv.state = .parked ∧ e.trv.enable = false ∧ e.trv.op = none ∧ e.trv.pending = none ∧
          e.tells d (d.appliedDone 2 ++ d.opDone (if d.opKind = some .scan then 3 else 0) 2)) ∧
        (p = .park → ∀ o, t.op = some o → o.kind = .scan → o.stdDue = true →
          e.collectsFrom d ∧ e.trv.op = some o ∧ e.trv.pending = none ∧ e.trv.resume = t.resume ∧ e.tells d (d.appliedDone 2)) ∧
        (p = .point → e.trv.state = .point ∧ e.trv.motion = .hold ∧ e.trv.enable = true ∧ e.trv.openCmd = true ∧
          e.trv.op = t.op ∧ e.prf.batchCount = 0 ∧
          e.acq.sample = some ⟨.time, t.counter, d.clk, 0, 0, 0, 0, 0, d.pins.sp, false, false⟩ ∧
          e.acq.sampleTimer = some (d.clk + (t.active.map ScanSettings.pointPeriod).getD 0 * 1000)) ∧
        (∀ side, p = .runUp side → d.pins.limit side = false → d.atRangeStart side = false →
          e = d.setTrv { t with motion := .runUp side, target := speed side, scanDir := side }))) ∧
    (∀ last r, t.motion = .braking last → t.range = some r →
      (t.commanded ≠ 0 → e = d) ∧
      (t.commanded = 0 → last = true → f.softLow ≤ f.park → f.park ≤ f.softHigh → 20 < Machine.dist t.counter f.park →
        d.pins.limit (if t.counter < f.park then .ds else .ts) = false →
        e.trv.state = .parking ∧ e.trv.motion = .move f.park f.travelSpeed .park ∧ e.trv.openCmd = false ∧ e.trv.op = t.op ∧
        e.tells d []) ∧
      (t.commanded = 0 → last = false → d.pins.limit t.scanDir = false →
        (match t.scanDir with | .ts => r.high < t.counter | .ds => (t.counter : Int) < r.low) →
        e = d.setTrv { t with motion := .runUp t.scanDir, target := speed t.scanDir }) ∧
      (t.commanded = 0 → last = false → r.turn ≤ r.low - f.softLow → r.low ≤ r.high → r.high + r.turn ≤ f.softHigh →
        (match t.scanDir with | .ts => (t.counter : Int) ≤ r.high | .ds => r.low ≤ t.counter) →
        let dest := (match t.scanDir with | .ts => r.high + r.turn | .ds => r.low - r.turn).toNat
        20 < Machine.dist t.counter dest → d.pins.limit (if t.counter < dest then .ds else .ts) = false →
        e.trv.state = t.state ∧ e.trv.motion = .move dest f.travelSpeed (.runUp t.scanDir) ∧ e.trv.op = t.op ∧
        e.trv.enable = true))

/-- The shutter (R17, R18, R40, R50, R51, R71) and the entry to a traverse state: OPEN is driven with the state; sampling stops;
HALTED and APPROACH clear the resume. Agreement of feedback and command, by a change of either, stops the mismatch timer and clears
SHUTTER, disagreement starts it for 500 ms; its expiry raises SHUTTER and fails a collection in progress: STD_FAIL with the code of
SHUTTER, a STANDARDIZE over with SHUTTER, a SCAN with STD_FAILED (R69, R73; the traverse state in the DONE: log 6). The model's
choices: a row that reports no change of level does nothing (log 11), an expiry brings the clock to the deadline (log 2). -/
def Obligations.ShutterIsSupervised : Prop :=
  (∀ (d : Device) (st : TravState),
    let e := d.goTo st
    e.trv.state = st ∧ e.trv.openCmd = (st = .standardizing ∨ st = .scan ∨ st = .turn ∨ st = .point : Bool) ∧
    e.trv.resume = (if st = .halted ∨ st = .approach then none else d.trv.resume) ∧ e.stateChanged = true ∧
    e.acq = { d.acq with sample := none, sampleTimer := none, next := none } ∧
    (d.trv.openCmd = st.opens → e.trv.mismatch = d.trv.mismatch ∧ e.alm = d.alm) ∧
    (d.trv.openCmd ≠ st.opens → d.pins.closed = st.opens → e.trv.mismatch = some (d.clk + 500000) ∧ e.alm = d.alm) ∧
    (d.trv.openCmd ≠ st.opens → d.pins.closed ≠ st.opens → e.trv.mismatch = none ∧ e.cond srcShutter = false ∧
      e.alm = (if d.cond srcShutter then d.fall srcShutter else d).alm) ∧
    e.trv.op = d.trv.op ∧ e.trv.counter = d.trv.counter ∧ e.trv.enable = d.trv.enable ∧ e.prf = d.prf ∧ e.std = d.std ∧
    e.brk = d.brk ∧ e.cnv = d.cnv ∧ e.win = d.win ∧ e.lnk = d.lnk) ∧
  ∀ (s : State) (dt t : Nat) (closed : Bool),
    let d := s.dev.advance dt
    let m := d.setPins { d.pins with closed := closed }
    let x := d.setClk (max d.clk t)
    let risen := (x.setTrv { d.trv with mismatch := none }).rise srcShutter (if d.trv.openCmd then 1 else 0)
    (d.pins.closed = closed → exec (.shutterFeedbackChange dt closed) s = s.becomes d) ∧
    (d.pins.reset = false → d.pins.closed ≠ closed → closed ≠ d.trv.openCmd → exec (.shutterFeedbackChange dt closed) s =
      s.becomes ((m.setTrv { d.trv with mismatch := none }).fallIfActive srcShutter)) ∧
    (d.pins.reset = false → d.pins.closed ≠ closed → closed = d.trv.openCmd → exec (.shutterFeedbackChange dt closed) s =
      s.becomes (m.setTrv { d.trv with mismatch := some (d.clk + 500000) })) ∧
    (d.pins.reset = false → d.trv.mismatch = some t → d.std.phase = .idle →
      exec (.shutterMismatchExpiry dt) s = s.ends risen) ∧
    (d.pins.reset = false → d.trv.mismatch = some t → d.std.phase ≠ .idle → d.trv.resume = none →
      ∃ e : Device, exec (.shutterMismatchExpiry dt) s = s.ends e ∧ e.trv.state = .parked ∧ e.trv.op = none ∧
        e.trv.openCmd = false ∧ e.trv.enable = false ∧ e.std.phase = .idle ∧ e.std.ref = d.std.ref ∧
        e.std.last.map StdLast.result = some .shutter ∧ e.cond srcStdFail = true ∧ e.brk = d.brk ∧ e.prf.latest = d.prf.latest ∧
        ((d.entry srcStdFail).state = .idle → (e.entry srcStdFail).value = some (4 * 16777216)) ∧ e.trv.pending = none ∧
        e.tells d (d.appliedDone 2 ++ (d.trv.op.map (fun o => o.done (if o.kind = .scan then 6 else 21) 2 21)).toList))

/-! ## Motion commands and scan settings -/

/-- The acceptance of motion commands (R20): the length first, then the table by traverse state, then the further checks in their
order; a command answered with OK starts nothing, lowers DRIVE_FAULT while READY is high and clears the resume. That POINT's length
is checked like the others is R20's first sentence. -/
def Obligations.MotionCommandsAreJudged : Prop :=
  ∀ (s : State) (dt : Nat) (tag : Byte) (p : List Byte),
    let d := s.dev.advance dt
    let st := d.trv.state
    let no (kind code : Byte) := s.replies d kind tag [code, 0]
    let busy := st = .standardizing ∨ st = .approach ∨ st = .scan ∨ st = .turn ∨ st = .point
    let standing := st = .halted ∧ d.trv.enable = false
    let ready := st = .parked ∨ standing ∧ d.trv.homed = true
    let answered := (if d.pins.ready then d.fallIfActive srcDriveFault else d).setTrv { d.trv with resume := none }
    let due := d.trv.planCount = 0 ∨ d.std.ref = none
    let usable (f : FrameRecord) (k : ScanSettings) : Prop :=
      let t : Int := ((10 * k.speed ^ 2 + f.accel - 1) / f.accel : Nat)
      max (k.low : Int) (f.softLow + t) + 2 * k.pitch ≤ min (k.high : Int) (f.softHigh - t)
    let later (kind : Byte) (c : Instr) : Prop :=
      (d.cond srcShutter = true → exec c s = no kind 5) ∧
      (d.cond srcShutter = false → d.brk.sheet ≠ .running → exec c s = no kind 7) ∧
      (d.cond srcShutter = false → d.brk.sheet = .running → d.lnk.link ≠ .good → exec c s = no kind 8)
    d.clear →
    (st = .homing ∨ busy ∨ st = .parking ∨ st = .halted ∧ d.trv.enable = true → exec (.home dt tag []) s = no 0x98 6) ∧
    (st = .unhomed ∨ st = .parked ∨ standing → d.trv.frame = none → exec (.home dt tag []) s = no 0x98 9) ∧
    (st = .unhomed ∨ st = .halted ∧ d.trv.homed = false → exec (.park dt tag []) s = no 0x99 5) ∧
    (st = .homing ∨ st = .parking → exec (.park dt tag []) s = no 0x99 6) ∧
    (st = .parked → exec (.park dt tag []) s = s.replies answered 0x99 tag [0, 0]) ∧
    (busy ∨ st = .halted ∧ d.trv.homed = true → d.trv.frame = none → exec (.park dt tag []) s = no 0x99 9) ∧
    (st = .unhomed ∨ standing ∧ d.trv.homed = false →
      exec (.scan dt tag []) s = no 0x9A 9 ∧ (p.length = 4 → exec (.point dt tag p) s = no 0x9B 9)) ∧
    (st = .homing ∨ busy ∨ st = .parking ∨ st = .halted ∧ d.trv.enable = true →
      exec (.scan dt tag []) s = no 0x9A 6 ∧ (p.length = 4 → exec (.point dt tag p) s = no 0x9B 6)) ∧
    (ready → d.trv.frame = none ∨ d.trv.active = none →
      exec (.scan dt tag []) s = no 0x9A 9 ∧ (p.length = 4 → exec (.point dt tag p) s = no 0x9B 9)) ∧
    (∀ f k, ready → d.trv.frame = some f → d.trv.active = some k →
      (¬usable f k ∨ due ∧ d.std.settings = none → exec (.scan dt tag []) s = no 0x9A 9) ∧
      (usable f k → ¬(due ∧ d.std.settings = none) → later 0x9A (.scan dt tag [])) ∧
      (p.length = 4 →
        let pos := field p 0 4
        (262143 < pos ∨ pos < f.softLow ∨ f.softHigh < pos → exec (.point dt tag p) s = no 0x9B 4) ∧
        (pos ≤ 262143 → f.softLow ≤ pos → pos ≤ f.softHigh → later 0x9B (.point dt tag p)))) ∧
    (st = .unhomed ∨ st = .halted → exec (.standardize dt tag []) s = no 0x9C 5) ∧
    (st = .homing ∨ busy ∨ st = .parking → exec (.standardize dt tag []) s = no 0x9C 6) ∧
    (st = .parked → d.std.settings = none → exec (.standardize dt tag []) s = no 0x9C 9) ∧
    (st = .parked → d.std.settings ≠ none →
      (d.cond srcShutter = true → exec (.standardize dt tag []) s = no 0x9C 5) ∧
      (d.cond srcShutter = false → d.lnk.link = .lost → exec (.standardize dt tag []) s = no 0x9C 8)) ∧
    (st = .unhomed ∨ st = .halted → exec (.stop dt tag []) s = s.replies answered 0x9D tag [0, 0])

/-- HOME begins (R7, R10, R13, R16, R20, R23, R40): with both switches open the seek TS-ward, else the back-off DS-ward, the homed
flag cleared and ENABLE asserted; with READY low, or a back-off toward a closed DS switch, the operation ends in a fault before
anything moves. The model's choices: the first speed period is due at once (log 29), READY is checked before the switch (log 13), the
back-off toward a closed DS switch ends at its start (log 14), ENABLE being asserted and dropped for it, so that the rest timer restarts
(log 33). -/
def Obligations.HomeBegins : Prop :=
  ∀ (s : State) (dt : Nat) (tag : Byte) (f : FrameRecord),
    let d := s.dev.advance dt
    let o : OpRecord := ⟨.home, tag, 0, false, false, false⟩
    let taken := if d.pins.ready then d.fallIfActive srcDriveFault else d
    let began (m : Motion) (target : Int) : Device := (taken.setTrv { d.trv with
      state := .homing, homed := false, resume := none, op := some o, enable := true, periodDue := some d.clk, motion := m,
      target := target }).stopSampling.setChanged true
    let back := d.pins.home = true ∨ d.pins.limitTs = true
    d.clear → d.shutterFollows → d.trv.enable = false → d.trv.frame = some f →
    (d.trv.state = .unhomed ∨ d.trv.state = .parked ∨ d.trv.state = .halted) →
    (d.pins.ready = true → ¬back → exec (.home dt tag []) s =
      s.replies (began .seek (-((f.homingSpeed * 100 : Nat) : Int))) 0x98 tag [1, 0]) ∧
    (d.pins.ready = true → back → d.pins.limitDs = false → exec (.home dt tag []) s =
      s.replies (began .backOff (f.homingSpeed * 100 : Nat)) 0x98 tag [1, 0]) ∧
    (d.pins.ready = false ∨ back ∧ d.pins.limitDs = true → ∃ e : Device, exec (.home dt tag []) s = s.replies e 0x98 tag [1, 0] ∧
      e.trv.enable = false ∧ e.trv.homed = false ∧ e.trv.op = none ∧ e.trv.resume = none ∧ e.trv.counter = d.trv.counter ∧
      e.trv.state = (if d.pins.ready = false ∧ d.trv.restTimer = none then .unhomed else .halted) ∧ e.brk = d.brk ∧
      (if d.pins.ready = false then e.cond srcDriveFault = true else e.cond srcOvertravel = true))

/-- PARK and STOP begin (R10, R15, R19, R20, R21, R24, R25, R26, R37, R40, R68): the operation in flight ends, its DONE with ABORTED
offered ahead of the new operation's own; a scan open closes ABORTED_COMMAND, a collection is abandoned. PARK leads to the move to the
park position, at once to PARKED within 20 fc of it and from STANDARDIZING: pending settings are applied (APPLIED) and PARK is over with
COMPLETE; with READY low, or toward a closed limit switch, it ends in FAULT before anything moves. STOP leads to HALTED: with ENABLE
asserted a stopping ramp runs, else the operation is over at once with STOPPED. The model's choices: the traverse state in a DONE is, for
the aborted operation, the one before it is left, else the one entered (log 6), READY is checked before the switch ahead (log 13), and a
stopping ramp runs even from commanded speed 0, ending at the ramp step that finds it (log 16). -/
def Obligations.ParkAndStopBegin : Prop :=
  ∀ (s : State) (dt : Nat) (tag : Byte) (f : FrameRecord),
    let d := s.dev.advance dt
    let st := d.trv.state
    let closed (e : Device) := e.prf.openScan = none ∧ e.acq.sample = none ∧ e.acq.sampleTimer = none ∧ e.brk = d.brk ∧
      e.cnv = d.cnv ∧ e.pins = d.pins ∧ e.std.ref = d.std.ref ∧ e.trv.resume = none ∧ e.trv.counter = d.trv.counter ∧
      e.trv.homed = d.trv.homed ∧ e.trv.openCmd = false ∧
      (∀ w ∈ d.prf.openScan, e.prf.latest =
        some (w.finish ((d.trv.active.map ScanSettings.minSamples).getD 1) d.now .abortedCommand))
    let aborted := d.opDone 1 st.code
    let parkDone (result state : Byte) : Frame := ⟨0xC1, tag, [0x19, result, 0, state, 255]⟩
    let toward : Side := if d.trv.counter < f.park then .ds else .ts
    d.clear →
    (d.trv.frame = some f → st = .approach ∨ st = .scan ∨ st = .turn ∨ st = .point ∨ st = .halted ∧ d.trv.homed = true →
      f.softLow ≤ f.park → f.park ≤ f.softHigh →
      ∃ e : Device, exec (.park dt tag []) s = s.replies e 0x99 tag [1, 0] ∧ closed e ∧
      (20 < Machine.dist d.trv.counter f.park → d.trv.enable = true ∨ d.pins.ready = true → d.pins.limit toward = false →
        e.trv.state = .parking ∧ e.trv.motion = .move f.park f.travelSpeed .park ∧ e.trv.enable = true ∧
        e.trv.commanded = d.trv.commanded ∧ e.trv.op = some ⟨.park, tag, 0, false, false, false⟩ ∧ e.trv.pending = d.trv.pending ∧
        e.tells d aborted) ∧
      (20 < Machine.dist d.trv.counter f.park → d.trv.enable = false → d.pins.ready = false →
        e.trv.state ≠ .parking ∧ e.trv.enable = false ∧ e.trv.op = none ∧ e.cond srcDriveFault = true ∧
        e.tells d (aborted ++ [parkDone 2 9])) ∧
      (20 < Machine.dist d.trv.counter f.park → d.trv.enable = true ∨ d.pins.ready = true → d.pins.limit toward = true →
        e.trv.state ≠ .parking ∧ e.trv.enable = false ∧ e.trv.op = none ∧ e.cond srcOvertravel = true ∧
        e.tells d (aborted ++ [parkDone 2 9])) ∧
      (Machine.dist d.trv.counter f.park ≤ 20 →
        e.trv.state = .parked ∧ e.trv.enable = false ∧ e.trv.commanded = 0 ∧ e.trv.op = none ∧ e.trv.pending = none ∧
        e.tells d (aborted ++ d.appliedDone 2 ++ [parkDone 0 2]))) ∧
    (d.trv.frame = some f → st = .standardizing → ∃ e : Device, exec (.park dt tag []) s = s.replies e 0x99 tag [1, 0] ∧ closed e ∧
      e.trv.state = .parked ∧ e.trv.enable = false ∧ e.trv.op = none ∧ e.trv.pending = none ∧ e.std.phase = .idle ∧
      (d.std.phase ≠ .idle → e.std.last.map StdLast.result = some .aborted) ∧
      e.tells d (aborted ++ d.appliedDone 2 ++ [parkDone 0 2])) ∧
    (st ≠ .unhomed → st ≠ .halted → ∃ e : Device, exec (.stop dt tag []) s = s.replies e 0x9D tag [1, 0] ∧ closed e ∧
      e.std.phase = .idle ∧ (d.std.phase ≠ .idle → e.std.last.map StdLast.result = some .aborted) ∧
      e.trv.pending = d.trv.pending ∧ e.trv.enable = d.trv.enable ∧
      (d.trv.enable = true → e.trv.state = .halted ∧ e.trv.motion = .stopping ∧ e.trv.target = 0 ∧
        e.trv.commanded = d.trv.commanded ∧ e.trv.op = some ⟨.stop, tag, 0, false, false, false⟩ ∧ e.tells d aborted) ∧
      (d.trv.enable = false → e.trv.op = none ∧ e.tells d (aborted ++ [⟨0xC1, tag, [0x1D, 7, 0, 9, 255]⟩]) ∧
        e.trv.state = if d.trv.homed = false ∧ d.trv.restTimer = none then .unhomed else .halted))

/-- SCAN, POINT and STANDARDIZE begin (R20, R22, R27, R28, R33, R34, R51, R62): a due standardize at PARKED runs in STANDARDIZING with
a fresh collection and time-gated sample; a SCAN that needs none approaches the run-up point on its side of the range's midpoint, or
runs up at once within 20 fc of it; one that needs a standardize in HALTED parks first; POINT moves to its position, or holds there at
once. The recomputed range is the one in force; where it differs from the one last used, the operation is ADJUSTED and an epoch
starts: FILTERED is emptied and reseeded (R19, R22, R104). With READY low a motion, and POINT's holding, ends at its start in a drive
fault (R13), and a motion toward a closed limit switch in an overtravel (R16; that READY is checked first is log 13), its DONE
carrying FAULT (the traverse state in it: log 6); a standardize that is due in PARKED needs neither. -/
def Obligations.MeasuringBegins : Prop :=
  ∀ (s : State) (dt : Nat) (tag : Byte) (p : List Byte) (f : FrameRecord) (k : ScanSettings),
    let d := s.dev.advance dt
    let t : Nat := (10 * k.speed ^ 2 + f.accel - 1) / f.accel
    let low := max (k.low : Int) (f.softLow + t)
    let high := min (k.high : Int) (f.softHigh - t)
    let due := d.trv.planCount = 0 ∨ d.std.ref = none
    let kept (e : Device) := e.trv.resume = none ∧ e.trv.counter = d.trv.counter ∧ e.trv.homed = d.trv.homed ∧
      (d.trv.pending = none → e.trv.active = d.trv.active ∧ e.trv.planCount = d.trv.planCount) ∧ e.brk = d.brk ∧
      e.cnv = d.cnv ∧ e.win = d.win ∧ e.pins = d.pins ∧ e.std.ref = d.std.ref ∧ e.prf.latest = d.prf.latest
    let moved : Bool := match d.trv.range with
      | none => true
      | some r => decide (r.low ≠ low ∨ r.high ≠ high)
    let epoch (e : Device) := (moved = true → e.prf.filtered = none ∧ e.prf.reseed = true) ∧
      (moved = false → d.trv.pending = none → e.prf.filtered = d.prf.filtered ∧ e.prf.reseed = d.prf.reseed)
    let scanRec : OpRecord :=
      ⟨.scan, tag, 0, decide (d.trv.planCount = 0) || d.std.ref.isNone, decide (d.trv.planCount = 0), moved⟩
    let pointRec : OpRecord := ⟨.point, tag, field p 0 4, false, false, moved⟩
    let movesTo (e : Device) (dest : Nat) (v : Nat) (m : Purpose) := e.trv.motion = .move dest v m ∧ e.trv.enable = true ∧
      e.trv.target = if d.trv.counter < dest then ((v * 100 : Nat) : Int) else -((v * 100 : Nat) : Int)
    let ahead (dest : Nat) : Side := if d.trv.counter < dest then .ds else .ts
    let clearTo (dest : Nat) := d.pins.ready = true ∧ d.pins.limit (ahead dest) = false
    let shutTo (dest : Nat) := d.pins.ready = true ∧ d.pins.limit (ahead dest) = true
    let faulted (e : Device) (o : OpRecord) := e.trv.op = none ∧ e.trv.enable = false ∧ e.cond srcDriveFault = true ∧
      e.tells d [o.done 2 9 255] ∧ e.trv.state = if d.trv.homed = false ∧ d.trv.restTimer = none then .unhomed else .halted
    let limited (e : Device) (o : OpRecord) := e.trv.op = none ∧ e.trv.enable = false ∧ e.cond srcOvertravel = true ∧
      e.tells d [o.done 2 9 255] ∧ e.trv.state = .halted
    d.clear → d.shutterFollows → d.measuresInPlace → d.trv.enable = false → d.trv.commanded = 0 →
    (d.trv.state = .parked ∨ d.trv.state = .halted ∧ d.trv.homed = true) →
    (d.trv.frame = some f → d.trv.active = some k → f.softLow ≤ f.park → f.park ≤ f.softHigh → 0 ≤ low - t →
      low + 2 * k.pitch ≤ high → (due → d.std.settings ≠ none) → d.cond srcShutter = false → d.brk.sheet = .running →
      d.lnk.link = .good → ∃ e : Device, exec (.scan dt tag []) s = s.replies e 0x9A tag [1, 0] ∧ kept e ∧ epoch e ∧
      (d.trv.pending = none → e.trv.range = some ⟨low, high, t⟩) ∧
      (due → d.trv.state = .halted → Machine.dist d.trv.counter f.park ≤ 20 →
        e.collectsFrom d ∧ e.trv.op = some scanRec ∧ e.trv.pending = none ∧ e.tells d (d.appliedDone 2)) ∧
      (due → d.trv.state = .parked → e.collectsFrom d ∧ e.trv.op = some scanRec ∧ e.tells d []) ∧
      (due → d.trv.state = .halted → 20 < Machine.dist d.trv.counter f.park → clearTo f.park →
        e.trv.op = some scanRec ∧ e.trv.state = .parking ∧ movesTo e f.park f.travelSpeed .park ∧ e.tells d []) ∧
      (due → d.trv.state = .halted → 20 < Machine.dist d.trv.counter f.park →
        (d.pins.ready = false → faulted e scanRec) ∧ (shutTo f.park → limited e scanRec)) ∧
      (¬due → e.trv.op = some scanRec ∨ e.trv.op = none) ∧ (¬due → d.pins.ready = false → faulted e scanRec) ∧
      (¬due →
        let side : Side := if (d.trv.counter : Int) ≤ (low + high) / 2 then .ds else .ts
        let dest := (match side with | .ds => low - t | .ts => high + t).toNat
        (20 < Machine.dist d.trv.counter dest → clearTo dest →
          e.trv.state = .approach ∧ e.trv.op = some scanRec ∧ movesTo e dest f.travelSpeed (.runUp side) ∧ e.tells d []) ∧
        (20 < Machine.dist d.trv.counter dest → shutTo dest → limited e scanRec) ∧
        (Machine.dist d.trv.counter dest ≤ 20 → d.pins.ready = true → d.pins.limit side = true → limited e scanRec) ∧
        (Machine.dist d.trv.counter dest ≤ 20 → d.pins.ready = true → d.pins.limit side = false → 20 < t →
          e.trv.state = .approach ∧ e.trv.op = some scanRec ∧ e.trv.motion = .runUp side ∧ e.trv.enable = true ∧ e.trv.scanDir = side ∧
          e.tells d [] ∧
          e.trv.target = (match side with | .ds => ((k.speed * 100 : Nat) : Int) | .ts => -((k.speed * 100 : Nat) : Int))))) ∧
    (d.trv.frame = some f → d.trv.active = some k → p.length = 4 →
      let pos := field p 0 4
      pos ≤ 262143 → f.softLow ≤ pos → pos ≤ f.softHigh → d.cond srcShutter = false → d.brk.sheet = .running →
      d.lnk.link = .good → ∃ e : Device, exec (.point dt tag p) s = s.replies e 0x9B tag [1, 0] ∧ kept e ∧ epoch e ∧
      e.trv.range = some ⟨low, high, t⟩ ∧ e.trv.pending = d.trv.pending ∧
      (20 < Machine.dist d.trv.counter pos → clearTo pos → e.trv.state = .approach ∧
        movesTo e pos f.travelSpeed .point ∧ e.trv.op = some pointRec ∧ e.tells d []) ∧
      (d.pins.ready = false → faulted e pointRec) ∧ (20 < Machine.dist d.trv.counter pos → shutTo pos → limited e pointRec) ∧
      (Machine.dist d.trv.counter pos ≤ 20 → d.pins.ready = true → e.trv.state = .point ∧ e.trv.motion = .hold ∧ e.trv.enable = true ∧
        e.trv.openCmd = true ∧ e.trv.op = some pointRec ∧ e.tells d [] ∧
        e.acq.sampleTimer = some (d.clk + k.pointPeriod * 1000) ∧
        e.acq.sample = some ⟨.time, d.trv.counter, d.clk, 0, 0, 0, 0, 0, d.pins.sp, false, false⟩)) ∧
    (d.trv.state = .parked → d.std.settings ≠ none → d.cond srcShutter = false → d.lnk.link ≠ .lost →
      ∃ e : Device, exec (.standardize dt tag []) s = s.replies e 0x9C tag [1, 0] ∧ kept e ∧ e.collectsFrom d ∧
        e.trv.op = some ⟨.standardize, tag, 0, false, false, false⟩ ∧ e.prf = d.prf ∧ e.trv.pending = d.trv.pending ∧ e.tells d [])

/-- SET_SCAN (R22, R35, R36, R37): its refusals in order; a record that passes is applied at once in UNHOMED, PARKED and HALTED
(range and plan follow, an epoch starts unless the cuts are the same, a waiting record ends REPLACED), else kept pending. The order
of the BAD_LENGTH, BUSY, UNCONFIGURED and field checks is R35's; an apply mode above 1 counts as a structural field (log 20). -/
def Obligations.ScanSettingsAreTaken : Prop :=
  ∀ (s : State) (dt : Nat) (tag : Byte) (p : List Byte) (f : FrameRecord),
    let d := s.dev.advance dt
    let x : ScanSettings :=
      { low := field p 1 4, high := field p 5 4, speed := clampTo 50 1000 (field p 9 2), pitch := field p 11 2, p0 := field p 13 4,
        width := field p 17 2, count := field p 19 2, minSamples := clampTo 1 32 (field p 21 1), weight := clampTo 1 256 (field p 22 2),
        source := field p 24 1, base := field p 25 1, autoReload := decide (field p 26 1 % 2 = 1),
        autoResume := decide (2 ≤ field p 26 1), batch := clampTo 1 32 (field p 27 1), pointPeriod := clampTo 10 1000 (field p 28 2) }
    let t : Nat := (10 * x.speed ^ 2 + f.accel - 1) / f.accel
    let low := max (x.low : Int) (f.softLow + t)
    let high := min (x.high : Int) (f.softHigh - t)
    let settled := d.trv.state = .unhomed ∨ d.trv.state = .parked ∨ d.trv.state = .halted
    let bad := 1 < field p 0 1 ∨ 262143 < x.high ∨ x.high ≤ x.low ∨ x.pitch < 40 ∨ 4000 < x.pitch ∨ x.width < 40 ∨ 4000 < x.width ∨
      x.count < 1 ∨ 600 < x.count ∨ 2 < x.source ∨ x.base < 1 ∨ 3 < field p 26 1 ∨ x.p0 < f.softLow ∨
      f.softHigh < x.p0 + x.count * x.width - 1 ∨ high < low + 2 * x.pitch
    let adjusted := x.speed ≠ field p 9 2 ∨ x.minSamples ≠ field p 21 1 ∨ x.weight ≠ field p 22 2 ∨ x.batch ≠ field p 27 1 ∨
      x.pointPeriod ≠ field p 28 2 ∨ low ≠ x.low ∨ high ≠ x.high
    let flags : Byte := (if adjusted then 1 else 0) + (if d.trv.pending.isSome then 2 else 0)
    d.clear →
    (p.length ≠ 30 → exec (.setScan dt tag p) s = s.replies d 0x9E tag [3, 0]) ∧
    (p.length = 30 → field p 0 1 = 0 → ¬settled → exec (.setScan dt tag p) s = s.replies d 0x9E tag [6, 0]) ∧
    (p.length = 30 → field p 0 1 ≠ 0 ∨ settled → d.trv.frame = none → exec (.setScan dt tag p) s = s.replies d 0x9E tag [9, 0]) ∧
    (p.length = 30 → field p 0 1 ≠ 0 ∨ settled → d.trv.frame = some f → bad →
      exec (.setScan dt tag p) s = s.replies d 0x9E tag [4, 0]) ∧
    (p.length = 30 → ¬settled → field p 0 1 = 1 → d.trv.frame = some f → ¬bad → d.trv.pending = none →
      exec (.setScan dt tag p) s = s.replies (d.setTrv { d.trv with pending := some (tag, x) }) 0x9E tag [0, flags]) ∧
    (∀ q, p.length = 30 → ¬settled → field p 0 1 = 1 → d.trv.frame = some f → ¬bad → d.trv.pending = some q →
      exec (.setScan dt tag p) s = s.replies ((d.offer ⟨0xC1, q.1, [0x1E, 9, 0, d.trv.state.code, 255]⟩).setTrv
        { d.trv with pending := some (tag, x) }) 0x9E tag [0, flags]) ∧
    (p.length = 30 → settled → d.trv.frame = some f → ¬bad → ∃ e : Device,
      exec (.setScan dt tag p) s = s.replies e 0x9E tag [0, flags] ∧
      e.trv = { d.trv with active := some x, pending := none, range := some ⟨low, high, t⟩, planCount := min d.trv.planCount x.base } ∧
      (∀ k r, d.trv.active = some k → d.trv.range = some r → k.pitch = x.pitch → k.p0 = x.p0 → k.width = x.width →
        k.count = x.count → r.low = low → r.high = high → e.prf = d.prf) ∧
      ((∀ k r, d.trv.active = some k → d.trv.range = some r → k.pitch ≠ x.pitch ∨ k.p0 ≠ x.p0 ∨ k.width ≠ x.width ∨
        k.count ≠ x.count ∨ r.low ≠ low ∨ r.high ≠ high) → e.prf = { d.prf with filtered := none, reseed := true }) ∧
      e.acq = d.acq ∧ e.std = d.std ∧ e.cnv = d.cnv ∧ e.win = d.win ∧ e.brk = d.brk ∧ e.alm = d.alm ∧ e.pins = d.pins ∧
      (d.trv.pending = none → e.lnk = d.lnk) ∧
      (∀ q, d.trv.pending = some q → e.lnk = (d.offer ⟨0xC1, q.1, [0x1E, 9, 0, d.trv.state.code, 255]⟩).lnk))

/-- AUTOMATIC_RESUME (R41): nothing unless a resume is pending, the traverse PARKED with no operation, the sheet RUNNING; then the
checks from UNCONFIGURED on: a failed one sends a DONE with tag 0 and the refusal as its result, else the operation begins with tag 0
and no reply, as an accepted command does: a due standardize first, else the approach to the run-up point or to the stored position,
or holding it at once, in a new epoch and ADJUSTED where the recomputed range differs from the one last used (R19, R22); with READY
low its motion ends at its start in a drive fault (R13), its DONE carrying FAULT (the traverse state in it: log 6), also with the
limit switch ahead closed: that READY is checked first is the model's choice (log 13). That DRIVE_FAULT falls at such a start while
READY is high is the model's reading (log 34). -/
def Obligations.ResumeActs : Prop :=
  ∀ (s : State) (dt : Nat) (r : Resume),
    let d := s.dev.advance dt
    let cleared := d.setTrv { d.trv with resume := none }
    let range : Option (Int × Int) := match d.trv.frame, d.trv.active with
      | some f, some k =>
        let t : Int := ((10 * k.speed ^ 2 + f.accel - 1) / f.accel : Nat)
        some (max (k.low : Int) (f.softLow + t), min (k.high : Int) (f.softHigh - t))
      | _, _ => none
    let moved : Bool := decide (d.trv.range.map (fun r => (r.low, r.high)) ≠ range)
    let epoch (e : Device) := if moved then e.prf.filtered = none ∧ e.prf.reseed = true else e.prf = d.prf
    let result (c : ReplyCode) : Byte := match c with
      | .unconfigured => 10 | .badValue => 12 | .link => 5 | _ => 11
    d.pins.reset = false →
    (d.trv.resume = none ∨ d.trv.state ≠ .parked ∨ d.trv.op ≠ none ∨ d.brk.sheet ≠ .running →
      exec (.automaticResume dt) s = s.ends d) ∧
    (d.trv.resume = some r → d.trv.state = .parked → d.trv.op = none → d.brk.sheet = .running →
      (∀ c, r = .scan → d.scanCheck = some c → exec (.automaticResume dt) s =
        s.ends (cleared.offer ⟨0xC1, 0, [0x1A, result c, 0, 2, 255]⟩)) ∧
      (∀ c pos, r = .point pos → d.pointCheck pos = some c → exec (.automaticResume dt) s =
        s.ends (cleared.offer ⟨0xC1, 0, [0x1B, result c, 0, 2, 255]⟩)) ∧
      (r = .scan → d.scanCheck = none → d.trv.planCount = 0 ∨ d.std.ref = none → ∃ e : Device,
        exec (.automaticResume dt) s = s.ends e ∧ e.trv.state = .standardizing ∧ e.trv.resume = none ∧ e.trv.enable = d.trv.enable ∧
        e.lnk = d.lnk ∧ e.brk = d.brk ∧ (d.pins.ready = true → e.cond srcDriveFault = false) ∧
        (d.pins.ready = false → e.entry srcDriveFault = d.entry srcDriveFault) ∧
        (d.trv.enable = false → e.collectsFrom d) ∧ epoch e ∧
        e.trv.op = some ⟨.scan, 0, 0, true, decide (d.trv.planCount = 0), moved⟩) ∧
      (∀ pos, r = .point pos → d.pointCheck pos = none → Machine.dist d.trv.counter pos ≤ 20 → d.pins.ready = true →
        ∃ e : Device, exec (.automaticResume dt) s = s.ends e ∧ e.trv.state = .point ∧ e.trv.resume = none ∧
        e.trv.enable = true ∧ e.lnk = d.lnk ∧ e.cond srcDriveFault = false ∧ e.prf.batchCount = 0 ∧
        epoch { e with prf := { e.prf with batchCount := d.prf.batchCount } } ∧
        e.trv.op = some ⟨.point, 0, pos, false, false, moved⟩) ∧
      (∀ pos f, r = .point pos → d.pointCheck pos = none → 20 < Machine.dist d.trv.counter pos → d.trv.frame = some f →
        d.pins.ready = true → d.pins.limit (if d.trv.counter < pos then .ds else .ts) = false → ∃ e : Device,
        exec (.automaticResume dt) s = s.ends e ∧ e.trv.state = .approach ∧ e.trv.motion = .move pos f.travelSpeed .point ∧
        e.trv.enable = true ∧ e.trv.resume = none ∧ e.trv.openCmd = false ∧ e.lnk = d.lnk ∧ e.brk = d.brk ∧
        e.cond srcDriveFault = false ∧ epoch e ∧ e.trv.op = some ⟨.point, 0, pos, false, false, moved⟩) ∧
      (∀ f k, r = .scan → d.scanCheck = none → d.trv.planCount ≠ 0 → d.std.ref ≠ none → d.trv.frame = some f →
        d.trv.active = some k → d.pins.ready = true →
        let t : Nat := (10 * k.speed ^ 2 + f.accel - 1) / f.accel
        let low := max (k.low : Int) (f.softLow + t)
        let high := min (k.high : Int) (f.softHigh - t)
        let side : Side := if (d.trv.counter : Int) ≤ (low + high) / 2 then .ds else .ts
        let dest := (match side with | .ds => low - t | .ts => high + t).toNat
        let begun (e : Device) := exec (.automaticResume dt) s = s.ends e ∧ e.trv.state = .approach ∧ e.trv.enable = true ∧
          e.trv.resume = none ∧ e.trv.openCmd = false ∧ e.trv.range = some ⟨low, high, t⟩ ∧ e.trv.planCount = d.trv.planCount ∧
          e.lnk = d.lnk ∧ e.brk = d.brk ∧ e.cond srcDriveFault = false ∧ epoch e ∧
          e.trv.op = some ⟨.scan, 0, 0, false, false, moved⟩
        (20 < Machine.dist d.trv.counter dest → d.pins.limit (if d.trv.counter < dest then .ds else .ts) = false →
          ∃ e : Device, begun e ∧ e.trv.motion = .move dest f.travelSpeed (.runUp side)) ∧
        (Machine.dist d.trv.counter dest ≤ 20 → d.pins.limit side = false → 20 < t →
          ∃ e : Device, begun e ∧ e.trv.motion = .runUp side ∧ e.trv.scanDir = side ∧
            e.trv.target = (match side with | .ds => ((k.speed * 100 : Nat) : Int) | .ts => -((k.speed * 100 : Nat) : Int)))) ∧
      (d.pins.ready = false → d.trv.enable = false → (r = .scan ∧ d.scanCheck = none ∧ d.trv.planCount ≠ 0 ∧ d.std.ref ≠ none) ∨
          (∃ pos, r = .point pos ∧ d.pointCheck pos = none) → ∃ e : Device,
        exec (.automaticResume dt) s = s.ends e ∧ e.trv.op = none ∧ e.trv.resume = none ∧ e.trv.enable = false ∧
        e.cond srcDriveFault = true ∧ e.brk = d.brk ∧
        e.tells d [⟨0xC1, 0, [if r = .scan then 0x1A else 0x1B, 2, if moved then 1 else 0, 9, 255]⟩] ∧
        e.trv.state = if d.trv.homed = false ∧ d.trv.restTimer = none then .unhomed else .halted))

/-! ## Channels, speed, standardization and conversion -/

/-- The head's inputs and the tachometer (R44, R45, R46, R54, R55): edges add to the open sample and stay at 16,777,215 with the
saturation mark; a CAL period is attributed at its closing edge, and abandoned at its timeout; a change of SP marks the sample; a TACH
edge gives period and speed and restarts the timeout, whose expiry reads 0. The model's choices: a row that reports no change of level
does nothing (log 11), a CAL total marks the sample only where a sum would exceed 4,294,967,295 (log 37), an expiry brings the clock to
the deadline (log 2). -/
def Obligations.HeadInputsCount : Prop :=
  ∀ (s : State) (dt t h : Nat) (v : Bool) (o : OpenSample),
    let d := s.dev.advance dt
    let x := d.setClk (max d.clk t)
    let sampled (q : OpenSample) : Acq := { d.acq with sample := some q }
    let calHigh (a : Acq) (e : Device) : Device := (e.setPins { d.pins with cal := true }).setAcq
      { a with calStart := some d.clk, calHigh := none, calTimeout := some (d.clk + 100000) }
    let edgeAt (p : Option Nat) (speed : Nat) : Acq :=
      { d.acq with tachEdge := some d.clk, tachPeriod := p, tachTimeout := some (d.clk + 2000000), speed := speed }
    d.pins.reset = false →
    (d.acq.sample = none → ∀ ch, exec (.channelPulseEdge dt ch) s = s.becomes d) ∧
    (d.acq.sample = some o →
      exec (.channelPulseEdge dt .bw) s = s.becomes (d.setAcq (sampled
        (if o.bw < 16777215 then { o with bw := o.bw + 1 } else { o with sat := true }))) ∧
      exec (.channelPulseEdge dt .mw) s = s.becomes (d.setAcq (sampled
        (if o.mw < 16777215 then { o with mw := o.mw + 1 } else { o with sat := true }))) ∧
      exec (.channelPulseEdge dt .mr) s = s.becomes (d.setAcq (sampled
        (if o.mr < 16777215 then { o with mr := o.mr + 1 } else { o with sat := true })))) ∧
    (d.pins.cal = true → exec (.calRisingEdge dt) s = s.becomes d) ∧
    (d.pins.cal = false → d.acq.calStart = none ∨ d.acq.sample = none →
      exec (.calRisingEdge dt) s = s.becomes (calHigh d.acq d)) ∧
    (d.pins.cal = false → d.acq.calStart = some t → d.acq.calHigh = some h → d.acq.sample = some o →
      exec (.calRisingEdge dt) s = s.becomes (calHigh (sampled { o with
        calHigh := min (o.calHigh + h) 4294967295, calTotal := min (o.calTotal + (d.clk - t)) 4294967295,
        sat := o.sat || decide (4294967295 < o.calHigh + h ∨ 4294967295 < o.calTotal + (d.clk - t)) }) d)) ∧
    (d.pins.cal = true → d.acq.calStart = some t → d.acq.calHigh = none → exec (.calFallingEdge dt) s =
      s.becomes ((d.setPins { d.pins with cal := false }).setAcq { d.acq with calHigh := some (d.clk - t) })) ∧
    (d.pins.cal = true → d.acq.calStart = none → exec (.calFallingEdge dt) s =
      s.becomes (d.setPins { d.pins with cal := false })) ∧
    (d.acq.calTimeout = some t → exec (.calPeriodTimeout dt) s =
      s.becomes (x.setAcq { d.acq with calStart := none, calHigh := none, calTimeout := none })) ∧
    (d.pins.sp = v → exec (.sheetPresentChange dt v) s = s.becomes d) ∧
    (d.pins.sp ≠ v → exec (.sheetPresentChange dt v) s = s.becomes ((d.setPins { d.pins with sp := v }).setAcq
      { d.acq with sample := d.acq.sample.map (fun q => { q with changed := true }) })) ∧
    (d.acq.tachEdge = none → exec (.tachRisingEdge dt) s = s.becomes (d.setAcq (edgeAt d.acq.tachPeriod d.acq.speed))) ∧
    (d.acq.tachEdge = some t → exec (.tachRisingEdge dt) s = s.becomes (d.setAcq (edgeAt (some (max 1 (d.clk - t)))
      (match d.acq.ppm with | none => 0 | some q => min 30000 (600000000 / (max 1 (d.clk - t) * q)))))) ∧
    (d.acq.tachTimeout = some t → exec (.tachTimeout dt) s = s.becomes (x.setAcq
      { d.acq with speed := 0, tachPeriod := none, tachEdge := none, tachTimeout := none }))

/-- SAMPLE_TIMER_EXPIRY (R47, R51, R52, R53, R63, R110, R111): the open sample closes with everything as it stands, a new one opens and
the timer restarts; in POINT the record is converted and enters the ring; in STANDARDIZING a record that saw sheet fails the
standardize, a settling one is counted off, a summed one adds to the six sums; the last of them ends the standardize (R73): a STANDARDIZE
operation is over in PARKED; a SCAN operation goes on (R29, R32): after an adoption the plan is reloaded where that was due, and the head
approaches, or parks with BREAK in BREAK and THREADING; after a failure it is over with STD_FAILED, the plan as it was. STD_FAIL carries
SHEET with the received count (R69). A record in POINT counts for its tables (R91; `TableReadsBack` says how), and every record goes
through the channel supervision (the set changes at once, log 36). An expiry brings the clock to the deadline (log 2). The traverse state
in a DONE is log 6. -/
def Obligations.TimedSamplesClose : Prop :=
  ∀ (s : State) (dt t : Nat) (o : OpenSample),
    let d := s.dev.advance dt
    let now := max d.clk t
    let x := d.setClk now
    let q : Sample := ⟨o.gating, o.start, d.trv.counter, min (max 1 (now - o.openedAt)) 4294967295, o.bw, o.mw, o.mr, o.calHigh,
      o.calTotal, if o.changed then .mixed else if o.spAtOpen then .all else .none, d.acq.speed, x.now,
      o.sat || decide (4294967295 < now - o.openedAt)⟩
    let fresh : OpenSample := ⟨.time, d.trv.counter, now, 0, 0, 0, 0, 0, d.pins.sp, false, false⟩
    let supervised (e : Device) := e.supervisedFrom d q ∧ e.brk = d.brk ∧ e.pins = d.pins
    d.pins.reset = false → d.acq.sampleTimer = some t → d.acq.sample = some o →
    (∀ k, d.trv.state = .point → d.trv.active = some k → ∃ e : Device, exec (.sampleTimerExpiry dt) s = s.ends e ∧ supervised e ∧
      let n := (d.prf.entryNumber + 1) % 4294967296
      let r := convertRecord d.cnv d.std.ref false q
      e.acq.sample = some fresh ∧ e.acq.sampleTimer = some (now + k.pointPeriod * 1000) ∧ e.trv = d.trv ∧ e.std = d.std ∧
      e.prf.entryNumber = n ∧ e.prf.ring = (⟨n, r⟩ :: d.prf.ring).take 64 ∧ e.cnv = d.cnv.counted r ∧ e.tells d [] ∧
      (d.prf.batchCount + 1 < k.batch → e.prf.batchCount = d.prf.batchCount + 1 ∧ e.prf.batch = d.prf.batch) ∧
      (k.batch ≤ d.prf.batchCount + 1 → e.prf.batchCount = 0 ∧
        if d.lnk.link = .good ∧ d.prf.batch = none then e.prf.batch = some (pointData e.prf.ring k.pointPeriod k.batch)
        else e.prf.batch = d.prf.batch ∧ e.prf.skippedBatches = min (d.prf.skippedBatches + 1) 65535)) ∧
    (d.trv.state = .standardizing → d.std.phase ≠ .idle → ∃ e : Device, exec (.sampleTimerExpiry dt) s = s.ends e ∧ supervised e ∧ e.cnv = d.cnv ∧
      (q.sheet ≠ .none → e.std.ref = d.std.ref ∧ e.std.count = d.std.count ∧ e.cond srcStdFail = true ∧
        ((d.entry srcStdFail).state = .idle → (e.entry srcStdFail).value = some (1 * 16777216 + (d.std.received + 1))) ∧
        (d.trv.resume = none → e.std.phase = .idle ∧ e.std.last.map StdLast.result = some .sheet ∧ e.trv.state = .parked ∧
          e.trv.op = none ∧ e.trv.pending = none ∧
          e.tells d (d.appliedDone 2 ++ (d.trv.op.map (fun o => o.done (if o.kind = .scan then 6 else 18) 2 18)).toList))) ∧
      (q.sheet = .none → d.std.phase = .settling → e.trv = d.trv ∧ e.tells d [] ∧ e.acq.sample = some fresh ∧
        e.acq.sampleTimer = some (now + (d.std.settings.map StdSettings.period).getD 0 * 1000) ∧
        e.std = { d.std with received := d.std.received + 1, settleLeft := d.std.settleLeft - 1,
                             phase := if d.std.settleLeft - 1 = 0 then .collecting else .settling }) ∧
      (q.sheet = .none → d.std.phase = .collecting →
        let summed : Std := { d.std with
          received := d.std.received + 1, summed := d.std.summed + 1, satMark := d.std.satMark || q.sat,
          sums := ⟨d.std.sums.d + q.dur, d.std.sums.bw + q.bw, d.std.sums.mw + q.mw, d.std.sums.mr + q.mr,
            d.std.sums.calHigh + q.calHigh, d.std.sums.calTotal + q.calTotal⟩ }
        (d.std.summed + 1 < d.std.snapshot.samples → e.trv = d.trv ∧ e.acq.sample = some fresh ∧ e.std = summed ∧ e.tells d []) ∧
        (d.std.snapshot.samples ≤ d.std.summed + 1 → d.trv.resume = none →
          (∀ p, d.trv.op = some p → p.kind = .standardize) →
          e.std = ((x.setStd summed).completeStd).std ∧ e.trv.state = .parked ∧ e.trv.op = none ∧ e.trv.openCmd = false ∧
          e.acq.sample = none ∧ e.trv.pending = none ∧ e.tells d (d.appliedDone 2 ++ d.opDone summed.verdict.code 2)) ∧
        (∀ w, d.std.snapshot.samples ≤ d.std.summed + 1 → d.trv.op = some w → w.kind = .scan →
          let y := (x.setStd summed).completeStd
          let adopted := summed.verdict = .adopted ∨ summed.verdict = .adoptedDrift
          let plan := if w.reloadDue then (d.trv.active.map ScanSettings.base).getD 0 else d.trv.planCount
          let ended (e : Device) (result std : Byte) := e.trv.state = .parked ∧ e.trv.op = none ∧ e.trv.enable = false ∧
            e.trv.openCmd = false ∧ e.acq.sample = none ∧ e.trv.pending = none ∧
            e.tells d (d.appliedDone 2 ++ [w.done result 2 std])
          (¬adopted → d.trv.resume = none → e.std = y.std ∧ ended e 6 summed.verdict.code ∧
            (d.trv.pending = none → e.trv.planCount = d.trv.planCount)) ∧
          (adopted → d.lnk.link ≠ .lost → d.brk.sheet = .sheetBreak ∨ d.brk.sheet = .threading → e.std = y.std ∧ ended e 4 255 ∧
            e.trv.resume = d.trv.resume ∧ (d.trv.pending = none → e.trv.planCount = plan)) ∧
          (adopted → d.lnk.link ≠ .lost → d.brk.sheet = .running ∨ d.brk.sheet = .noSheet → ∀ f r, d.trv.frame = some f →
            d.trv.range = some r → r.turn ≤ r.low - f.softLow → r.low ≤ r.high → r.high + r.turn ≤ f.softHigh →
            d.trv.enable = false → d.pins.ready = true →
            let side : Side := if (d.trv.counter : Int) ≤ (r.low + r.high) / 2 then .ds else .ts
            let dest := (match side with | .ds => r.low - r.turn | .ts => r.high + r.turn).toNat
            20 < Machine.dist d.trv.counter dest → d.pins.limit (if d.trv.counter < dest then .ds else .ts) = false →
            e.std = y.std ∧ e.tells d [] ∧ e.trv.state = .approach ∧ e.trv.motion = .move dest f.travelSpeed (.runUp side) ∧
            e.trv.enable = true ∧ e.trv.openCmd = false ∧ e.trv.resume = none ∧ e.trv.pending = d.trv.pending ∧
            e.trv.active = d.trv.active ∧ e.trv.range = some r ∧ e.trv.planCount = plan ∧ e.acq.sample = none ∧
            e.acq.sampleTimer = none ∧ e.trv.op = some { w with stdDue := false, reloadDue := false }))))

/-- The judgement of a collection (R64 to R70): CHANNEL exactly when a fault of R65 stands, whatever the drifts; else DRIFT when a
present drift exceeds the reject limit of the snapshot, ADOPTED with drift when one exceeds the warn limit, else ADOPTED. An adoption
replaces the reference set and counts it; a failure keeps both and raises STD_FAIL. Where the entry was IDLE its value is the code of
CHANNEL with the mask of the faulty channels, or the code of DRIFT with the largest drift, and that of STD_DRIFT the item of the largest
drift, the first of equals, with that drift; a drift is kept to 65,535. -/
def Obligations.StandardizeIsJudged : Prop :=
  ∀ d : Device,
    let s := d.std
    let k := s.snapshot
    let rBw := s.sums.bw * 1000000 / s.sums.d
    let rMw := s.sums.mw * 1000000 / s.sums.d
    let rMr := s.sums.mr * 1000000 / s.sums.d
    let m := s.sums.mw * 65536 / s.sums.mr
    let d0 := s.sums.calHigh * 65536 / s.sums.calTotal
    let drift (new : Nat) (cal : Option Nat) : Option Nat := cal.map (fun c => (if new ≤ c then c - new else new - c) * 10000 / c)
    let drifts := [drift rBw s.calRbw, drift m s.calM, drift d0 s.calD0]
    let faulty := s.satMark = true ∨ rBw = 0 ∨ rBw < k.minBw ∨ rMw < k.minMw ∨ rMr < k.minMr ∨ s.sums.mr = 0 ∨ m = 0 ∨
      s.sums.calTotal = 0
    let exceeds (limit : Nat) := ∃ v, some v ∈ drifts ∧ limit < v
    let mask : Nat := (if rBw = 0 ∨ rBw < k.minBw then 1 else 0) + (if rMw < k.minMw ∨ s.sums.mr ≠ 0 ∧ m = 0 then 2 else 0) +
      (if rMr < k.minMr ∨ s.sums.mr = 0 then 4 else 0) + (if s.sums.calTotal = 0 then 8 else 0) + (if s.satMark then 16 else 0)
    let latched (e : Device) (a : Fin 24) (value : Nat) := (d.entry a).state = .idle → (e.entry a).value = some value
    let largest (v : Nat) := some v ∈ drifts ∧ ∀ u, some u ∈ drifts → u ≤ v
    let e := d.completeStd
    (s.verdict = .channel ↔ faulty) ∧ (s.verdict = .drift ↔ ¬faulty ∧ exceeds k.reject) ∧
    (s.verdict = .adoptedDrift ↔ ¬faulty ∧ ¬exceeds k.reject ∧ exceeds k.warn) ∧
    (s.verdict = .adopted ↔ ¬faulty ∧ ¬exceeds k.reject ∧ ¬exceeds k.warn) ∧
    e.std.phase = .idle ∧ e.std.settings = s.settings ∧ e.std.last.map StdLast.result = some s.verdict ∧
    e.std.last.map StdLast.time = some d.now ∧ e.trv = d.trv ∧ e.cnv = d.cnv ∧ e.prf = d.prf ∧ e.brk = d.brk ∧
    e.tells d [] ∧ (s.verdict = .channel → latched e srcStdFail (2 * 16777216 + mask)) ∧
    (∀ v, s.verdict = .drift → largest v → latched e srcStdFail (3 * 16777216 + min v 65535)) ∧
    (∀ (v : Nat) (i : Fin 3), s.verdict = .adoptedDrift → largest v → drifts[i]? = some (some v) →
      (∀ j < i, drifts[j]? ≠ some (some v)) → latched e srcStdDrift ((i.val + 1) * 16777216 + min v 65535)) ∧
    (s.verdict = .channel ∨ s.verdict = .drift → e.std.ref = s.ref ∧ e.std.count = s.count ∧ e.cond srcStdFail = true ∧
      (s.verdict = .drift → e.cond srcStdDrift = d.cond srcStdDrift)) ∧
    (s.verdict = .adopted ∨ s.verdict = .adoptedDrift → e.cond srcStdFail = false ∧ e.std.count = (s.count + 1) % 4294967296 ∧
      e.std.ref = some ⟨d.now, rBw, m, d0, (drift rBw s.calRbw).map (fun v => min v 65535), (drift m s.calM).map (fun v => min v 65535),
        (drift d0 s.calD0).map (fun v => min v 65535), k.reject, 0⟩ ∧
      (e.cond srcStdDrift = true ↔ s.verdict = .adoptedDrift))

/-- The commands that store settings, and what each stores (R56, R60, R61, R115, R117, R123, R131): clamped fields answer with
ADJUSTED, structural ones refuse; a new tach scale acts on the speed at once; a new window starts NORMAL, its condition falls, its
excursion record stays. -/
def Obligations.SettingsAreStored : Prop :=
  ∀ (s : State) (dt : Nat) (tag : Byte) (p : List Byte),
    let d := s.dev.advance dt
    let flag (same : Bool) : Byte := if same then 0 else 1
    d.clear →
    (p.length = 2 →
      let v := clampTo 1 1000 (field p 0 2)
      exec (.setTach dt tag p) s = s.replies (d.setAcq { d.acq with
        ppm := some v, speed := match d.acq.tachPeriod with
          | none => d.acq.speed
          | some t => min 30000 (600000000 / (t * v)) }) 0xA0 tag [0, flag (v = field p 0 2)]) ∧
    (let k : StdSettings := ⟨clampTo 16 256 (field p 0 2), clampTo 0 15 (field p 2 1), clampTo 10 1000 (field p 3 2), field p 5 4,
       field p 9 4, field p 13 4, clampTo 1 5000 (field p 17 2), clampTo 1 5000 (field p 19 2)⟩
     (d.trv.state = .standardizing → exec (.setStd dt tag p) s = s.replies d 0xA8 tag [6, 0]) ∧
     (d.trv.state ≠ .standardizing → p.length ≠ 21 → exec (.setStd dt tag p) s = s.replies d 0xA8 tag [3, 0]) ∧
     (d.trv.state ≠ .standardizing → p.length = 21 → k.reject < k.warn → exec (.setStd dt tag p) s = s.replies d 0xA8 tag [4, 0]) ∧
     (d.trv.state ≠ .standardizing → p.length = 21 → k.warn ≤ k.reject → exec (.setStd dt tag p) s =
       s.replies (d.setStd { d.std with settings := some k }) 0xA8 tag [0, flag (k.samples = field p 0 2 ∧ k.settle = field p 2 1 ∧
         k.period = field p 3 2 ∧ k.warn = field p 17 2 ∧ k.reject = field p 19 2)])) ∧
    (p.length = 13 →
      let n := field p 0 1
      let bad := 7 < n ∨ n % 2 = 1 ∧ field p 1 4 = 0 ∨ n / 2 % 2 = 1 ∧ field p 5 4 = 0 ∨
        n / 4 % 2 = 1 ∧ (field p 9 4 = 0 ∨ 65536 < field p 9 4)
      (bad → exec (.setCalref dt tag p) s = s.replies d 0xA9 tag [4, 0]) ∧
      (¬bad → exec (.setCalref dt tag p) s = s.replies (d.setStd { d.std with
        calRbw := if n % 2 = 1 then some (field p 1 4) else none, calM := if n / 2 % 2 = 1 then some (field p 5 4) else none,
        calD0 := if n / 4 % 2 = 1 then some (field p 9 4) else none }) 0xA9 tag [0, 0])) ∧
    (p.length = 4 →
      let x : BreakSettings := ⟨min 30000 (field p 0 2), clampTo 50 5000 (field p 2 2)⟩
      exec (.setBreak dt tag p) s = s.replies (d.setBrk { d.brk with settings := some x }) 0xC9 tag
        [0, flag (x.crawl = field p 0 2 ∧ x.cascade = field p 2 2)]) ∧
    (p.length = 13 →
      let bad := 7 < field p 0 1 ∨ 1 < field p 1 1 ∨ 7 < field p 2 1 ∨ 599 < field p 3 2 ∨ 3 < field p 5 1 ∨ 3 < field p 6 1 ∨
        field p 12 1 = 0 ∨ 2 < field p 12 1 ∨ field p 6 1 = 3 ∧ field p 7 2 < field p 9 2
      let size := 2 ^ field p 2 1
      (bad → exec (.setWindow dt tag p) s = s.replies d 0xC0 tag [4, 0]) ∧
      (¬bad → ∀ n : Fin 8, n.val = field p 0 1 →
        let w : WindowDef :=
          { enabled := decide (field p 1 1 = 1), exponent := field p 2 1, base := field p 3 2 / size * size,
            meas := match field p 5 1 with
              | 0 => .bw | 1 => .moist | 2 => .dry | _ => .cal
            high := if field p 6 1 = 1 ∨ field p 6 1 = 3 then some (field p 7 2) else none,
            low := if field p 6 1 = 2 ∨ field p 6 1 = 3 then some (field p 9 2) else none, persistence := max 1 (field p 11 1),
            source := if field p 12 1 = 1 then .latest else .filtered }
        let e := d.setWin (d.win.set n ⟨some w, .normal, 0, none, (d.window n).excursion⟩)
        exec (.setWindow dt tag p) s = s.replies (if (d.window n).state = .excursion then e.fall (srcWindow n) else e) 0xC0 tag
          [0, flag (size ∣ field p 3 2)]))

/-- SET_TABLE and GET_TABLE (R77, R79, R91): a table of 2 to 16 knots with rising x, none above 98,304, or of none, replaces the one of
its number and clears its statistics; what GET_TABLE then sends are exactly the bytes of the knots as they were sent. A CONVERTED record
adds one to the converted count of each table that is not empty and whose ratio the record has, and to its under or over count where the
linearization set UNDER or OVER, each up to 4,294,967,295; any other record counts for no table. -/
def Obligations.TableReadsBack : Prop :=
  (∀ (d : Device) (scanning : Bool) (q : Sample),
    let r := convertRecord d.cnv d.std.ref scanning q
    let plus (n : Nat) (b : Bool) : Nat := if b then min (n + 1) 4294967295 else n
    let used (t : LinTable) (ratio : Option Nat) (f : MeasFlags) : LinTable :=
      if r.form = .converted ∧ ratio ≠ none ∧ t.knots ≠ [] then
        ⟨t.knots, plus t.converted true, plus t.underCount f.underEnd, plus t.overCount f.overEnd⟩
      else t
    let c : Cnv := ⟨used d.cnv.bw r.qBw r.bwFlags, used d.cnv.water r.qW r.waterFlags, used d.cnv.cal r.qC r.calFlags⟩
    d.cnv.counted r = c ∧ d.convertSample scanning q = (d.setCnv c, r)) ∧
  ∀ (s : State) (dt : Nat) (tag : Byte) (n : Nat) (knots : List (Nat × Nat)),
    let d := s.dev.advance dt
    let sent := knots.flatMap (fun k => beBytes 4 k.1 ++ beBytes 2 k.2)
    let p := [BitVec.ofNat 8 n, BitVec.ofNat 8 knots.length] ++ sent
    let table : LinTable := ⟨knots, 0, 0, 0⟩
    d.clear → n < 256 → knots.length < 256 → (∀ k ∈ knots, k.1 < 4294967296 ∧ k.2 < 65536) →
    (2 < n ∨ knots.length = 1 ∨ 16 < knots.length ∨ (∃ k ∈ knots, 98304 < k.1) ∨ ¬knots.Pairwise (fun k q => k.1 < q.1) →
      exec (.setTable dt tag p) s = s.replies d 0xB0 tag [4, 0]) ∧
    (n ≤ 2 → knots.length ≠ 1 → knots.length ≤ 16 → (∀ k ∈ knots, k.1 ≤ 98304) → knots.Pairwise (fun k q => k.1 < q.1) →
      let c : Cnv := match n with
        | 0 => { d.cnv with bw := table }
        | 1 => { d.cnv with water := table }
        | _ => { d.cnv with cal := table }
      exec (.setTable dt tag p) s = s.replies (d.setCnv c) 0xB0 tag [0, 0] ∧
      ∀ s' : State, (s'.dev.advance dt).clear → s'.dev.cnv = c → exec (.getTable dt tag [BitVec.ofNat 8 n]) s' =
        s'.replies (s'.dev.advance dt) 0xB1 tag ([0, 0] ++ p ++ List.replicate 12 0)) ∧
    (2 < n → exec (.getTable dt tag [BitVec.ofNat 8 n]) s = s.replies d 0xB1 tag [4, 0])

/-- CONVERT (R82 to R87, R90, R92): the stages on the supplied sample, exact products with truncated quotients, the clamp at 98,304,
the absent ratio of a channel without signal, then the tables; RAW without a reference set. No state changes. The layout of the reply's
values is the model's choice (log 9), and that the truncated MR rate decides NOREF is its reading (log 40). -/
def Obligations.ConvertAnswers : Prop :=
  ∀ (s : State) (dt : Nat) (tag : Byte) (p : List Byte),
    let d := s.dev.advance dt
    let dur := field p 0 4
    let bad := dur = 0 ∨ 16777215 < field p 4 4 ∨ 16777215 < field p 8 4 ∨ 16777215 < field p 12 4 ∨ field p 20 4 < field p 16 4
    let sample : Sample := ⟨.time, 0, 0, dur, field p 4 4, field p 8 4, field p 12 4, field p 16 4, field p 20 4, .all, 0, 0, false⟩
    let off : MeasFlags := ⟨false, false, false, false, false, false⟩
    let through (t : LinTable) (q : Nat) (clamp : Bool) : Option Nat × MeasFlags :=
      match linearize t.knots q with
      | none => (none, { off with clamp := clamp, noTable := true })
      | some l => (some l.value, { off with clamp := clamp, underEnd := l.underEnd, overEnd := l.overEnd })
    d.clear → p.length = 24 →
    (bad → exec (.convert dt tag p) s = s.replies d 0xB2 tag [4, 0]) ∧
    (¬bad → d.std.ref = none → exec (.convert dt tag p) s = s.replies d 0xB2 tag ([0, 0] ++ ConvRecord.valueBytes
      { sample := sample, form := .raw, qBw := none, qW := none, qC := none, bw := none, water := none, cal := none, moisture := none,
        dry := none, bwFlags := { off with noRef := true }, waterFlags := { off with noRef := true },
        calFlags := { off with noRef := true }, wet := false })) ∧
    (∀ r, ¬bad → d.std.ref = some r →
      let rate (c : Nat) := c * 1000000 / dur
      let clamped (q : Nat) : Nat × Bool := (min q 98304, decide (98304 < q))
      let qb := clamped (rate (field p 4 4) * 65536 / r.rBw)
      let qw := clamped (rate (field p 8 4) * 65536 / rate (field p 12 4) * 65536 / r.m)
      let duty := field p 16 4 * 65536 / field p 20 4
      let b := through d.cnv.bw qb.1 qb.2
      let w := if rate (field p 12 4) = 0 then (none, { off with noRef := true }) else through d.cnv.water qw.1 qw.2
      let c := if field p 20 4 = 0 then (none, { off with noSignal := true })
        else through d.cnv.cal (duty - r.d0) (decide (duty < r.d0))
      exec (.convert dt tag p) s = s.replies d 0xB2 tag ([0, 0] ++ ConvRecord.valueBytes
        { sample := sample, form := .converted, qBw := some qb.1, qW := if rate (field p 12 4) = 0 then none else some qw.1,
          qC := if field p 20 4 = 0 then none else some (duty - r.d0), bw := b.1, water := w.1, cal := c.1,
          moisture := moistureOf b.1 w.1, dry := dryOf b.1 w.1, bwFlags := b.2, waterFlags := w.2, calFlags := c.2,
          wet := wetOf b.1 w.1 }))

/-- What the roundings promise (R86, R98, R103): a table with strictly rising x gives the knot's own y at a knot, the first or last y
with UNDER or OVER outside, and between two knots the first y plus the exact quotient rounded half away from zero, a value between their
two y; a filtered value moves by the exact quotient rounded half away from zero, to a value between the old one and the scan's, all the
way with weight 256; a mean is the exact quotient rounded half up. -/
def Obligations.RoundedStepsStayBetween : Prop :=
  let nearest (num : Int) (den : Nat) (v : Int) : Prop :=
    2 * den * v.natAbs ≤ 2 * num.natAbs + den ∧ 2 * num.natAbs + den < 2 * den * (v.natAbs + 1) ∧ (0 ≤ num → 0 ≤ v) ∧ (num ≤ 0 → v ≤ 0)
  (∀ (knots : List (Nat × Nat)) (q : Nat) (v : Lin),
    knots.Pairwise (fun k l => k.1 < l.1) → linearize knots q = some v →
    (∀ k ∈ knots, k.1 = q → v = ⟨k.2, false, false⟩) ∧
    (∀ k ∈ knots.head?, q < k.1 → v = ⟨k.2, true, false⟩) ∧
    (∀ k ∈ knots.getLast?, k.1 < q → v = ⟨k.2, false, true⟩) ∧
    (∀ (i : Nat) (k l : Nat × Nat), knots[i]? = some k → knots[i + 1]? = some l → k.1 ≤ q → q < l.1 →
      min k.2 l.2 ≤ v.value ∧ v.value ≤ max k.2 l.2 ∧ v.underEnd = false ∧ v.overEnd = false ∧
      nearest (((l.2 : Int) - k.2) * ((q : Int) - k.1)) (l.1 - k.1) ((v.value : Int) - k.2))) ∧
  (∀ q : Nat, linearize [] q = none) ∧
  (∀ weight f s : Nat, weight ≤ 256 → min f s ≤ filterStep weight f s ∧ filterStep weight f s ≤ max f s ∧ filterStep 256 f s = s ∧
    nearest (((s : Int) - f) * weight) 256 ((filterStep weight f s : Int) - f)) ∧
  ∀ sum count : Nat, sliceMean sum 0 = none ∧ (0 < count → ∃ v, sliceMean sum count = some v ∧
    2 * count * v ≤ 2 * sum + count ∧ 2 * sum + count < 2 * count * (v + 1))

/-- Moisture and dry weight (R88, R89): absent values, rounding half up, the bound 10,000, the dry weight that stops at 0 with WET. -/
def Obligations.MoistureAndDryWeight : Prop :=
  (∀ w : Option Nat, moistureOf none w = none ∧ moistureOf (some 0) w = none ∧ dryOf none w = none ∧ wetOf none w = false) ∧
  (∀ b : Option Nat, moistureOf b none = none ∧ dryOf b none = none ∧ wetOf b none = false) ∧
  (∀ b w : Nat, 0 < b → ∃ v, moistureOf (some b) (some w) = some v ∧ v ≤ 10000 ∧
    (∀ n : Nat, 2 * n * b ≤ 2 * (w * 10000) + b → 2 * (w * 10000) + b < 2 * (n + 1) * b → v = min 10000 n) ∧
    (b < w → v = 10000)) ∧
  (∀ b w : Nat, w ≤ b → dryOf (some b) (some w) = some (b - w) ∧ wetOf (some b) (some w) = false) ∧
  (∀ b w : Nat, b < w → dryOf (some b) (some w) = some 0 ∧ wetOf (some b) (some w) = true) ∧
  ∀ (c : Cnv) (ref : RefSet) (s : Sample), s.sheet = .all →
    let r := convertRecord c (some ref) true s
    r.moisture = moistureOf r.bw r.water ∧ r.dry = dryOf r.bw r.water ∧ r.wet = wetOf r.bw r.water

/-! ## Profiles, windows, and what the reading commands send -/

/-- The reading commands (R38, R57, R75, R109, R113, R126, R148, R149, R169, R193): each answers with what stands, or with its refusal, and
changes nothing. Sizes and codes that the rules leave open are the model's choice (log 9), as are the reset values a record can show
(log 25), the wait reason in special-mask mode (log 38), and that GET_SCAN, GET_CHANNELS and GET_STD answer whatever their payload
(log 31). The layouts of 10 section 10.8 and R111, byte by byte: the PROFILE header, a SEGMENT, the BREAK notice, a POINT_DATA notice,
and the codes of states and results. -/
def Obligations.ReadersAnswer : Prop :=
  let bit (n : Nat) (b : Bool) : Nat := if b then 2 ^ n else 0
  let value (v : Option Nat) : List Byte := beBytes 2 (v.getD 0xFFFF)
  (∀ (w : Profile) (src : ProfileSource) (notice : Bool) (skipped i : Nat),
    let source : Nat := match src with | .latest => 1 | .filtered => 2
    let direction : Nat := match w.dir with | .ds => 0 | .ts => 1
    let completion : Nat := match w.completion with
      | .complete => 0 | .abortedBreak => 1 | .abortedLink => 2 | .abortedFault => 3 | .abortedCommand => 4
    let edge (v : Option Nat) : List Byte := beBytes 3 (v.getD 0xFFFFFF)
    let both (m : Option MeanRange) : List Byte := value (m.map MeanRange.mean) ++ value (m.map MeanRange.range)
    let coverage (x : Slice) : Nat := if x.notScanned then 1 else if x.offSheet then 2 else if x.weak then 3 else 0
    let entry (k : Nat) (x : Slice) : List Byte :=
      beBytes 2 k ++ [BitVec.ofNat 8 (min 255 x.n), BitVec.ofNat 8 (coverage x + bit 2 x.edge + bit 3 x.clamped + bit 4 x.bw.isSome +
        bit 5 x.water.isSome + bit 6 x.moisture.isSome + bit 7 x.cal.isSome)] ++
      value x.bw ++ value x.water ++ value x.moisture ++ value x.cal
    w.header src notice skipped =
      [BitVec.ofNat 8 (source + 4 * direction + 8 * completion + bit 6 w.meanSpeed.isSome + bit 7 notice),
       BitVec.ofNat 8 (bit 0 w.bw.isSome + bit 1 w.bw.isSome + bit 2 w.moisture.isSome + bit 3 w.moisture.isSome +
         bit 4 w.cal.isSome + bit 5 w.cal.isSome + bit 6 w.tsEdge.isSome + bit 7 w.dsEdge.isSome)] ++
      beBytes 4 w.number ++ beBytes 4 w.startTime ++ beBytes 4 w.endTime ++ edge w.tsEdge ++ edge w.dsEdge ++ beBytes 3 w.map.p0 ++
      beBytes 3 (w.map.width * 4096 + w.map.count) ++ beBytes 2 ((w.map.count + 19) / 20 * 1024 + w.validCount) ++
      value w.meanSpeed ++ both w.bw ++ both w.moisture ++ both w.cal ++ beBytes 2 skipped ∧
    (w.header src notice skipped).length = 44 ∧
    w.segment src i = [BitVec.ofNat 8 source, BitVec.ofNat 8 i] ++ beBytes 2 (20 * i) ++ beBytes 4 w.number ++
      (((w.slices.drop (20 * i)).take 20).mapIdx (fun j x => entry (20 * i + j) x)).flatten ∧
    (w.segment src i).length = 8 + 12 * min 20 (w.slices.length - 20 * i)) ∧
  (∀ r : BreakRecord, r.notice = ⟨0xC3, 0, beBytes 4 r.number ++ beBytes 4 r.time ++
      [BitVec.ofNat 8 r.firstOut.val, BitVec.ofNat 8 r.repeats] ++ beBytes 2 r.speed ++ [r.travState.code] ++ value r.cascadeClose ++
      [if r.restore = none then 0 else 1, BitVec.ofNat 8 r.losses.length] ++ r.losses.flatMap (fun l =>
        BitVec.ofNat 8 l.station.val :: (beBytes 2 l.offset ++ [if l.independent then 1 else 0, BitVec.ofNat 8 l.repeats]))⟩ ∧
    r.notice.payload.length = 17 + 5 * r.losses.length) ∧
  (∀ (ring : List RingEntry) (period batch : Nat),
    let held (f : MeasFlags) : Bool := f.clamp || f.underEnd || f.overEnd
    let newest (v : RingEntry → Nat) : List Byte := beBytes 4 ((ring.head?.map v).getD 0xFFFFFFFF)
    0 < batch → pointData ring period batch = ⟨0xC7, 0, newest RingEntry.number ++ newest (fun e => e.record.sample.time) ++
      beBytes 2 period ++ [0, 0, BitVec.ofNat 8 batch] ++ (ring.take batch).flatMap (fun e =>
        let r := e.record
        value r.bw ++ value r.water ++ value r.cal ++ [BitVec.ofNat 8 (bit 0 r.bw.isSome + bit 1 r.water.isSome + bit 2 r.cal.isSome +
          bit 3 (r.form = .raw) + bit 4 (held r.bwFlags || held r.waterFlags || held r.calFlags) + bit 5 (r.sample.sheet ≠ .all))])⟩ ∧
    (pointData ring period batch).payload.length = 13 + 7 * min batch ring.length) ∧
  ([TravState.unhomed, .homing, .parked, .standardizing, .approach, .scan, .turn, .point, .parking, .halted].map TravState.code =
      [0, 1, 2, 3, 4, 5, 6, 7, 8, 9] ∧
    [SheetState.noSheet, .running, .sheetBreak, .threading].map SheetState.code = [0, 1, 2, 3] ∧
    [LinkState.good, .degraded, .lost].map LinkState.code = [0, 1, 2] ∧
    [OpResult.complete, .aborted, .fault, .planDone, .sheetBreak, .link, .stdFailed, .stopped, .applied, .replaced, .unconfigured,
      .state, .badValue, .adopted, .adoptedDrift, .sheet, .channel, .drift, .shutter].map OpResult.code =
      [0, 1, 2, 3, 4, 5, 6, 7, 8, 9, 10, 11, 12, 16, 17, 18, 19, 20, 21]) ∧
  ∀ (s : State) (dt : Nat) (tag : Byte) (p : List Byte),
    let d := s.dev.advance dt
    let ok (kind : Byte) (data : List Byte) := s.replies d kind tag ([0, 0] ++ data)
    let no (kind code : Byte) := s.replies d kind tag [code, 0]
    let n := field p 0 1
    let there (b : Bool) : Byte := if b then 1 else 0
    d.clear →
    (let t := d.trv
     exec (.getScan dt tag p) s = ok 0x9F (
        there t.active.isSome :: ((t.active.map (fun k => k.bytes 0)).getD [] ++
        (match t.active, t.range with
          | some _, some r => positionBytes r.low ++ positionBytes r.high ++ beBytes 4 r.turn
          | _, _ => List.replicate 12 0xFF) ++
        there t.pending.isSome :: ((t.pending.map (fun e => e.1 :: e.2.bytes 1)).getD [] ++
        [BitVec.ofNat 8 ((t.active.map ScanSettings.base).getD 0), BitVec.ofNat 8 t.planCount] ++
        (match t.resume with
          | none => [0, 0xFF, 0xFF, 0xFF, 0xFF]
          | some .scan => [1, 0xFF, 0xFF, 0xFF, 0xFF]
          | some (.point x) => 2 :: beBytes 4 x) ++
        (match t.op with
          | none => [255, 255]
          | some o => [o.kind.code, o.tag]))))) ∧
    (let a := d.acq
     exec (.getChannels dt tag p) s = ok 0xA1 (
        there a.last.isSome :: ((a.last.map Sample.bytes).getD [] ++
        [BitVec.ofNat 8 a.dead.bw, BitVec.ofNat 8 a.dead.mw, BitVec.ofNat 8 a.dead.mr, BitVec.ofNat 8 a.dead.cal,
         BitVec.ofNat 8 a.flagged.mask, there a.sample.isSome, ((a.sample.map OpenSample.gating).map Gating.code).getD 255,
         there a.ppm.isSome] ++ beBytes 2 (a.ppm.getD 65535) ++ beBytes 4 (a.tachPeriod.getD 4294967295) ++ beBytes 2 a.speed))) ∧
    (let q := d.std
     let value (size : Nat) (v : Option Nat) : List Byte := beBytes size (v.getD (256 ^ size - 1))
     let drift (v : Option Nat) : List Byte := there v.isSome :: value 2 v
     let last : List Byte := match q.last with
       | none => []
       | some l => l.result.code :: (beBytes 4 l.time ++ beBytes 2 l.received ++ value 4 l.rBw ++ value 8 l.m ++ value 4 l.d0 ++
           value 4 l.rMw ++ value 4 l.rMr ++ drift l.driftBw ++ drift l.driftM ++ drift l.driftD0 ++ value 1 l.mask)
     exec (.getStd dt tag p) s = ok 0xAA (
        there q.settings.isSome :: ((q.settings.map StdSettings.bytes).getD [] ++
        [there q.calRbw.isSome + 2 * there q.calM.isSome + 4 * there q.calD0.isSome] ++ beBytes 4 (q.calRbw.getD 4294967295) ++
        beBytes 4 (q.calM.getD 4294967295) ++ beBytes 4 (q.calD0.getD 4294967295) ++ [there q.ref.isSome] ++
        ((q.ref.map (fun r => beBytes 4 r.time ++ beBytes 4 r.rBw ++ beBytes 8 r.m ++ beBytes 4 r.d0 ++ drift r.driftBw ++
          drift r.driftM ++ drift r.driftD0 ++ beBytes 2 r.rejectAt)).getD []) ++ beBytes 4 q.count ++
        beBytes 4 ((q.ref.map RefSet.scansSince).getD 4294967295) ++ [q.phase.code] ++ beBytes 2 q.received ++ beBytes 2 q.summed ++
        beBytes 1 q.settleLeft ++ [there q.last.isSome] ++ last))) ∧
    (p.length = 2 →
      let part := field p 1 1
      let chosen := if n = 1 then d.prf.latest else d.prf.filtered
      let src : ProfileSource := if n = 1 then .latest else .filtered
      (n = 0 ∨ 2 < n → exec (.getProfile dt tag p) s = no 0xB8 4) ∧
      (n = 1 ∨ n = 2 → chosen = none → exec (.getProfile dt tag p) s = no 0xB8 5) ∧
      (n = 1 ∨ n = 2 → ∀ w ∈ chosen,
        (part = 255 → exec (.getProfile dt tag p) s = ok 0xB8 (w.header src false d.prf.skip)) ∧
        (part ≠ 255 → part < (w.map.count + 19) / 20 → exec (.getProfile dt tag p) s = ok 0xB8 (w.segment src part)) ∧
        (part ≠ 255 → (w.map.count + 19) / 20 ≤ part → exec (.getProfile dt tag p) s = no 0xB8 4))) ∧
    (p.length = 1 →
      (exec (.getPoint dt tag p) s = if 63 < n then no 0xB9 4 else ok 0xB9 (
        BitVec.ofNat 8 d.prf.ring.length :: (beBytes 4 ((d.prf.ring.head?.map RingEntry.number).getD 4294967295) ++
        ((d.prf.ring.drop n).take 4).flatMap RingEntry.bytes))) ∧
      (7 < n → exec (.getWindow dt tag p) s = no 0xC1 4) ∧
      (∀ i : Fin 8, i.val = n →
        let w := d.window i
        exec (.getWindow dt tag p) s = ok 0xC1 (
          [BitVec.ofNat 8 n, there w.definition.isSome] ++ (w.definition.map WindowDef.bytes).getD [] ++
          [w.state.code, BitVec.ofNat 8 w.counter, there w.eval.isSome] ++
          (match w.eval with
            | none => []
            | some e => beBytes 4 e.scan ++ [e.outcome.code, there e.value.isSome] ++ beBytes 2 (e.value.getD 65535) ++
                [BitVec.ofNat 8 e.slices]) ++ [there w.excursion.isSome] ++
          (match w.excursion with
            | none => []
            | some x => [if x.above then 1 else 2] ++ beBytes 2 x.value ++ beBytes 4 x.scan))) ∧
      (exec (.getBreaks dt tag p) s = if 16 < n then no 0xCB 4 else ok 0xCB (
        [there d.brk.openRec.isSome, BitVec.ofNat 8 d.brk.history.length] ++ beBytes 4 d.brk.breakNumber ++
        ((if n = 0 then d.brk.openRec.toList ++ d.brk.history else d.brk.history.drop (n - 1)).take 3).flatMap BreakRecord.bytes)) ∧
      (exec (.getAlarms dt tag p) s = if 23 < n then no 0xD2 4 else ok 0xD2 (
        [there d.alm.rotating, BitVec.ofNat 8 d.alm.lowest.val, there d.alm.specialMask, there d.alm.autoAck] ++
        beBytes 3 d.alm.mask.toNat ++ [there d.alm.hold, BitVec.ofNat 8 (d.alm.countIn .requested),
          BitVec.ofNat 8 (d.alm.countIn .inService)] ++
        (match d.alm.candidate with
          | none => [255, 255]
          | some a => [BitVec.ofNat 8 a.val, if d.alm.hold then 2 else if d.alm.passes a then 1 else 0]) ++
        ((allSources.drop n).take 8).flatMap d.alarmBytes))) ∧
    (let l := d.lnk
     exec (.getLink dt tag []) s = ok 0x82 (
      [there l.baud, l.link.code, BitVec.ofNat 8 l.quality] ++ beBytes 2 l.counts.framing ++ beBytes 2 l.counts.gap ++
      beBytes 2 l.counts.length ++ beBytes 2 l.counts.crc ++ beBytes 2 l.counts.overrun ++ beBytes 2 l.counts.breaks ++
      beBytes 4 l.counts.good ++ beBytes 2 l.counts.lostDone ++
      [0, BitVec.ofNat 8 l.replyQ.length, BitVec.ofNat 8 l.alarmQ.length, BitVec.ofNat 8 l.eventQ.length,
       BitVec.ofNat 8 (countKind doneKind l.overflow), BitVec.ofNat 8 (countKind stateKind l.overflow), there l.rdy,
       there d.pins.hrdy, there (!l.startedHold)])) ∧
    (exec (.getStations dt tag []) s = ok 0xCA (
      allEight.flatMap d.stationBytes ++ [there d.brk.settings.isSome] ++
      ((d.brk.settings.map (fun k => beBytes 2 k.crawl ++ beBytes 2 k.cascade)).getD []) ++ [d.brk.sheet.code] ++
      beBytes 4 ((d.brk.openRec.map BreakRecord.number).getD 4294967295) ++
      [there d.brk.cascade.isSome, BitVec.ofNat 8 d.brk.due.length]))

/-- The persistence of a window (R119, R120, R121, R123): evaluations without data change neither state nor counter; a run of
evaluations out of limits leads from NORMAL over PENDING, the counter counting the run, to EXCURSION at the persistence; a run within
limits leads back the same way; a value equal to a limit is within. -/
def Obligations.WindowPersistence : Prop :=
  ∀ (f : WindowDef) (w : Window) (evals : List (Nat × List Nat)),
    let p := max 1 f.persistence
    let mean (l : List Nat) := l.sum / l.length
    let out (l : List Nat) := (∃ h ∈ f.high, h < mean l) ∨ ∃ h ∈ f.low, mean l < h
    let run (es : List (Nat × List Nat)) : Window := es.foldl (fun x e => x.evaluated f e.1 e.2) w
    let after := run evals
    let heard := evals.filter (fun e => !e.2.isEmpty)
    (after.state = (run heard).state ∧ after.counter = (run heard).counter ∧ after.excursion = (run heard).excursion) ∧
    ((∀ e ∈ heard, out e.2) → w.state = .normal → w.counter = 0 →
      (heard.length = 0 → after.state = .normal ∧ after.counter = 0) ∧
      (0 < heard.length → heard.length < p → after.state = .pending ∧ after.counter = heard.length) ∧
      (p ≤ heard.length → after.state = .excursion ∧ after.counter = 0 ∧
        ∀ e, heard[p - 1]? = some e → after.excursion = some ⟨decide (∃ h ∈ f.high, h < mean e.2), mean e.2, e.1⟩)) ∧
    ((∀ e ∈ heard, ¬out e.2) → w.state = .excursion → w.counter = 0 →
      after.excursion = w.excursion ∧
      (heard.length < p → after.state = .excursion ∧ after.counter = heard.length) ∧
      (p ≤ heard.length → after.state = .normal ∧ after.counter = 0)) ∧
    ((∀ e ∈ heard, ¬out e.2) → w.state = .pending → 0 < heard.length → after.state = .normal ∧ after.counter = 0)

/-! ## Break detection -/

/-- The stations and the sheet state (R128 to R137, R146): SET_STATION's refusals and effect; what a presence event does in each
station state; a restored station; the sheet state that the stations and the open record then give; the record that closes at the
entry to RUNNING. The model's choices: a presence row that reports no change does nothing (log 11), a station without a definition is
read with polarity 0 (log 21), an expiry brings the clock to the deadline (log 2). -/
def Obligations.StationsAct : Prop :=
  ∀ (s : State) (dt t : Nat) (tag : Byte) (p : List Byte) (n : Fin 8),
    let d := s.dev.advance dt
    let x := d.station n
    let restore := (x.definition.map StationDef.restore).getD 0
    let qualify := (x.definition.map StationDef.qualify).getD 0
    let hold (y : Station) := y.state = .disabled ∨ y.state = .present ∨ y.state = .losing
    let fits (e : Device) := e.brk.sheet =
      (if d.brk.openRec.isSome = true ∧ ∃ m : Fin 8, (e.station m).state = .broken then .sheetBreak
       else if ∀ m : Fin 8, hold (e.station m) then .running
       else if d.brk.openRec.isSome = true then .threading else .noSheet)
    let only (e : Device) (y : Station) := e.station n = y ∧ (∀ m : Fin 8, m ≠ n → e.station m = d.station m) ∧ fits e ∧
      e.brk.settings = d.brk.settings ∧ e.brk.breakNumber = d.brk.breakNumber
    let moved := d.moveStationInput n
    d.pins.reset = false → d.recordStands →
    (d.clear → p.length = 7 →
      let f : StationDef := ⟨decide (field p 1 1 = 1), decide (field p 2 1 = 1), clampTo 5 2000 (field p 3 2), clampTo 100 60000 (field p 5 2)⟩
      let same : Bool := decide (f.qualify = field p 3 2 ∧ f.restore = field p 5 2)
      let sheetShown := d.pins.stations[n] != f.polarity
      let bad := 7 < field p 0 1 ∨ 1 < field p 1 1 ∨ 1 < field p 2 1
      (d.brk.sheet = .sheetBreak ∨ d.brk.sheet = .threading → exec (.setStation dt tag p) s = s.replies d 0xC8 tag [7, 0]) ∧
      (d.brk.sheet = .running ∨ d.brk.sheet = .noSheet → bad → exec (.setStation dt tag p) s = s.replies d 0xC8 tag [4, 0]) ∧
      (d.brk.sheet = .running ∨ d.brk.sheet = .noSheet → ¬bad → f.enabled = true → d.brk.settings = none →
        exec (.setStation dt tag p) s = s.replies d 0xC8 tag [9, 0]) ∧
      (d.brk.sheet = .running ∨ d.brk.sheet = .noSheet → ¬bad → f.enabled = false ∨ d.brk.settings ≠ none → n.val = field p 0 1 →
        ∃ e : Device, exec (.setStation dt tag p) s = s.replies e 0xC8 tag [0, if same then 0 else 1] ∧ only e
          (if f.enabled = false then { x with definition := some f, state := .disabled, qualifyTimer := none, restoreTimer := none }
           else if x.state = .disabled ∨ (x.definition.map StationDef.polarity).getD false ≠ f.polarity then
             (if sheetShown then { x with definition := some f, state := .restoring, qualifyTimer := none,
                                          restoreTimer := some (d.clk + f.restore * 1000) }
              else { x with definition := some f, state := .noSheet, qualifyTimer := none, restoreTimer := none })
           else { x with definition := some f }))) ∧
    (d.showsSheet n = true → exec (.stationPresenceSeen dt n) s = s.ends d) ∧
    (d.showsSheet n = false →
      (moved true).showsSheet n = true ∧
      (x.state = .disabled ∨ x.state = .restoring ∨ x.state = .present → exec (.stationPresenceSeen dt n) s = s.ends (moved true)) ∧
      (x.state = .noSheet ∨ x.state = .broken → ∃ e : Device, exec (.stationPresenceSeen dt n) s = s.ends e ∧
        only e { x with state := .restoring, restoreTimer := some (d.clk + restore * 1000) } ∧ e.cond (srcBreak n) = false ∧
        e.pins = (moved true).pins) ∧
      (x.state = .losing → ∃ e : Device, exec (.stationPresenceSeen dt n) s = s.ends e ∧
        only e { x with state := .present, qualifyTimer := none, flickers := min (x.flickers + 1) 65535 } ∧
        e.pins = (moved true).pins)) ∧
    (d.showsSheet n = false → exec (.stationPresenceLost dt n) s = s.ends d) ∧
    (d.showsSheet n = true →
      (moved false).showsSheet n = false ∧
      (x.state = .disabled ∨ x.state = .noSheet ∨ x.state = .losing ∨ x.state = .broken →
        exec (.stationPresenceLost dt n) s = s.ends (moved false)) ∧
      (x.state = .restoring → ∃ e : Device, exec (.stationPresenceLost dt n) s = s.ends e ∧
        only e { x with state := .noSheet, restoreTimer := none }) ∧
      (x.state = .present → ∃ e : Device, exec (.stationPresenceLost dt n) s = s.ends e ∧
        only e (if (d.brk.settings.map BreakSettings.crawl).getD 0 ≤ d.acq.speed then
          { x with state := .losing, qualifyTimer := some (d.clk + qualify * 1000) } else { x with state := .noSheet }))) ∧
    (x.restoreTimer = some t → ∃ e : Device, exec (.restoreExpiry dt n) s = s.ends e ∧
      only e { x with state := .present, restoreTimer := none } ∧
      (∀ r ∈ d.brk.openRec, e.brk.sheet = .running → e.brk.openRec = none ∧ e.brk.cascade = none ∧
        ∃ q ∈ e.brk.history.head?, q.number = r.number ∧ q.losses = r.losses ∧
          q.restore = some ((d.setClk (max d.clk t)).since r.time)) ∧
      (e.brk.sheet ≠ .running → e.brk.openRec = d.brk.openRec ∧ e.brk.history = d.brk.history))

/-- A qualify timer expires (R39, R40, R97, R104, R134, R138 to R141, R147): at or above the crawl speed, in RUNNING, a break is
declared with its record, the sheet state is BREAK and the head leaves the sheet, its operation over with BREAK, to park, at once
within 20 fc of the park position (APPLIED there; the traverse state in a DONE: log 6); while a record is open the loss is entered once per
station, INDEPENDENT after the cascade window, or counted, at most 255; the condition of its station rises for the first-out station and
for an INDEPENDENT loss, also when it repeats, and a consequential loss raises nothing; below the crawl speed and in NO_SHEET the station
only loses its sheet. An expiry brings the clock to the deadline (log 2). -/
def Obligations.QualifiedLossesAct : Prop :=
  ∀ (s : State) (dt t : Nat) (n : Fin 8),
    let d := s.dev.advance dt
    let x := d.setClk (max d.clk t)
    let y := d.station n
    let fast := (d.brk.settings.map BreakSettings.crawl).getD 0 ≤ d.acq.speed
    let window := some (x.clk + (d.brk.settings.map BreakSettings.cascade).getD 0 * 1000)
    let others (e : Device) := (∀ m : Fin 8, m ≠ n → e.station m = d.station m) ∧ e.brk.history = d.brk.history ∧ e.brk.due = d.brk.due ∧
      e.brk.settings = d.brk.settings ∧ e.pins = d.pins ∧ e.cnv = d.cnv
    let lost (e : Device) := e.station n = { y with state := .broken, qualifyTimer := none, losses := min (y.losses + 1) 65535 } ∧
      e.brk.sheet = .sheetBreak ∧ others e
    d.pins.reset = false → d.recordStands → y.qualifyTimer = some t →
    (¬fast ∨ d.brk.sheet = .noSheet → ∃ e : Device, exec (.qualifyExpiry dt n) s = s.ends e ∧ others e ∧
      e.station n = { y with state := .noSheet, qualifyTimer := none, threadLosses := min (y.threadLosses + 1) 65535 } ∧
      e.brk.openRec = d.brk.openRec ∧ e.brk.breakNumber = d.brk.breakNumber) ∧
    (fast → d.brk.sheet = .running → ∃ e : Device, exec (.qualifyExpiry dt n) s = s.ends e ∧ lost e ∧
      let r : BreakRecord := ⟨(d.brk.breakNumber + 1) % 4294967296, x.now, n, 0, if d.trv.homed then some d.trv.counter else none,
        d.acq.speed, d.trv.state, d.prf.openScan.map OpenScan.number, [], none, none, false⟩
      e.brk.openRec = some r ∧ e.brk.breakNumber = r.number ∧ e.brk.cascade = window ∧ e.prf.reseed = true ∧
      e.cond (srcBreak n) = true ∧
      ((d.entry (srcBreak n)).state = .idle → (e.entry (srcBreak n)).value = some r.number) ∧
      e.trv.state.overSheet = false ∧ e.trv.counter = d.trv.counter ∧ e.trv.homed = d.trv.homed ∧ e.std.ref = d.std.ref ∧
      (d.trv.state.overSheet = false → e.trv.state = d.trv.state ∧ e.trv.op = d.trv.op ∧ e.trv.motion = d.trv.motion ∧
        e.tells d []) ∧
      (d.trv.state.overSheet = true → e.trv.op = none ∧ e.trv.openCmd = false ∧ e.prf.openScan = none ∧
        (∀ w ∈ d.prf.openScan, e.prf.latest =
          some (w.finish ((d.trv.active.map ScanSettings.minSamples).getD 1) x.now .abortedBreak)) ∧
        ∀ f, d.trv.frame = some f → d.trv.enable = true → f.softLow ≤ f.park → f.park ≤ f.softHigh →
          (if Machine.dist d.trv.counter f.park ≤ 20 then e.trv.state = .parked ∧ e.trv.enable = false ∧ e.trv.pending = none ∧
            e.tells d (d.opDone 4 8 ++ d.appliedDone 2) else e.tells d (d.opDone 4 8)) ∧
          (20 < Machine.dist d.trv.counter f.park → d.pins.limit (if d.trv.counter < f.park then .ds else .ts) = false →
          e.trv.state = .parking ∧ e.trv.motion = .move f.park f.travelSpeed .park ∧ e.trv.enable = true ∧
          e.trv.commanded = d.trv.commanded ∧ ∀ k o, d.trv.active = some k → k.autoResume = true → d.trv.op = some o →
            (o.kind = .scan → e.trv.resume = some .scan) ∧ (o.kind = .point → e.trv.resume = some (.point o.position))))) ∧
    (∀ r ∈ d.brk.openRec, fast → d.brk.sheet = .sheetBreak ∨ d.brk.sheet = .threading → ∃ e : Device,
      exec (.qualifyExpiry dt n) s = s.ends e ∧ lost e ∧ e.brk.breakNumber = d.brk.breakNumber ∧
      e.brk.cascade = (if d.brk.cascade.isSome then window else none) ∧
      let was := d.entry (srcBreak n)
      let now := e.entry (srcBreak n)
      let rises := now.live = true ∧ now.last = some x.now ∧
        (was.state = .idle → now.value = some r.number ∧ now.first = some x.now ∧ now.repeats = 0) ∧
        (was.state ≠ .idle → now.value = was.value ∧ now.first = was.first ∧ now.repeats = min (was.repeats + 1) 65535)
      let silent := now.live = was.live ∧ now.repeats = was.repeats ∧ now.first = was.first ∧ now.last = was.last ∧ now.value = was.value
      ∃ q, e.brk.openRec = some q ∧
        (r.firstOut = n → q = { r with repeats := min 255 (r.repeats + 1) } ∧ rises) ∧
        (r.firstOut ≠ n → (∀ l ∈ r.losses, l.station ≠ n) →
          q = { r with losses := r.losses ++ [⟨n, min (x.since r.time) 65535, d.brk.cascade.isNone, 0⟩] } ∧
          (d.brk.cascade = none → rises) ∧ (d.brk.cascade ≠ none → silent)) ∧
        ∀ l ∈ r.losses, r.firstOut ≠ n → l.station = n →
          q = { r with losses :=
            r.losses.map (fun m => if m.station = n then { m with repeats := min 255 (m.repeats + 1) } else m) } ∧
          (l.independent = true → rises) ∧ (l.independent = false → silent))

/-- The cascade window and the BREAK notices (R142, R143, R144, R146): the expiry records the time since the break, and the notice falls
due behind the others; each, oldest first, is placed while the queue has room, made from the record as it then stands, which is marked as
notified; a place that frees takes the oldest due notice. At the entry to RUNNING the record takes its restore time and, where its window
still runs, closes that and falls due the same way; it then enters the history of sixteen, the due entry of a dropped record going with
it. That a placement after the queue was full is its own row is the model's choice (log 7); an expiry brings the clock to the deadline
(log 2). -/
def Obligations.BreakNoticesFallDue : Prop :=
  ∀ (s : State) (dt t : Nat) (r : BreakRecord),
    let d := s.dev.advance dt
    let x := d.setClk (max d.clk t)
    let closed : BreakRecord := { r with cascadeClose := some (min (x.since r.time) 65535) }
    let told (n : Nat) (q : BreakRecord) : BreakRecord := if q.number = n then { q with notified := true } else q
    let falls (y : Device) (q : BreakRecord) (b : Brk) : Device :=
      let due := d.brk.due ++ [q.number]
      let sent := due.take (8 - d.lnk.eventQ.length)
      let mark (z : BreakRecord) : BreakRecord := { z with notified := z.notified || decide (z.number ∈ sent) }
      (y.setBrk { b with openRec := some (mark q), history := d.brk.history.map mark, due := due.drop sent.length }).setLnk
        { d.lnk with eventQ := d.lnk.eventQ ++ sent.filterMap (fun n =>
          ((q :: d.brk.history).find? (fun z => z.number = n)).map BreakRecord.notice) }
    d.pins.reset = false →
    (d.brk.cascade = some t → d.brk.openRec = some r → d.brk.due = [] → d.lnk.eventQ.length < 8 →
      exec (.cascadeExpiry dt) s = s.ends ((x.setBrk { d.brk with
        openRec := some { closed with notified := true }, history := d.brk.history.map (told r.number), cascade := none }).setLnk
        { d.lnk with eventQ := d.lnk.eventQ ++ [closed.notice] })) ∧
    (d.brk.cascade = some t → d.brk.openRec = some r → 8 ≤ d.lnk.eventQ.length →
      exec (.cascadeExpiry dt) s = s.ends (x.setBrk { d.brk with
        openRec := some closed, cascade := none, due := d.brk.due ++ [r.number] })) ∧
    (d.brk.cascade = some t → d.brk.openRec = some r → (∀ n ∈ d.brk.due, ∃ q ∈ r :: d.brk.history, q.number = n) →
      exec (.cascadeExpiry dt) s = s.ends (falls x closed { d.brk with cascade := none })) ∧
    (∀ n : Fin 8, d.brk.openRec = some r → d.trv.resume = none → (d.station n).restoreTimer = some t →
      (d.station n).state = .restoring → (∀ m, m ≠ n → (d.station m).state = .disabled ∨ (d.station m).state = .present ∨
        (d.station m).state = .losing) → d.brk.sheet ≠ .running →
      (∀ m ∈ d.brk.due, ∃ q ∈ r :: d.brk.history, q.number = m) →
      let up := d.brk.stations.set n { d.station n with state := .present, restoreTimer := none }
      let back : BreakRecord := { (if d.brk.cascade.isSome then closed else r) with restore := some (x.since r.time) }
      let b : Brk := { d.brk with stations := up, sheet := .running, openRec := some back, cascade := none }
      let y := if d.brk.cascade.isSome then falls x back b else x.setBrk b
      exec (.restoreExpiry dt n) s = s.ends ((y.setBrk { y.brk with
        openRec := none, history := (y.brk.openRec.toList ++ y.brk.history).take 16,
        due := y.brk.due.filter (fun m => !((y.brk.history.drop 15).any (fun q => q.number = m))) }).setChanged true)) ∧
    (∀ n rest, d.brk.due = n :: rest → d.lnk.eventQ.length < 8 → (d.brk.openRec.toList ++ d.brk.history).find? (fun q => q.number = n) = some r →
      exec (.breakNoticePlaced dt) s = s.ends ((d.setBrk { d.brk with
        openRec := d.brk.openRec.map (told n), history := d.brk.history.map (told n), due := rest }).setLnk
        { d.lnk with eventQ := d.lnk.eventQ ++ [r.notice] })) ∧
    (d.brk.due = [] ∨ 8 ≤ d.lnk.eventQ.length → exec (.breakNoticePlaced dt) s = s.ends d)

/-! ## Alarms -/

/-- Latching, clearing and choosing (R153 to R157, R160, R171): a rise latches an IDLE entry with its value and times, or counts a
repeat; a fall clears the live condition and returns a STANDING entry to IDLE; the candidate is the unmasked REQUESTED entry of the
smallest rank. Under nested delivery it passes its test when no entry in service is of equal or higher priority (R161), in special-mask
mode always (R162). An examination places the candidate's ALARM notice while it passes and the queue has room: source, live and
auto-acknowledge flags, repeat count, value and first time as they stand (R159, 10 section 10.8); the entry goes in service, or with
auto-acknowledge past it, rotating L (R160, R163, R164); then the next candidate is examined. Under the delivery hold it places nothing,
and after any other one no deliverable request waits. -/
def Obligations.AlarmsLatch : Prop :=
  ∀ (d : Device) (a : Fin 24) (v : Nat),
    let e := d.entry a
    let up := (d.rise a v).entry a
    let down := d.fall a
    let rank (b : Fin 24) : Nat := (b.val + 24 - d.alm.lowest.val + 23) % 24
    let notice : Frame := ⟨0xC4, 0, [BitVec.ofNat 8 a.val, (if e.live then 1 else 0) + (if d.alm.autoAck then 2 else 0)] ++
      beBytes 2 e.repeats ++ beBytes 4 (e.value.getD 4294967295) ++ beBytes 4 (e.first.getD 4294967295)⟩
    let placed : Device := (d.setLnk { d.lnk with alarmQ := d.lnk.alarmQ ++ [notice] }).setAlm { d.alm with
      entries := d.alm.entries.set a { e with
        state := if d.alm.autoAck then (if e.live then .standing else .idle) else .inService },
      lowest := if d.alm.autoAck && d.alm.rotating then a else d.alm.lowest }
    (e.state = .idle → up.live = true ∧ up.repeats = 0 ∧ up.value = some v ∧ up.first = some d.now ∧ up.last = some d.now ∧
      (up.state = .requested ∨ up.state = .inService ∨ up.state = .standing)) ∧
    (e.state ≠ .idle → up.live = true ∧ up.repeats = min (e.repeats + 1) 65535 ∧ up.value = e.value ∧ up.first = e.first ∧
      up.last = some d.now) ∧
    (d.alm.hold = true → up.state = (if e.state = .idle then .requested else e.state) ∧ (d.rise a v).lnk = d.lnk ∧
      d.examine = d) ∧
    (down.entry a = { e with live := false, state := if e.state = .standing then .idle else e.state } ∧ down.lnk = d.lnk ∧
      ∀ b : Fin 24, b ≠ a → down.entry b = d.entry b) ∧
    (d.alm.candidate = some a ↔ e.state = .requested ∧ d.alm.mask.getLsbD a.val = false ∧
      ∀ b : Fin 24, (d.entry b).state = .requested → d.alm.mask.getLsbD b.val = false → rank a ≤ rank b) ∧
    (d.alm.passes a = true ↔ d.alm.specialMask = true ∨ ∀ b : Fin 24, (d.entry b).state = .inService → rank a < rank b) ∧
    (d.alm.hold = false → d.alm.candidate = some a → d.alm.passes a = true → d.lnk.alarmQ.length < 8 →
      d.examine = placed.examine) ∧
    (d.alm.candidate = none ∨ (d.alm.candidate = some a ∧ d.alm.passes a = false) ∨ 8 ≤ d.lnk.alarmQ.length → d.examine = d) ∧
    d.examine.alarmsServed ∧
    (∀ b : Fin 24, (d.entry b).state ≠ .requested → d.alm.autoAck = false → d.examine.entry b = d.entry b) ∧
    (∀ b : Fin 24, d.alm.mask.getLsbD b.val = true → d.alm.autoAck = false → d.examine.entry b = d.entry b)

/-- ACK and SET_ALARM_MODE (R158, R165, R166, R168): their refusals; an acknowledged entry goes to STANDING while its condition is
live, else to IDLE, in rotating mode its source becomes the lowest priority, and an examination follows; a mode command replaces all
five settings and starts one. The codes 3 and 0 of the entry's new state in ACK's reply are the model's choice (log 9). -/
def Obligations.AlarmCommandsAct : Prop :=
  ∀ (s : State) (dt : Nat) (tag : Byte) (p : List Byte),
    let d := s.dev.advance dt
    let n := field p 0 1
    let acked (a : Fin 24) : Device :=
      let e := d.entry a
      d.setAlm { d.alm with
        entries := d.alm.entries.set a { e with state := if e.live then .standing else .idle },
        lowest := if d.alm.rotating then a else d.alm.lowest }
    let done (a : Fin 24) := s.replies (acked a).examine 0xD0 tag
      [0, 0, BitVec.ofNat 8 a.val, if (d.entry a).live then 3 else 0]
    d.clear →
    (p.length = 1 →
      (24 ≤ n → n < 255 → exec (.ack dt tag p) s = s.replies d 0xD0 tag [4, 0]) ∧
      (∀ a : Fin 24, n = a.val → (d.entry a).state ≠ .inService → exec (.ack dt tag p) s = s.replies d 0xD0 tag [5, 0]) ∧
      (∀ a : Fin 24, n = a.val → (d.entry a).state = .inService → exec (.ack dt tag p) s = done a) ∧
      (n = 255 → (∀ a : Fin 24, (d.entry a).state ≠ .inService) → exec (.ack dt tag p) s = s.replies d 0xD0 tag [5, 0]) ∧
      (∀ a : Fin 24, n = 255 → (d.entry a).state = .inService →
        (∀ b : Fin 24, (d.entry b).state = .inService → d.alm.rank a ≤ d.alm.rank b) → exec (.ack dt tag p) s = done a)) ∧
    (p.length = 7 →
      let bad := 1 < field p 0 1 ∨ 23 < field p 1 1 ∨ 1 < field p 2 1 ∨ 1 < field p 3 1
      (bad → exec (.setAlarmMode dt tag p) s = s.replies d 0xD1 tag [4, 0]) ∧
      (¬bad → ∀ l : Fin 24, l.val = field p 1 1 → exec (.setAlarmMode dt tag p) s = s.replies (d.setAlm { d.alm with
        rotating := decide (field p 0 1 = 1), lowest := l, specialMask := decide (field p 2 1 = 1),
        autoAck := decide (field p 3 1 = 1), mask := BitVec.ofNat 24 (field p 4 3) }).examine 0xD1 tag [0, 0]))

/-! ## What every step keeps -/

/-- At reset the part is sound in every sense that the steps keep. -/
def Obligations.ResetIsSound : Prop :=
  let d := State.reset.dev
  d.shutterFollows ∧ d.driveDead ∧ d.enableFollows ∧ d.offSheet ∧ d.measuresInPlace ∧ d.queuesSound ∧ d.linkSound ∧
    d.recordStands ∧ d.countsInRange ∧ d.referenceSound ∧ d.conditionsFollow ∧ d.alarmsServed

/-- Every step keeps the shutter where R17 has it, and the drive dead while ENABLE is low (R10, R12, R14). -/
def Obligations.StepKeepsShutterAndDrive : Prop :=
  ∀ s t : State, step s = .next t →
    (s.dev.shutterFollows → t.dev.shutterFollows) ∧ (s.dev.driveDead → t.dev.driveDead)

/-- Every step keeps ENABLE with the traverse state as R10 has it. -/
def Obligations.StepKeepsEnable : Prop := ∀ s t : State, s.dev.enableFollows → step s = .next t → t.dev.enableFollows

/-- Every step keeps the head off the sheet while the sheet state is BREAK or the link state LOST (R39). -/
def Obligations.StepKeepsOffSheet : Prop :=
  ∀ s t : State, s.dev.enableFollows → s.dev.offSheet → step s = .next t → t.dev.offSheet

/-- Every step keeps measuring to its states (R50, R51, R62, R96, R97): a scan record is open exactly in SCAN. -/
def Obligations.StepKeepsMeasuringInPlace : Prop :=
  ∀ s t : State, s.dev.enableFollows → s.dev.measuresInPlace → step s = .next t → t.dev.measuresInPlace

/-- Every step keeps the bounds of the link's queues and RDY (R160, R177, R178, R182, R186, R187, R188), and the link state where the
quality counter has it (R180). -/
def Obligations.StepKeepsQueuesAndLink : Prop :=
  ∀ s t : State, step s = .next t →
    (s.dev.queuesSound → t.dev.queuesSound) ∧ (s.dev.linkSound → t.dev.linkSound)

/-- Every step keeps the break record with the sheet state (R129, R136, R141, R142, R146), the counts in their ranges (R1, R4, R29,
R110), and a reference set that conversion can divide by and whose drifts stood within the reject limit at its adoption (R65, R66,
R67). -/
def Obligations.StepKeepsRecords : Prop :=
  ∀ s t : State, step s = .next t →
    (s.dev.recordStands → t.dev.recordStands) ∧ (s.dev.countsInRange → t.dev.countsInRange) ∧
    (s.dev.referenceSound → t.dev.referenceSound)

/-- Every step keeps the live conditions at their owners' levels wherever other state shows the level (R6, R16, R18, R52, R69, R70, R122,
R147, R152, R181): OVERTRAVEL, SHUTTER with its mismatch timer, the stations, CHANNEL_FAULT, LINK_DEGRADED and the windows in both
directions, POSITION_LOST never with a known position, STD_FAIL and STD_DRIFT after a last standardize that failed or was adopted; after
every step no deliverable alarm waits (R160, R169). The level of DRIVE_FAULT, and that of POSITION_LOST without a position, is only their
last rise or fall: `DriveIsSupervised`, `MotionCommandsAreJudged` and `ResumeActs` say where the one rises and falls,
`IllegalTransitionsCount` and `HomeSwitchCloses` where the other does. -/
def Obligations.StepKeepsAlarms : Prop :=
  ∀ s t : State, step s = .next t →
    (s.dev.recordStands → s.dev.conditionsFollow → t.dev.conditionsFollow) ∧
    (s.dev.queuesSound → s.dev.alarmsServed → t.dev.alarmsServed)
end

