-- ==== Sys2Proof/Laws/State.lean ====
section
/-! SUPPORT. One lemma per field per update of the part, true by rfl: no later proof unfolds a record update. -/

namespace Sys2Proof.Machine

/-! ## Updates of the part -/

section
variable (d : Device) (x : Nat)
@[simp] theorem Device.setClk_clk : (d.setClk x).clk = x := rfl
@[simp] theorem Device.setClk_timeBase : (d.setClk x).timeBase = d.timeBase := rfl
@[simp] theorem Device.setClk_stateChanged : (d.setClk x).stateChanged = d.stateChanged := rfl
@[simp] theorem Device.setClk_pins : (d.setClk x).pins = d.pins := rfl
@[simp] theorem Device.setClk_trv : (d.setClk x).trv = d.trv := rfl
@[simp] theorem Device.setClk_acq : (d.setClk x).acq = d.acq := rfl
@[simp] theorem Device.setClk_std : (d.setClk x).std = d.std := rfl
@[simp] theorem Device.setClk_cnv : (d.setClk x).cnv = d.cnv := rfl
@[simp] theorem Device.setClk_prf : (d.setClk x).prf = d.prf := rfl
@[simp] theorem Device.setClk_win : (d.setClk x).win = d.win := rfl
@[simp] theorem Device.setClk_brk : (d.setClk x).brk = d.brk := rfl
@[simp] theorem Device.setClk_alm : (d.setClk x).alm = d.alm := rfl
@[simp] theorem Device.setClk_lnk : (d.setClk x).lnk = d.lnk := rfl
theorem Device.setClk_self : d.setClk d.clk = d := rfl
end

section
variable (d : Device) (x : Nat)
@[simp] theorem Device.setTimeBase_clk : (d.setTimeBase x).clk = d.clk := rfl
@[simp] theorem Device.setTimeBase_timeBase : (d.setTimeBase x).timeBase = x := rfl
@[simp] theorem Device.setTimeBase_stateChanged : (d.setTimeBase x).stateChanged = d.stateChanged := rfl
@[simp] theorem Device.setTimeBase_pins : (d.setTimeBase x).pins = d.pins := rfl
@[simp] theorem Device.setTimeBase_trv : (d.setTimeBase x).trv = d.trv := rfl
@[simp] theorem Device.setTimeBase_acq : (d.setTimeBase x).acq = d.acq := rfl
@[simp] theorem Device.setTimeBase_std : (d.setTimeBase x).std = d.std := rfl
@[simp] theorem Device.setTimeBase_cnv : (d.setTimeBase x).cnv = d.cnv := rfl
@[simp] theorem Device.setTimeBase_prf : (d.setTimeBase x).prf = d.prf := rfl
@[simp] theorem Device.setTimeBase_win : (d.setTimeBase x).win = d.win := rfl
@[simp] theorem Device.setTimeBase_brk : (d.setTimeBase x).brk = d.brk := rfl
@[simp] theorem Device.setTimeBase_alm : (d.setTimeBase x).alm = d.alm := rfl
@[simp] theorem Device.setTimeBase_lnk : (d.setTimeBase x).lnk = d.lnk := rfl
theorem Device.setTimeBase_self : d.setTimeBase d.timeBase = d := rfl
end

section
variable (d : Device) (x : Bool)
@[simp] theorem Device.setChanged_clk : (d.setChanged x).clk = d.clk := rfl
@[simp] theorem Device.setChanged_timeBase : (d.setChanged x).timeBase = d.timeBase := rfl
@[simp] theorem Device.setChanged_stateChanged : (d.setChanged x).stateChanged = x := rfl
@[simp] theorem Device.setChanged_pins : (d.setChanged x).pins = d.pins := rfl
@[simp] theorem Device.setChanged_trv : (d.setChanged x).trv = d.trv := rfl
@[simp] theorem Device.setChanged_acq : (d.setChanged x).acq = d.acq := rfl
@[simp] theorem Device.setChanged_std : (d.setChanged x).std = d.std := rfl
@[simp] theorem Device.setChanged_cnv : (d.setChanged x).cnv = d.cnv := rfl
@[simp] theorem Device.setChanged_prf : (d.setChanged x).prf = d.prf := rfl
@[simp] theorem Device.setChanged_win : (d.setChanged x).win = d.win := rfl
@[simp] theorem Device.setChanged_brk : (d.setChanged x).brk = d.brk := rfl
@[simp] theorem Device.setChanged_alm : (d.setChanged x).alm = d.alm := rfl
@[simp] theorem Device.setChanged_lnk : (d.setChanged x).lnk = d.lnk := rfl
theorem Device.setChanged_self : d.setChanged d.stateChanged = d := rfl
end

section
variable (d : Device) (x : Pins)
@[simp] theorem Device.setPins_clk : (d.setPins x).clk = d.clk := rfl
@[simp] theorem Device.setPins_timeBase : (d.setPins x).timeBase = d.timeBase := rfl
@[simp] theorem Device.setPins_stateChanged : (d.setPins x).stateChanged = d.stateChanged := rfl
@[simp] theorem Device.setPins_pins : (d.setPins x).pins = x := rfl
@[simp] theorem Device.setPins_trv : (d.setPins x).trv = d.trv := rfl
@[simp] theorem Device.setPins_acq : (d.setPins x).acq = d.acq := rfl
@[simp] theorem Device.setPins_std : (d.setPins x).std = d.std := rfl
@[simp] theorem Device.setPins_cnv : (d.setPins x).cnv = d.cnv := rfl
@[simp] theorem Device.setPins_prf : (d.setPins x).prf = d.prf := rfl
@[simp] theorem Device.setPins_win : (d.setPins x).win = d.win := rfl
@[simp] theorem Device.setPins_brk : (d.setPins x).brk = d.brk := rfl
@[simp] theorem Device.setPins_alm : (d.setPins x).alm = d.alm := rfl
@[simp] theorem Device.setPins_lnk : (d.setPins x).lnk = d.lnk := rfl
theorem Device.setPins_self : d.setPins d.pins = d := rfl
end

section
variable (d : Device) (x : Trv)
@[simp] theorem Device.setTrv_clk : (d.setTrv x).clk = d.clk := rfl
@[simp] theorem Device.setTrv_timeBase : (d.setTrv x).timeBase = d.timeBase := rfl
@[simp] theorem Device.setTrv_stateChanged : (d.setTrv x).stateChanged = d.stateChanged := rfl
@[simp] theorem Device.setTrv_pins : (d.setTrv x).pins = d.pins := rfl
@[simp] theorem Device.setTrv_trv : (d.setTrv x).trv = x := rfl
@[simp] theorem Device.setTrv_acq : (d.setTrv x).acq = d.acq := rfl
@[simp] theorem Device.setTrv_std : (d.setTrv x).std = d.std := rfl
@[simp] theorem Device.setTrv_cnv : (d.setTrv x).cnv = d.cnv := rfl
@[simp] theorem Device.setTrv_prf : (d.setTrv x).prf = d.prf := rfl
@[simp] theorem Device.setTrv_win : (d.setTrv x).win = d.win := rfl
@[simp] theorem Device.setTrv_brk : (d.setTrv x).brk = d.brk := rfl
@[simp] theorem Device.setTrv_alm : (d.setTrv x).alm = d.alm := rfl
@[simp] theorem Device.setTrv_lnk : (d.setTrv x).lnk = d.lnk := rfl
theorem Device.setTrv_self : d.setTrv d.trv = d := rfl
end

section
variable (d : Device) (x : Acq)
@[simp] theorem Device.setAcq_clk : (d.setAcq x).clk = d.clk := rfl
@[simp] theorem Device.setAcq_timeBase : (d.setAcq x).timeBase = d.timeBase := rfl
@[simp] theorem Device.setAcq_stateChanged : (d.setAcq x).stateChanged = d.stateChanged := rfl
@[simp] theorem Device.setAcq_pins : (d.setAcq x).pins = d.pins := rfl
@[simp] theorem Device.setAcq_trv : (d.setAcq x).trv = d.trv := rfl
@[simp] theorem Device.setAcq_acq : (d.setAcq x).acq = x := rfl
@[simp] theorem Device.setAcq_std : (d.setAcq x).std = d.std := rfl
@[simp] theorem Device.setAcq_cnv : (d.setAcq x).cnv = d.cnv := rfl
@[simp] theorem Device.setAcq_prf : (d.setAcq x).prf = d.prf := rfl
@[simp] theorem Device.setAcq_win : (d.setAcq x).win = d.win := rfl
@[simp] theorem Device.setAcq_brk : (d.setAcq x).brk = d.brk := rfl
@[simp] theorem Device.setAcq_alm : (d.setAcq x).alm = d.alm := rfl
@[simp] theorem Device.setAcq_lnk : (d.setAcq x).lnk = d.lnk := rfl
theorem Device.setAcq_self : d.setAcq d.acq = d := rfl
end

section
variable (d : Device) (x : Std)
@[simp] theorem Device.setStd_clk : (d.setStd x).clk = d.clk := rfl
@[simp] theorem Device.setStd_timeBase : (d.setStd x).timeBase = d.timeBase := rfl
@[simp] theorem Device.setStd_stateChanged : (d.setStd x).stateChanged = d.stateChanged := rfl
@[simp] theorem Device.setStd_pins : (d.setStd x).pins = d.pins := rfl
@[simp] theorem Device.setStd_trv : (d.setStd x).trv = d.trv := rfl
@[simp] theorem Device.setStd_acq : (d.setStd x).acq = d.acq := rfl
@[simp] theorem Device.setStd_std : (d.setStd x).std = x := rfl
@[simp] theorem Device.setStd_cnv : (d.setStd x).cnv = d.cnv := rfl
@[simp] theorem Device.setStd_prf : (d.setStd x).prf = d.prf := rfl
@[simp] theorem Device.setStd_win : (d.setStd x).win = d.win := rfl
@[simp] theorem Device.setStd_brk : (d.setStd x).brk = d.brk := rfl
@[simp] theorem Device.setStd_alm : (d.setStd x).alm = d.alm := rfl
@[simp] theorem Device.setStd_lnk : (d.setStd x).lnk = d.lnk := rfl
theorem Device.setStd_self : d.setStd d.std = d := rfl
end

section
variable (d : Device) (x : Cnv)
@[simp] theorem Device.setCnv_clk : (d.setCnv x).clk = d.clk := rfl
@[simp] theorem Device.setCnv_timeBase : (d.setCnv x).timeBase = d.timeBase := rfl
@[simp] theorem Device.setCnv_stateChanged : (d.setCnv x).stateChanged = d.stateChanged := rfl
@[simp] theorem Device.setCnv_pins : (d.setCnv x).pins = d.pins := rfl
@[simp] theorem Device.setCnv_trv : (d.setCnv x).trv = d.trv := rfl
@[simp] theorem Device.setCnv_acq : (d.setCnv x).acq = d.acq := rfl
@[simp] theorem Device.setCnv_std : (d.setCnv x).std = d.std := rfl
@[simp] theorem Device.setCnv_cnv : (d.setCnv x).cnv = x := rfl
@[simp] theorem Device.setCnv_prf : (d.setCnv x).prf = d.prf := rfl
@[simp] theorem Device.setCnv_win : (d.setCnv x).win = d.win := rfl
@[simp] theorem Device.setCnv_brk : (d.setCnv x).brk = d.brk := rfl
@[simp] theorem Device.setCnv_alm : (d.setCnv x).alm = d.alm := rfl
@[simp] theorem Device.setCnv_lnk : (d.setCnv x).lnk = d.lnk := rfl
theorem Device.setCnv_self : d.setCnv d.cnv = d := rfl
end

section
variable (d : Device) (x : Prf)
@[simp] theorem Device.setPrf_clk : (d.setPrf x).clk = d.clk := rfl
@[simp] theorem Device.setPrf_timeBase : (d.setPrf x).timeBase = d.timeBase := rfl
@[simp] theorem Device.setPrf_stateChanged : (d.setPrf x).stateChanged = d.stateChanged := rfl
@[simp] theorem Device.setPrf_pins : (d.setPrf x).pins = d.pins := rfl
@[simp] theorem Device.setPrf_trv : (d.setPrf x).trv = d.trv := rfl
@[simp] theorem Device.setPrf_acq : (d.setPrf x).acq = d.acq := rfl
@[simp] theorem Device.setPrf_std : (d.setPrf x).std = d.std := rfl
@[simp] theorem Device.setPrf_cnv : (d.setPrf x).cnv = d.cnv := rfl
@[simp] theorem Device.setPrf_prf : (d.setPrf x).prf = x := rfl
@[simp] theorem Device.setPrf_win : (d.setPrf x).win = d.win := rfl
@[simp] theorem Device.setPrf_brk : (d.setPrf x).brk = d.brk := rfl
@[simp] theorem Device.setPrf_alm : (d.setPrf x).alm = d.alm := rfl
@[simp] theorem Device.setPrf_lnk : (d.setPrf x).lnk = d.lnk := rfl
theorem Device.setPrf_self : d.setPrf d.prf = d := rfl
end

section
variable (d : Device) (x : Vector Window 8)
@[simp] theorem Device.setWin_clk : (d.setWin x).clk = d.clk := rfl
@[simp] theorem Device.setWin_timeBase : (d.setWin x).timeBase = d.timeBase := rfl
@[simp] theorem Device.setWin_stateChanged : (d.setWin x).stateChanged = d.stateChanged := rfl
@[simp] theorem Device.setWin_pins : (d.setWin x).pins = d.pins := rfl
@[simp] theorem Device.setWin_trv : (d.setWin x).trv = d.trv := rfl
@[simp] theorem Device.setWin_acq : (d.setWin x).acq = d.acq := rfl
@[simp] theorem Device.setWin_std : (d.setWin x).std = d.std := rfl
@[simp] theorem Device.setWin_cnv : (d.setWin x).cnv = d.cnv := rfl
@[simp] theorem Device.setWin_prf : (d.setWin x).prf = d.prf := rfl
@[simp] theorem Device.setWin_win : (d.setWin x).win = x := rfl
@[simp] theorem Device.setWin_brk : (d.setWin x).brk = d.brk := rfl
@[simp] theorem Device.setWin_alm : (d.setWin x).alm = d.alm := rfl
@[simp] theorem Device.setWin_lnk : (d.setWin x).lnk = d.lnk := rfl
theorem Device.setWin_self : d.setWin d.win = d := rfl
end

section
variable (d : Device) (x : Brk)
@[simp] theorem Device.setBrk_clk : (d.setBrk x).clk = d.clk := rfl
@[simp] theorem Device.setBrk_timeBase : (d.setBrk x).timeBase = d.timeBase := rfl
@[simp] theorem Device.setBrk_stateChanged : (d.setBrk x).stateChanged = d.stateChanged := rfl
@[simp] theorem Device.setBrk_pins : (d.setBrk x).pins = d.pins := rfl
@[simp] theorem Device.setBrk_trv : (d.setBrk x).trv = d.trv := rfl
@[simp] theorem Device.setBrk_acq : (d.setBrk x).acq = d.acq := rfl
@[simp] theorem Device.setBrk_std : (d.setBrk x).std = d.std := rfl
@[simp] theorem Device.setBrk_cnv : (d.setBrk x).cnv = d.cnv := rfl
@[simp] theorem Device.setBrk_prf : (d.setBrk x).prf = d.prf := rfl
@[simp] theorem Device.setBrk_win : (d.setBrk x).win = d.win := rfl
@[simp] theorem Device.setBrk_brk : (d.setBrk x).brk = x := rfl
@[simp] theorem Device.setBrk_alm : (d.setBrk x).alm = d.alm := rfl
@[simp] theorem Device.setBrk_lnk : (d.setBrk x).lnk = d.lnk := rfl
theorem Device.setBrk_self : d.setBrk d.brk = d := rfl
end

section
variable (d : Device) (x : Alm)
@[simp] theorem Device.setAlm_clk : (d.setAlm x).clk = d.clk := rfl
@[simp] theorem Device.setAlm_timeBase : (d.setAlm x).timeBase = d.timeBase := rfl
@[simp] theorem Device.setAlm_stateChanged : (d.setAlm x).stateChanged = d.stateChanged := rfl
@[simp] theorem Device.setAlm_pins : (d.setAlm x).pins = d.pins := rfl
@[simp] theorem Device.setAlm_trv : (d.setAlm x).trv = d.trv := rfl
@[simp] theorem Device.setAlm_acq : (d.setAlm x).acq = d.acq := rfl
@[simp] theorem Device.setAlm_std : (d.setAlm x).std = d.std := rfl
@[simp] theorem Device.setAlm_cnv : (d.setAlm x).cnv = d.cnv := rfl
@[simp] theorem Device.setAlm_prf : (d.setAlm x).prf = d.prf := rfl
@[simp] theorem Device.setAlm_win : (d.setAlm x).win = d.win := rfl
@[simp] theorem Device.setAlm_brk : (d.setAlm x).brk = d.brk := rfl
@[simp] theorem Device.setAlm_alm : (d.setAlm x).alm = x := rfl
@[simp] theorem Device.setAlm_lnk : (d.setAlm x).lnk = d.lnk := rfl
theorem Device.setAlm_self : d.setAlm d.alm = d := rfl
end

section
variable (d : Device) (x : Lnk)
@[simp] theorem Device.setLnk_clk : (d.setLnk x).clk = d.clk := rfl
@[simp] theorem Device.setLnk_timeBase : (d.setLnk x).timeBase = d.timeBase := rfl
@[simp] theorem Device.setLnk_stateChanged : (d.setLnk x).stateChanged = d.stateChanged := rfl
@[simp] theorem Device.setLnk_pins : (d.setLnk x).pins = d.pins := rfl
@[simp] theorem Device.setLnk_trv : (d.setLnk x).trv = d.trv := rfl
@[simp] theorem Device.setLnk_acq : (d.setLnk x).acq = d.acq := rfl
@[simp] theorem Device.setLnk_std : (d.setLnk x).std = d.std := rfl
@[simp] theorem Device.setLnk_cnv : (d.setLnk x).cnv = d.cnv := rfl
@[simp] theorem Device.setLnk_prf : (d.setLnk x).prf = d.prf := rfl
@[simp] theorem Device.setLnk_win : (d.setLnk x).win = d.win := rfl
@[simp] theorem Device.setLnk_brk : (d.setLnk x).brk = d.brk := rfl
@[simp] theorem Device.setLnk_alm : (d.setLnk x).alm = d.alm := rfl
@[simp] theorem Device.setLnk_lnk : (d.setLnk x).lnk = x := rfl
theorem Device.setLnk_self : d.setLnk d.lnk = d := rfl
end

/-! ## Updates of the machine -/

section
variable (s : State) (f : Device → Device)
@[simp] theorem State.onDevice_pending : (s.onDevice f).pending = s.pending := rfl
@[simp] theorem State.onDevice_dev : (s.onDevice f).dev = f s.dev := rfl
end

/-! ## The clock -/

section
variable (d : Device) (t : Nat)
@[simp] theorem Device.advance_clk : (d.advance t).clk = d.clk + t := rfl
@[simp] theorem Device.reach_clk : (d.reach t).clk = max d.clk t := rfl
@[simp] theorem Device.advance_timeBase : (d.advance t).timeBase = d.timeBase := rfl
@[simp] theorem Device.reach_timeBase : (d.reach t).timeBase = d.timeBase := rfl
@[simp] theorem Device.advance_stateChanged : (d.advance t).stateChanged = d.stateChanged := rfl
@[simp] theorem Device.reach_stateChanged : (d.reach t).stateChanged = d.stateChanged := rfl
@[simp] theorem Device.advance_pins : (d.advance t).pins = d.pins := rfl
@[simp] theorem Device.reach_pins : (d.reach t).pins = d.pins := rfl
@[simp] theorem Device.advance_trv : (d.advance t).trv = d.trv := rfl
@[simp] theorem Device.reach_trv : (d.reach t).trv = d.trv := rfl
@[simp] theorem Device.advance_acq : (d.advance t).acq = d.acq := rfl
@[simp] theorem Device.reach_acq : (d.reach t).acq = d.acq := rfl
@[simp] theorem Device.advance_std : (d.advance t).std = d.std := rfl
@[simp] theorem Device.reach_std : (d.reach t).std = d.std := rfl
@[simp] theorem Device.advance_cnv : (d.advance t).cnv = d.cnv := rfl
@[simp] theorem Device.reach_cnv : (d.reach t).cnv = d.cnv := rfl
@[simp] theorem Device.advance_prf : (d.advance t).prf = d.prf := rfl
@[simp] theorem Device.reach_prf : (d.reach t).prf = d.prf := rfl
@[simp] theorem Device.advance_win : (d.advance t).win = d.win := rfl
@[simp] theorem Device.reach_win : (d.reach t).win = d.win := rfl
@[simp] theorem Device.advance_brk : (d.advance t).brk = d.brk := rfl
@[simp] theorem Device.reach_brk : (d.reach t).brk = d.brk := rfl
@[simp] theorem Device.advance_alm : (d.advance t).alm = d.alm := rfl
@[simp] theorem Device.reach_alm : (d.reach t).alm = d.alm := rfl
@[simp] theorem Device.advance_lnk : (d.advance t).lnk = d.lnk := rfl
@[simp] theorem Device.reach_lnk : (d.reach t).lnk = d.lnk := rfl
end

/-! ## Parts of a block -/

section
variable (d : Device) (f : Frame)
@[simp] theorem Device.pushReply_clk : (d.pushReply f).clk = d.clk := rfl
@[simp] theorem Device.pushReply_timeBase : (d.pushReply f).timeBase = d.timeBase := rfl
@[simp] theorem Device.pushReply_stateChanged : (d.pushReply f).stateChanged = d.stateChanged := rfl
@[simp] theorem Device.pushReply_pins : (d.pushReply f).pins = d.pins := rfl
@[simp] theorem Device.pushReply_trv : (d.pushReply f).trv = d.trv := rfl
@[simp] theorem Device.pushReply_acq : (d.pushReply f).acq = d.acq := rfl
@[simp] theorem Device.pushReply_std : (d.pushReply f).std = d.std := rfl
@[simp] theorem Device.pushReply_cnv : (d.pushReply f).cnv = d.cnv := rfl
@[simp] theorem Device.pushReply_prf : (d.pushReply f).prf = d.prf := rfl
@[simp] theorem Device.pushReply_win : (d.pushReply f).win = d.win := rfl
@[simp] theorem Device.pushReply_brk : (d.pushReply f).brk = d.brk := rfl
@[simp] theorem Device.pushReply_alm : (d.pushReply f).alm = d.alm := rfl
end

section
variable (d : Device) (f : Frame)
@[simp] theorem Device.begin_clk : (d.begin f).clk = d.clk := rfl
@[simp] theorem Device.begin_timeBase : (d.begin f).timeBase = d.timeBase := rfl
@[simp] theorem Device.begin_stateChanged : (d.begin f).stateChanged = d.stateChanged := rfl
@[simp] theorem Device.begin_pins : (d.begin f).pins = d.pins := rfl
@[simp] theorem Device.begin_trv : (d.begin f).trv = d.trv := rfl
@[simp] theorem Device.begin_acq : (d.begin f).acq = d.acq := rfl
@[simp] theorem Device.begin_std : (d.begin f).std = d.std := rfl
@[simp] theorem Device.begin_cnv : (d.begin f).cnv = d.cnv := rfl
@[simp] theorem Device.begin_prf : (d.begin f).prf = d.prf := rfl
@[simp] theorem Device.begin_win : (d.begin f).win = d.win := rfl
@[simp] theorem Device.begin_brk : (d.begin f).brk = d.brk := rfl
@[simp] theorem Device.begin_alm : (d.begin f).alm = d.alm := rfl
end

@[simp] theorem Device.pushReply_replyQ (d : Device) (f : Frame) : (d.pushReply f).lnk.replyQ = d.lnk.replyQ ++ [f] := rfl
@[simp] theorem Device.pushReply_cmdQ (d : Device) (f : Frame) : (d.pushReply f).lnk.cmdQ = d.lnk.cmdQ := rfl
@[simp] theorem Device.pushReply_alarmQ (d : Device) (f : Frame) : (d.pushReply f).lnk.alarmQ = d.lnk.alarmQ := rfl
@[simp] theorem Device.pushReply_eventQ (d : Device) (f : Frame) : (d.pushReply f).lnk.eventQ = d.lnk.eventQ := rfl
@[simp] theorem Device.pushReply_overflow (d : Device) (f : Frame) : (d.pushReply f).lnk.overflow = d.lnk.overflow := rfl
@[simp] theorem Device.pushReply_tx (d : Device) (f : Frame) : (d.pushReply f).lnk.tx = d.lnk.tx := rfl
@[simp] theorem Device.pushReply_link (d : Device) (f : Frame) : (d.pushReply f).lnk.link = d.lnk.link := rfl
@[simp] theorem Device.begin_tx (d : Device) (f : Frame) : (d.begin f).lnk.tx = some f := rfl

end Sys2Proof.Machine
end

