-- ==== Sys2Proof/Laws/Notices.lean ====
section
/-! SUPPORT. What each shared operation leaves alone, said once per operation: alarm operations change the Alarm Controller and its
notice queue, offers change the notice queues, and no operation of the traverse or of the measurement touches what is outside. -/

namespace Sys2Proof.Machine

/-! ## Alarm operations (09) -/

/-- The part without the Alarm Controller's state and its notice queue. -/
def Device.lessAlarms (d : Device) : Device := (d.setAlm .reset).setLnk { d.lnk with alarmQ := [] }

section
variable (d : Device) (s : Fin 24)
@[simp] theorem Device.setEntry_lessAlarms (e : AlarmEntry) : (d.setEntry s e).lessAlarms = d.lessAlarms := rfl
@[simp] theorem Device.acknowledge_lessAlarms : (d.acknowledge s).lessAlarms = d.lessAlarms := by
  unfold Device.acknowledge; dsimp only; repeat' split
  all_goals rfl
@[simp] theorem Device.placeAlarm_lessAlarms : (d.placeAlarm s).lessAlarms = d.lessAlarms := by
  unfold Device.placeAlarm; dsimp only; split
  · simp only [Device.acknowledge_lessAlarms]; rfl
  · rfl
@[simp] theorem Device.examineLoop_lessAlarms (k : Nat) (d : Device) : (d.examineLoop k).lessAlarms = d.lessAlarms := by
  induction k generalizing d with
  | zero => rfl
  | succ k ih => unfold Device.examineLoop; split; · rfl
                 · split; · simp [ih]
                   · rfl
@[simp] theorem Device.examine_lessAlarms : d.examine.lessAlarms = d.lessAlarms := by
  unfold Device.examine; split <;> simp
@[simp] theorem Device.rise_lessAlarms (v : Nat) : (d.rise s v).lessAlarms = d.lessAlarms := by simp [Device.rise]
@[simp] theorem Device.fall_lessAlarms : (d.fall s).lessAlarms = d.lessAlarms := rfl
@[simp] theorem Device.fallIfActive_lessAlarms : (d.fallIfActive s).lessAlarms = d.lessAlarms := by
  unfold Device.fallIfActive; split <;> simp
end

/-- Equal parts but for alarms agree on every other block and on the link's other fields. -/
theorem Device.lessAlarms_fields {d e : Device} (h : e.lessAlarms = d.lessAlarms) :
    e.clk = d.clk ∧ e.timeBase = d.timeBase ∧ e.stateChanged = d.stateChanged ∧ e.pins = d.pins ∧ e.trv = d.trv ∧ e.acq = d.acq ∧
    e.std = d.std ∧ e.cnv = d.cnv ∧ e.prf = d.prf ∧ e.win = d.win ∧ e.brk = d.brk ∧
    { e.lnk with alarmQ := [] } = { d.lnk with alarmQ := [] } :=
  ⟨(congrArg Device.clk h :), (congrArg Device.timeBase h :), (congrArg Device.stateChanged h :), (congrArg Device.pins h :),
   (congrArg Device.trv h :), (congrArg Device.acq h :), (congrArg Device.std h :), (congrArg Device.cnv h :), (congrArg Device.prf h :),
   (congrArg Device.win h :), (congrArg Device.brk h :), (congrArg Device.lnk h :)⟩

section
variable (d : Device) (s : Fin 24) (v : Nat)
@[simp] theorem Device.rise_clk : (d.rise s v).clk = d.clk := (congrArg Device.clk (Device.rise_lessAlarms d s v) :)
@[simp] theorem Device.rise_timeBase : (d.rise s v).timeBase = d.timeBase := (congrArg Device.timeBase (Device.rise_lessAlarms d s v) :)
@[simp] theorem Device.rise_stateChanged : (d.rise s v).stateChanged = d.stateChanged := (congrArg Device.stateChanged (Device.rise_lessAlarms d s v) :)
@[simp] theorem Device.rise_pins : (d.rise s v).pins = d.pins := (congrArg Device.pins (Device.rise_lessAlarms d s v) :)
@[simp] theorem Device.rise_trv : (d.rise s v).trv = d.trv := (congrArg Device.trv (Device.rise_lessAlarms d s v) :)
@[simp] theorem Device.rise_acq : (d.rise s v).acq = d.acq := (congrArg Device.acq (Device.rise_lessAlarms d s v) :)
@[simp] theorem Device.rise_std : (d.rise s v).std = d.std := (congrArg Device.std (Device.rise_lessAlarms d s v) :)
@[simp] theorem Device.rise_cnv : (d.rise s v).cnv = d.cnv := (congrArg Device.cnv (Device.rise_lessAlarms d s v) :)
@[simp] theorem Device.rise_prf : (d.rise s v).prf = d.prf := (congrArg Device.prf (Device.rise_lessAlarms d s v) :)
@[simp] theorem Device.rise_win : (d.rise s v).win = d.win := (congrArg Device.win (Device.rise_lessAlarms d s v) :)
@[simp] theorem Device.rise_brk : (d.rise s v).brk = d.brk := (congrArg Device.brk (Device.rise_lessAlarms d s v) :)
@[simp] theorem Device.rise_link : (d.rise s v).lnk.link = d.lnk.link := (congrArg (fun e : Device => e.lnk.link) (Device.rise_lessAlarms d s v) :)
@[simp] theorem Device.rise_tx : (d.rise s v).lnk.tx = d.lnk.tx := (congrArg (fun e : Device => e.lnk.tx) (Device.rise_lessAlarms d s v) :)
@[simp] theorem Device.rise_cmdQ : (d.rise s v).lnk.cmdQ = d.lnk.cmdQ := (congrArg (fun e : Device => e.lnk.cmdQ) (Device.rise_lessAlarms d s v) :)
@[simp] theorem Device.rise_replyQ : (d.rise s v).lnk.replyQ = d.lnk.replyQ := (congrArg (fun e : Device => e.lnk.replyQ) (Device.rise_lessAlarms d s v) :)
@[simp] theorem Device.rise_eventQ : (d.rise s v).lnk.eventQ = d.lnk.eventQ := (congrArg (fun e : Device => e.lnk.eventQ) (Device.rise_lessAlarms d s v) :)
@[simp] theorem Device.rise_overflow : (d.rise s v).lnk.overflow = d.lnk.overflow := (congrArg (fun e : Device => e.lnk.overflow) (Device.rise_lessAlarms d s v) :)
@[simp] theorem Device.rise_rdy : (d.rise s v).lnk.rdy = d.lnk.rdy := (congrArg (fun e : Device => e.lnk.rdy) (Device.rise_lessAlarms d s v) :)
@[simp] theorem Device.rise_rx : (d.rise s v).lnk.rx = d.lnk.rx := (congrArg (fun e : Device => e.lnk.rx) (Device.rise_lessAlarms d s v) :)
@[simp] theorem Device.rise_quality : (d.rise s v).lnk.quality = d.lnk.quality := (congrArg (fun e : Device => e.lnk.quality) (Device.rise_lessAlarms d s v) :)
@[simp] theorem Device.rise_startedHold : (d.rise s v).lnk.startedHold = d.lnk.startedHold := (congrArg (fun e : Device => e.lnk.startedHold) (Device.rise_lessAlarms d s v) :)
@[simp] theorem Device.rise_counts : (d.rise s v).lnk.counts = d.lnk.counts := (congrArg (fun e : Device => e.lnk.counts) (Device.rise_lessAlarms d s v) :)
@[simp] theorem Device.rise_baud : (d.rise s v).lnk.baud = d.lnk.baud := (congrArg (fun e : Device => e.lnk.baud) (Device.rise_lessAlarms d s v) :)
end

section
variable (d : Device) (s : Fin 24)
@[simp] theorem Device.fallIfActive_clk : (d.fallIfActive s).clk = d.clk := (congrArg Device.clk (Device.fallIfActive_lessAlarms d s) :)
@[simp] theorem Device.fallIfActive_timeBase : (d.fallIfActive s).timeBase = d.timeBase := (congrArg Device.timeBase (Device.fallIfActive_lessAlarms d s) :)
@[simp] theorem Device.fallIfActive_stateChanged : (d.fallIfActive s).stateChanged = d.stateChanged := (congrArg Device.stateChanged (Device.fallIfActive_lessAlarms d s) :)
@[simp] theorem Device.fallIfActive_pins : (d.fallIfActive s).pins = d.pins := (congrArg Device.pins (Device.fallIfActive_lessAlarms d s) :)
@[simp] theorem Device.fallIfActive_trv : (d.fallIfActive s).trv = d.trv := (congrArg Device.trv (Device.fallIfActive_lessAlarms d s) :)
@[simp] theorem Device.fallIfActive_acq : (d.fallIfActive s).acq = d.acq := (congrArg Device.acq (Device.fallIfActive_lessAlarms d s) :)
@[simp] theorem Device.fallIfActive_std : (d.fallIfActive s).std = d.std := (congrArg Device.std (Device.fallIfActive_lessAlarms d s) :)
@[simp] theorem Device.fallIfActive_cnv : (d.fallIfActive s).cnv = d.cnv := (congrArg Device.cnv (Device.fallIfActive_lessAlarms d s) :)
@[simp] theorem Device.fallIfActive_prf : (d.fallIfActive s).prf = d.prf := (congrArg Device.prf (Device.fallIfActive_lessAlarms d s) :)
@[simp] theorem Device.fallIfActive_win : (d.fallIfActive s).win = d.win := (congrArg Device.win (Device.fallIfActive_lessAlarms d s) :)
@[simp] theorem Device.fallIfActive_brk : (d.fallIfActive s).brk = d.brk := (congrArg Device.brk (Device.fallIfActive_lessAlarms d s) :)
@[simp] theorem Device.fallIfActive_link : (d.fallIfActive s).lnk.link = d.lnk.link := (congrArg (fun e : Device => e.lnk.link) (Device.fallIfActive_lessAlarms d s) :)
@[simp] theorem Device.fallIfActive_tx : (d.fallIfActive s).lnk.tx = d.lnk.tx := (congrArg (fun e : Device => e.lnk.tx) (Device.fallIfActive_lessAlarms d s) :)
@[simp] theorem Device.fallIfActive_cmdQ : (d.fallIfActive s).lnk.cmdQ = d.lnk.cmdQ := (congrArg (fun e : Device => e.lnk.cmdQ) (Device.fallIfActive_lessAlarms d s) :)
@[simp] theorem Device.fallIfActive_replyQ : (d.fallIfActive s).lnk.replyQ = d.lnk.replyQ := (congrArg (fun e : Device => e.lnk.replyQ) (Device.fallIfActive_lessAlarms d s) :)
@[simp] theorem Device.fallIfActive_eventQ : (d.fallIfActive s).lnk.eventQ = d.lnk.eventQ := (congrArg (fun e : Device => e.lnk.eventQ) (Device.fallIfActive_lessAlarms d s) :)
@[simp] theorem Device.fallIfActive_overflow : (d.fallIfActive s).lnk.overflow = d.lnk.overflow := (congrArg (fun e : Device => e.lnk.overflow) (Device.fallIfActive_lessAlarms d s) :)
@[simp] theorem Device.fallIfActive_rdy : (d.fallIfActive s).lnk.rdy = d.lnk.rdy := (congrArg (fun e : Device => e.lnk.rdy) (Device.fallIfActive_lessAlarms d s) :)
@[simp] theorem Device.fallIfActive_rx : (d.fallIfActive s).lnk.rx = d.lnk.rx := (congrArg (fun e : Device => e.lnk.rx) (Device.fallIfActive_lessAlarms d s) :)
@[simp] theorem Device.fallIfActive_quality : (d.fallIfActive s).lnk.quality = d.lnk.quality := (congrArg (fun e : Device => e.lnk.quality) (Device.fallIfActive_lessAlarms d s) :)
@[simp] theorem Device.fallIfActive_startedHold : (d.fallIfActive s).lnk.startedHold = d.lnk.startedHold := (congrArg (fun e : Device => e.lnk.startedHold) (Device.fallIfActive_lessAlarms d s) :)
@[simp] theorem Device.fallIfActive_counts : (d.fallIfActive s).lnk.counts = d.lnk.counts := (congrArg (fun e : Device => e.lnk.counts) (Device.fallIfActive_lessAlarms d s) :)
@[simp] theorem Device.fallIfActive_baud : (d.fallIfActive s).lnk.baud = d.lnk.baud := (congrArg (fun e : Device => e.lnk.baud) (Device.fallIfActive_lessAlarms d s) :)
end

section
variable (d : Device) 
@[simp] theorem Device.examine_clk : (d.examine).clk = d.clk := (congrArg Device.clk (Device.examine_lessAlarms d) :)
@[simp] theorem Device.examine_timeBase : (d.examine).timeBase = d.timeBase := (congrArg Device.timeBase (Device.examine_lessAlarms d) :)
@[simp] theorem Device.examine_stateChanged : (d.examine).stateChanged = d.stateChanged := (congrArg Device.stateChanged (Device.examine_lessAlarms d) :)
@[simp] theorem Device.examine_pins : (d.examine).pins = d.pins := (congrArg Device.pins (Device.examine_lessAlarms d) :)
@[simp] theorem Device.examine_trv : (d.examine).trv = d.trv := (congrArg Device.trv (Device.examine_lessAlarms d) :)
@[simp] theorem Device.examine_acq : (d.examine).acq = d.acq := (congrArg Device.acq (Device.examine_lessAlarms d) :)
@[simp] theorem Device.examine_std : (d.examine).std = d.std := (congrArg Device.std (Device.examine_lessAlarms d) :)
@[simp] theorem Device.examine_cnv : (d.examine).cnv = d.cnv := (congrArg Device.cnv (Device.examine_lessAlarms d) :)
@[simp] theorem Device.examine_prf : (d.examine).prf = d.prf := (congrArg Device.prf (Device.examine_lessAlarms d) :)
@[simp] theorem Device.examine_win : (d.examine).win = d.win := (congrArg Device.win (Device.examine_lessAlarms d) :)
@[simp] theorem Device.examine_brk : (d.examine).brk = d.brk := (congrArg Device.brk (Device.examine_lessAlarms d) :)
@[simp] theorem Device.examine_link : (d.examine).lnk.link = d.lnk.link := (congrArg (fun e : Device => e.lnk.link) (Device.examine_lessAlarms d) :)
@[simp] theorem Device.examine_tx : (d.examine).lnk.tx = d.lnk.tx := (congrArg (fun e : Device => e.lnk.tx) (Device.examine_lessAlarms d) :)
@[simp] theorem Device.examine_cmdQ : (d.examine).lnk.cmdQ = d.lnk.cmdQ := (congrArg (fun e : Device => e.lnk.cmdQ) (Device.examine_lessAlarms d) :)
@[simp] theorem Device.examine_replyQ : (d.examine).lnk.replyQ = d.lnk.replyQ := (congrArg (fun e : Device => e.lnk.replyQ) (Device.examine_lessAlarms d) :)
@[simp] theorem Device.examine_eventQ : (d.examine).lnk.eventQ = d.lnk.eventQ := (congrArg (fun e : Device => e.lnk.eventQ) (Device.examine_lessAlarms d) :)
@[simp] theorem Device.examine_overflow : (d.examine).lnk.overflow = d.lnk.overflow := (congrArg (fun e : Device => e.lnk.overflow) (Device.examine_lessAlarms d) :)
@[simp] theorem Device.examine_rdy : (d.examine).lnk.rdy = d.lnk.rdy := (congrArg (fun e : Device => e.lnk.rdy) (Device.examine_lessAlarms d) :)
@[simp] theorem Device.examine_rx : (d.examine).lnk.rx = d.lnk.rx := (congrArg (fun e : Device => e.lnk.rx) (Device.examine_lessAlarms d) :)
@[simp] theorem Device.examine_quality : (d.examine).lnk.quality = d.lnk.quality := (congrArg (fun e : Device => e.lnk.quality) (Device.examine_lessAlarms d) :)
@[simp] theorem Device.examine_startedHold : (d.examine).lnk.startedHold = d.lnk.startedHold := (congrArg (fun e : Device => e.lnk.startedHold) (Device.examine_lessAlarms d) :)
@[simp] theorem Device.examine_counts : (d.examine).lnk.counts = d.lnk.counts := (congrArg (fun e : Device => e.lnk.counts) (Device.examine_lessAlarms d) :)
@[simp] theorem Device.examine_baud : (d.examine).lnk.baud = d.lnk.baud := (congrArg (fun e : Device => e.lnk.baud) (Device.examine_lessAlarms d) :)
end

/-- The alarm-notice queue only grows at its tail, and never beyond eight (R160). -/
theorem Device.examineLoop_alarmQ (k : Nat) (d : Device) :
    d.lnk.alarmQ <+: (d.examineLoop k).lnk.alarmQ ∧ ((d.examineLoop k).lnk.alarmQ.length ≤ max 8 d.lnk.alarmQ.length) := by
  induction k generalizing d with
  | zero => exact ⟨List.prefix_refl _, by simp [Device.examineLoop]⟩
  | succ k ih =>
    unfold Device.examineLoop
    split
    · exact ⟨List.prefix_refl _, by simp⟩
    · rename_i s _
      split
      · rename_i h
        have hq : (d.placeAlarm s).lnk.alarmQ = d.lnk.alarmQ ++ [d.alm.notice s] := by
          unfold Device.placeAlarm Device.acknowledge; dsimp only; repeat' split
          all_goals rfl
        obtain ⟨h1, h2⟩ := ih (d.placeAlarm s)
        rw [hq] at h1 h2
        refine ⟨(List.prefix_append _ _).trans h1, h2.trans ?_⟩
        have := h.2
        simp only [List.length_append, List.length_singleton]
        omega
      · exact ⟨List.prefix_refl _, by simp⟩

/-- A delivery examination keeps the bound of the alarm-notice queue (R160). -/
theorem Device.examine_alarmQ_le (d : Device) (h : d.lnk.alarmQ.length ≤ 8) : d.examine.lnk.alarmQ.length ≤ 8 := by
  unfold Device.examine; split
  · exact h
  · exact (d.examineLoop_alarmQ 8).2.trans (by omega)

/-- A rise keeps the bound of the alarm-notice queue (R160). -/
theorem Device.rise_alarmQ_le (d : Device) (s : Fin 24) (v : Nat) (h : d.lnk.alarmQ.length ≤ 8) :
    (d.rise s v).lnk.alarmQ.length ≤ 8 := Device.examine_alarmQ_le _ h

/-! ## Offers to the event-notice queue (R186 to R188) -/

/-- The part without the event-notice queue, its overflow list and the link's counts. -/
def Device.lessNotices (d : Device) : Device :=
  d.setLnk { d.lnk with eventQ := [], overflow := [], counts := ⟨0, 0, 0, 0, 0, 0, 0, 0⟩ }

section
variable (d : Device)
@[simp] theorem Device.offer_lessNotices (f : Frame) : (d.offer f).lessNotices = d.lessNotices := by
  unfold Device.offer; split
  · rfl
  · split <;> rfl
@[simp] theorem Device.offerDone_lessNotices (k : OpKind) (t : Byte) (r : OpResult) (a : Bool) (x : Option OpResult) :
    (d.offerDone k t r a x).lessNotices = d.lessNotices := by simp [Device.offerDone]
@[simp] theorem Device.offerState_lessNotices : d.offerState.lessNotices = d.lessNotices := by
  unfold Device.offerState; split <;> first | rfl | simp
end

/-- What an offer does, said once (R186, R187): placed at the tail, lost, or appended to the overflow list. -/
theorem Device.offer_cases (d : Device) (f : Frame) :
    (d.lnk.eventQ.length < 8 ∧ d.lnk.overflow = [] ∧ d.offer f = d.setLnk { d.lnk with eventQ := d.lnk.eventQ ++ [f] }) ∨
    (∃ c, d.offer f = d.setLnk { d.lnk with counts := c }) ∨
    ((f.kind = doneKind → (d.lnk.overflow.filter (fun g => g.kind = doneKind)).length < 8) ∧
      d.offer f = d.setLnk { d.lnk with overflow := d.lnk.overflow ++ [f] }) := by
  unfold Device.offer Lnk.eventRoom
  split
  · rename_i h; exact .inl ⟨by simpa using h.1, h.2, rfl⟩
  · split
    · exact .inr (.inl ⟨_, rfl⟩)
    · rename_i h; exact .inr (.inr ⟨fun hk => by simpa [hk] using h, rfl⟩)

section
variable (d : Device) (k : OpKind) (t : Byte) (r : OpResult) (a : Bool) (x : Option OpResult)
@[simp] theorem Device.offerDone_clk : (d.offerDone k t r a x).clk = d.clk := (congrArg Device.clk (Device.offerDone_lessNotices d k t r a x) :)
@[simp] theorem Device.offerDone_timeBase : (d.offerDone k t r a x).timeBase = d.timeBase := (congrArg Device.timeBase (Device.offerDone_lessNotices d k t r a x) :)
@[simp] theorem Device.offerDone_stateChanged : (d.offerDone k t r a x).stateChanged = d.stateChanged := (congrArg Device.stateChanged (Device.offerDone_lessNotices d k t r a x) :)
@[simp] theorem Device.offerDone_pins : (d.offerDone k t r a x).pins = d.pins := (congrArg Device.pins (Device.offerDone_lessNotices d k t r a x) :)
@[simp] theorem Device.offerDone_trv : (d.offerDone k t r a x).trv = d.trv := (congrArg Device.trv (Device.offerDone_lessNotices d k t r a x) :)
@[simp] theorem Device.offerDone_acq : (d.offerDone k t r a x).acq = d.acq := (congrArg Device.acq (Device.offerDone_lessNotices d k t r a x) :)
@[simp] theorem Device.offerDone_std : (d.offerDone k t r a x).std = d.std := (congrArg Device.std (Device.offerDone_lessNotices d k t r a x) :)
@[simp] theorem Device.offerDone_cnv : (d.offerDone k t r a x).cnv = d.cnv := (congrArg Device.cnv (Device.offerDone_lessNotices d k t r a x) :)
@[simp] theorem Device.offerDone_prf : (d.offerDone k t r a x).prf = d.prf := (congrArg Device.prf (Device.offerDone_lessNotices d k t r a x) :)
@[simp] theorem Device.offerDone_win : (d.offerDone k t r a x).win = d.win := (congrArg Device.win (Device.offerDone_lessNotices d k t r a x) :)
@[simp] theorem Device.offerDone_brk : (d.offerDone k t r a x).brk = d.brk := (congrArg Device.brk (Device.offerDone_lessNotices d k t r a x) :)
@[simp] theorem Device.offerDone_alm : (d.offerDone k t r a x).alm = d.alm := (congrArg Device.alm (Device.offerDone_lessNotices d k t r a x) :)
@[simp] theorem Device.offerDone_link : (d.offerDone k t r a x).lnk.link = d.lnk.link := (congrArg (fun e : Device => e.lnk.link) (Device.offerDone_lessNotices d k t r a x) :)
@[simp] theorem Device.offerDone_tx : (d.offerDone k t r a x).lnk.tx = d.lnk.tx := (congrArg (fun e : Device => e.lnk.tx) (Device.offerDone_lessNotices d k t r a x) :)
@[simp] theorem Device.offerDone_cmdQ : (d.offerDone k t r a x).lnk.cmdQ = d.lnk.cmdQ := (congrArg (fun e : Device => e.lnk.cmdQ) (Device.offerDone_lessNotices d k t r a x) :)
@[simp] theorem Device.offerDone_replyQ : (d.offerDone k t r a x).lnk.replyQ = d.lnk.replyQ := (congrArg (fun e : Device => e.lnk.replyQ) (Device.offerDone_lessNotices d k t r a x) :)
@[simp] theorem Device.offerDone_alarmQ : (d.offerDone k t r a x).lnk.alarmQ = d.lnk.alarmQ := (congrArg (fun e : Device => e.lnk.alarmQ) (Device.offerDone_lessNotices d k t r a x) :)
@[simp] theorem Device.offerDone_rdy : (d.offerDone k t r a x).lnk.rdy = d.lnk.rdy := (congrArg (fun e : Device => e.lnk.rdy) (Device.offerDone_lessNotices d k t r a x) :)
@[simp] theorem Device.offerDone_rx : (d.offerDone k t r a x).lnk.rx = d.lnk.rx := (congrArg (fun e : Device => e.lnk.rx) (Device.offerDone_lessNotices d k t r a x) :)
@[simp] theorem Device.offerDone_quality : (d.offerDone k t r a x).lnk.quality = d.lnk.quality := (congrArg (fun e : Device => e.lnk.quality) (Device.offerDone_lessNotices d k t r a x) :)
@[simp] theorem Device.offerDone_startedHold : (d.offerDone k t r a x).lnk.startedHold = d.lnk.startedHold := (congrArg (fun e : Device => e.lnk.startedHold) (Device.offerDone_lessNotices d k t r a x) :)
@[simp] theorem Device.offerDone_baud : (d.offerDone k t r a x).lnk.baud = d.lnk.baud := (congrArg (fun e : Device => e.lnk.baud) (Device.offerDone_lessNotices d k t r a x) :)
end

section
variable (d : Device) 
@[simp] theorem Device.offerState_clk : (d.offerState).clk = d.clk := (congrArg Device.clk (Device.offerState_lessNotices d) :)
@[simp] theorem Device.offerState_timeBase : (d.offerState).timeBase = d.timeBase := (congrArg Device.timeBase (Device.offerState_lessNotices d) :)
@[simp] theorem Device.offerState_stateChanged : (d.offerState).stateChanged = d.stateChanged := (congrArg Device.stateChanged (Device.offerState_lessNotices d) :)
@[simp] theorem Device.offerState_pins : (d.offerState).pins = d.pins := (congrArg Device.pins (Device.offerState_lessNotices d) :)
@[simp] theorem Device.offerState_trv : (d.offerState).trv = d.trv := (congrArg Device.trv (Device.offerState_lessNotices d) :)
@[simp] theorem Device.offerState_acq : (d.offerState).acq = d.acq := (congrArg Device.acq (Device.offerState_lessNotices d) :)
@[simp] theorem Device.offerState_std : (d.offerState).std = d.std := (congrArg Device.std (Device.offerState_lessNotices d) :)
@[simp] theorem Device.offerState_cnv : (d.offerState).cnv = d.cnv := (congrArg Device.cnv (Device.offerState_lessNotices d) :)
@[simp] theorem Device.offerState_prf : (d.offerState).prf = d.prf := (congrArg Device.prf (Device.offerState_lessNotices d) :)
@[simp] theorem Device.offerState_win : (d.offerState).win = d.win := (congrArg Device.win (Device.offerState_lessNotices d) :)
@[simp] theorem Device.offerState_brk : (d.offerState).brk = d.brk := (congrArg Device.brk (Device.offerState_lessNotices d) :)
@[simp] theorem Device.offerState_alm : (d.offerState).alm = d.alm := (congrArg Device.alm (Device.offerState_lessNotices d) :)
@[simp] theorem Device.offerState_link : (d.offerState).lnk.link = d.lnk.link := (congrArg (fun e : Device => e.lnk.link) (Device.offerState_lessNotices d) :)
@[simp] theorem Device.offerState_tx : (d.offerState).lnk.tx = d.lnk.tx := (congrArg (fun e : Device => e.lnk.tx) (Device.offerState_lessNotices d) :)
@[simp] theorem Device.offerState_cmdQ : (d.offerState).lnk.cmdQ = d.lnk.cmdQ := (congrArg (fun e : Device => e.lnk.cmdQ) (Device.offerState_lessNotices d) :)
@[simp] theorem Device.offerState_replyQ : (d.offerState).lnk.replyQ = d.lnk.replyQ := (congrArg (fun e : Device => e.lnk.replyQ) (Device.offerState_lessNotices d) :)
@[simp] theorem Device.offerState_alarmQ : (d.offerState).lnk.alarmQ = d.lnk.alarmQ := (congrArg (fun e : Device => e.lnk.alarmQ) (Device.offerState_lessNotices d) :)
@[simp] theorem Device.offerState_rdy : (d.offerState).lnk.rdy = d.lnk.rdy := (congrArg (fun e : Device => e.lnk.rdy) (Device.offerState_lessNotices d) :)
@[simp] theorem Device.offerState_rx : (d.offerState).lnk.rx = d.lnk.rx := (congrArg (fun e : Device => e.lnk.rx) (Device.offerState_lessNotices d) :)
@[simp] theorem Device.offerState_quality : (d.offerState).lnk.quality = d.lnk.quality := (congrArg (fun e : Device => e.lnk.quality) (Device.offerState_lessNotices d) :)
@[simp] theorem Device.offerState_startedHold : (d.offerState).lnk.startedHold = d.lnk.startedHold := (congrArg (fun e : Device => e.lnk.startedHold) (Device.offerState_lessNotices d) :)
@[simp] theorem Device.offerState_baud : (d.offerState).lnk.baud = d.lnk.baud := (congrArg (fun e : Device => e.lnk.baud) (Device.offerState_lessNotices d) :)
end

/-- Settling clears the mark and touches the notice queues alone (R188). -/
@[simp] theorem Device.settle_lessNotices (d : Device) : d.settle.lessNotices = (d.setChanged false).lessNotices := by
  unfold Device.settle; split
  · exact (congrArg (fun e : Device => e.setChanged false) (Device.offerState_lessNotices d) :)
  · rename_i h
    have hd : d.setChanged false = d := by cases d; simp_all [Device.setChanged]
    rw [hd]

/-- With no changed state there is nothing to settle. -/
theorem Device.settle_of_unchanged {d : Device} (h : d.stateChanged = false) : d.settle = d := by simp [Device.settle, h]

/-- After settling no state is marked as changed. -/
@[simp] theorem Device.settle_stateChanged (d : Device) : d.settle.stateChanged = false :=
  (congrArg Device.stateChanged (Device.settle_lessNotices d) :)

@[simp] theorem Device.settle_clk (d : Device) : d.settle.clk = d.clk := (congrArg Device.clk (Device.settle_lessNotices d) :)
@[simp] theorem Device.settle_timeBase (d : Device) : d.settle.timeBase = d.timeBase := (congrArg Device.timeBase (Device.settle_lessNotices d) :)
@[simp] theorem Device.settle_pins (d : Device) : d.settle.pins = d.pins := (congrArg Device.pins (Device.settle_lessNotices d) :)
@[simp] theorem Device.settle_trv (d : Device) : d.settle.trv = d.trv := (congrArg Device.trv (Device.settle_lessNotices d) :)
@[simp] theorem Device.settle_acq (d : Device) : d.settle.acq = d.acq := (congrArg Device.acq (Device.settle_lessNotices d) :)
@[simp] theorem Device.settle_std (d : Device) : d.settle.std = d.std := (congrArg Device.std (Device.settle_lessNotices d) :)
@[simp] theorem Device.settle_cnv (d : Device) : d.settle.cnv = d.cnv := (congrArg Device.cnv (Device.settle_lessNotices d) :)
@[simp] theorem Device.settle_prf (d : Device) : d.settle.prf = d.prf := (congrArg Device.prf (Device.settle_lessNotices d) :)
@[simp] theorem Device.settle_win (d : Device) : d.settle.win = d.win := (congrArg Device.win (Device.settle_lessNotices d) :)
@[simp] theorem Device.settle_brk (d : Device) : d.settle.brk = d.brk := (congrArg Device.brk (Device.settle_lessNotices d) :)
@[simp] theorem Device.settle_alm (d : Device) : d.settle.alm = d.alm := (congrArg Device.alm (Device.settle_lessNotices d) :)
@[simp] theorem Device.settle_link (d : Device) : d.settle.lnk.link = d.lnk.link := (congrArg (fun e : Device => e.lnk.link) (Device.settle_lessNotices d) :)
@[simp] theorem Device.settle_tx (d : Device) : d.settle.lnk.tx = d.lnk.tx := (congrArg (fun e : Device => e.lnk.tx) (Device.settle_lessNotices d) :)
@[simp] theorem Device.settle_cmdQ (d : Device) : d.settle.lnk.cmdQ = d.lnk.cmdQ := (congrArg (fun e : Device => e.lnk.cmdQ) (Device.settle_lessNotices d) :)
@[simp] theorem Device.settle_replyQ (d : Device) : d.settle.lnk.replyQ = d.lnk.replyQ := (congrArg (fun e : Device => e.lnk.replyQ) (Device.settle_lessNotices d) :)
@[simp] theorem Device.settle_alarmQ (d : Device) : d.settle.lnk.alarmQ = d.lnk.alarmQ := (congrArg (fun e : Device => e.lnk.alarmQ) (Device.settle_lessNotices d) :)
@[simp] theorem Device.settle_rdy (d : Device) : d.settle.lnk.rdy = d.lnk.rdy := (congrArg (fun e : Device => e.lnk.rdy) (Device.settle_lessNotices d) :)
@[simp] theorem Device.settle_rx (d : Device) : d.settle.lnk.rx = d.lnk.rx := (congrArg (fun e : Device => e.lnk.rx) (Device.settle_lessNotices d) :)
@[simp] theorem Device.settle_quality (d : Device) : d.settle.lnk.quality = d.lnk.quality := (congrArg (fun e : Device => e.lnk.quality) (Device.settle_lessNotices d) :)
@[simp] theorem Device.settle_startedHold (d : Device) : d.settle.lnk.startedHold = d.lnk.startedHold := (congrArg (fun e : Device => e.lnk.startedHold) (Device.settle_lessNotices d) :)
@[simp] theorem Device.settle_baud (d : Device) : d.settle.lnk.baud = d.lnk.baud := (congrArg (fun e : Device => e.lnk.baud) (Device.settle_lessNotices d) :)

/-- The arbiter does nothing while a frame is on the line or HRDY is deasserted (R189, R191). -/
theorem Device.arbitrate_of_not_ready {d : Device} (h : d.lineReady = false) : d.arbitrate = d := by
  simp [Device.arbitrate, h]

end Sys2Proof.Machine
end

