-- ==== Sys2Proof/Laws/PerInstr.lean ====
section
/-! SUPPORT. The laws of the commands as syntax, one lemma per row: a well-formed command is what the command index reads from its
frame, and its frame fits on the link. -/

namespace Sys2Proof.Laws.FrameFits

/-- A well-formed command that has a frame is read back from that frame's kind, tag and payload (R183), and its payload fits
(10 section 10.1). Events have no frame. -/
def Statement (i : Instr) : Prop :=
  WellFormed i = true → ∀ k t p, frameOf i = some (k, t, p) → p.length ≤ 250 ∧ ∃ dt, decodeFrame dt k t p = i

/-- A command whose frame the index reads back satisfies the statement. -/
theorem of_frame {i : Instr} {k t : Byte} {p : List Byte} (dt : Nat) (hf : frameOf i = some (k, t, p))
    (hd : decodeFrame dt k t p = i) : Statement i := by
  intro hw k' t' p' h
  rw [hf] at h
  obtain ⟨rfl, rfl, rfl⟩ : k = k' ∧ t = t' ∧ p = p' := by simpa using h
  refine ⟨?_, dt, hd⟩
  unfold WellFormed at hw
  rw [hf] at hw
  exact of_decide_eq_true ((Bool.and_eq_true _ _).mp hw).1

/-- A row without a frame satisfies the statement. -/
theorem of_event {i : Instr} (h : frameOf i = none) : Statement i := by
  intro _ k t p hk
  rw [h] at hk
  cases hk

theorem getStatus (dt : Nat) (tag : Byte) (payload : List Byte) : Statement (.getStatus dt tag payload) := of_frame dt rfl rfl
theorem getLink (dt : Nat) (tag : Byte) (payload : List Byte) : Statement (.getLink dt tag payload) := of_frame dt rfl rfl
theorem restart (dt : Nat) (tag : Byte) (payload : List Byte) : Statement (.restart dt tag payload) := of_frame dt rfl rfl
theorem setFrame (dt : Nat) (tag : Byte) (payload : List Byte) : Statement (.setFrame dt tag payload) := of_frame dt rfl rfl
theorem getFrame (dt : Nat) (tag : Byte) (payload : List Byte) : Statement (.getFrame dt tag payload) := of_frame dt rfl rfl
theorem home (dt : Nat) (tag : Byte) (payload : List Byte) : Statement (.home dt tag payload) := of_frame dt rfl rfl
theorem park (dt : Nat) (tag : Byte) (payload : List Byte) : Statement (.park dt tag payload) := of_frame dt rfl rfl
theorem scan (dt : Nat) (tag : Byte) (payload : List Byte) : Statement (.scan dt tag payload) := of_frame dt rfl rfl
theorem point (dt : Nat) (tag : Byte) (payload : List Byte) : Statement (.point dt tag payload) := of_frame dt rfl rfl
theorem standardize (dt : Nat) (tag : Byte) (payload : List Byte) : Statement (.standardize dt tag payload) := of_frame dt rfl rfl
theorem stop (dt : Nat) (tag : Byte) (payload : List Byte) : Statement (.stop dt tag payload) := of_frame dt rfl rfl
theorem setScan (dt : Nat) (tag : Byte) (payload : List Byte) : Statement (.setScan dt tag payload) := of_frame dt rfl rfl
theorem getScan (dt : Nat) (tag : Byte) (payload : List Byte) : Statement (.getScan dt tag payload) := of_frame dt rfl rfl
theorem setTach (dt : Nat) (tag : Byte) (payload : List Byte) : Statement (.setTach dt tag payload) := of_frame dt rfl rfl
theorem getChannels (dt : Nat) (tag : Byte) (payload : List Byte) : Statement (.getChannels dt tag payload) := of_frame dt rfl rfl
theorem setStd (dt : Nat) (tag : Byte) (payload : List Byte) : Statement (.setStd dt tag payload) := of_frame dt rfl rfl
theorem setCalref (dt : Nat) (tag : Byte) (payload : List Byte) : Statement (.setCalref dt tag payload) := of_frame dt rfl rfl
theorem getStd (dt : Nat) (tag : Byte) (payload : List Byte) : Statement (.getStd dt tag payload) := of_frame dt rfl rfl
theorem setTable (dt : Nat) (tag : Byte) (payload : List Byte) : Statement (.setTable dt tag payload) := of_frame dt rfl rfl
theorem getTable (dt : Nat) (tag : Byte) (payload : List Byte) : Statement (.getTable dt tag payload) := of_frame dt rfl rfl
theorem convert (dt : Nat) (tag : Byte) (payload : List Byte) : Statement (.convert dt tag payload) := of_frame dt rfl rfl
theorem getProfile (dt : Nat) (tag : Byte) (payload : List Byte) : Statement (.getProfile dt tag payload) := of_frame dt rfl rfl
theorem getPoint (dt : Nat) (tag : Byte) (payload : List Byte) : Statement (.getPoint dt tag payload) := of_frame dt rfl rfl
theorem setWindow (dt : Nat) (tag : Byte) (payload : List Byte) : Statement (.setWindow dt tag payload) := of_frame dt rfl rfl
theorem getWindow (dt : Nat) (tag : Byte) (payload : List Byte) : Statement (.getWindow dt tag payload) := of_frame dt rfl rfl
theorem setStation (dt : Nat) (tag : Byte) (payload : List Byte) : Statement (.setStation dt tag payload) := of_frame dt rfl rfl
theorem setBreak (dt : Nat) (tag : Byte) (payload : List Byte) : Statement (.setBreak dt tag payload) := of_frame dt rfl rfl
theorem getStations (dt : Nat) (tag : Byte) (payload : List Byte) : Statement (.getStations dt tag payload) := of_frame dt rfl rfl
theorem getBreaks (dt : Nat) (tag : Byte) (payload : List Byte) : Statement (.getBreaks dt tag payload) := of_frame dt rfl rfl
theorem ack (dt : Nat) (tag : Byte) (payload : List Byte) : Statement (.ack dt tag payload) := of_frame dt rfl rfl
theorem setAlarmMode (dt : Nat) (tag : Byte) (payload : List Byte) : Statement (.setAlarmMode dt tag payload) := of_frame dt rfl rfl
theorem getAlarms (dt : Nat) (tag : Byte) (payload : List Byte) : Statement (.getAlarms dt tag payload) := of_frame dt rfl rfl
theorem unknownKindCommand (dt : Nat) (kind tag : Byte) (payload : List Byte) :
    Statement (.unknownKindCommand dt kind tag payload) := by
  intro hw
  refine of_frame dt rfl ?_ hw
  have hk : (!commandKinds.contains kind) = true := ((Bool.and_eq_true _ _).mp hw).2
  have hf : frameIndex.find? (fun e => e.1 = kind) = none := by
    rw [List.find?_eq_none]
    intro e he h
    have hmem : kind ∈ commandKinds := List.mem_map.mpr ⟨e, he, of_decide_eq_true h⟩
    simp [hmem] at hk
  simp [decodeFrame, hf]
theorem powerOn (dt : Nat) (strap : Bool) : Statement (.powerOn dt strap) := of_event rfl
theorem resetPinAssert (dt : Nat) : Statement (.resetPinAssert dt) := of_event rfl
theorem resetPinRelease (dt : Nat) (strap : Bool) : Statement (.resetPinRelease dt strap) := of_event rfl
theorem legalStep (dt : Nat) (a b : Bool) : Statement (.legalStep dt a b) := of_event rfl
theorem illegalTransition (dt : Nat) (a b : Bool) : Statement (.illegalTransition dt a b) := of_event rfl
theorem homeSwitchClose (dt : Nat) : Statement (.homeSwitchClose dt) := of_event rfl
theorem homeSwitchOpen (dt : Nat) : Statement (.homeSwitchOpen dt) := of_event rfl
theorem limitSwitchClose (dt : Nat) (side : Side) : Statement (.limitSwitchClose dt side) := of_event rfl
theorem limitSwitchOpen (dt : Nat) (side : Side) : Statement (.limitSwitchOpen dt side) := of_event rfl
theorem readyFall (dt : Nat) : Statement (.readyFall dt) := of_event rfl
theorem stallIntervalExpiry (dt : Nat) : Statement (.stallIntervalExpiry dt) := of_event rfl
theorem restTimerExpiry (dt : Nat) : Statement (.restTimerExpiry dt) := of_event rfl
theorem speedRefPeriodStart (dt : Nat) : Statement (.speedRefPeriodStart dt) := of_event rfl
theorem speedRefHighTimeEnd (dt : Nat) : Statement (.speedRefHighTimeEnd dt) := of_event rfl
theorem shutterFeedbackChange (dt : Nat) (closed : Bool) : Statement (.shutterFeedbackChange dt closed) := of_event rfl
theorem shutterMismatchExpiry (dt : Nat) : Statement (.shutterMismatchExpiry dt) := of_event rfl
theorem channelPulseEdge (dt : Nat) (channel : PulseChannel) : Statement (.channelPulseEdge dt channel) := of_event rfl
theorem calRisingEdge (dt : Nat) : Statement (.calRisingEdge dt) := of_event rfl
theorem calPeriodTimeout (dt : Nat) : Statement (.calPeriodTimeout dt) := of_event rfl
theorem sheetPresentChange (dt : Nat) (sheet : Bool) : Statement (.sheetPresentChange dt sheet) := of_event rfl
theorem sampleTimerExpiry (dt : Nat) : Statement (.sampleTimerExpiry dt) := of_event rfl
theorem tachRisingEdge (dt : Nat) : Statement (.tachRisingEdge dt) := of_event rfl
theorem tachTimeout (dt : Nat) : Statement (.tachTimeout dt) := of_event rfl
theorem stationPresenceSeen (dt : Nat) (station : Fin 8) : Statement (.stationPresenceSeen dt station) := of_event rfl
theorem stationPresenceLost (dt : Nat) (station : Fin 8) : Statement (.stationPresenceLost dt station) := of_event rfl
theorem qualifyExpiry (dt : Nat) (station : Fin 8) : Statement (.qualifyExpiry dt station) := of_event rfl
theorem restoreExpiry (dt : Nat) (station : Fin 8) : Statement (.restoreExpiry dt station) := of_event rfl
theorem cascadeExpiry (dt : Nat) : Statement (.cascadeExpiry dt) := of_event rfl
theorem breakNoticePlaced (dt : Nat) : Statement (.breakNoticePlaced dt) := of_event rfl
theorem automaticResume (dt : Nat) : Statement (.automaticResume dt) := of_event rfl
theorem rxByte (dt : Nat) (byte : Byte) (stop : Bool) : Statement (.rxByte dt byte stop) := of_event rfl
theorem gapTimeout (dt : Nat) : Statement (.gapTimeout dt) := of_event rfl
theorem lineBreak (dt : Nat) : Statement (.lineBreak dt) := of_event rfl
theorem lineBreakEnd (dt : Nat) : Statement (.lineBreakEnd dt) := of_event rfl
theorem hrdyRise (dt : Nat) : Statement (.hrdyRise dt) := of_event rfl
theorem txFrameEnd (dt : Nat) : Statement (.txFrameEnd dt) := of_event rfl
theorem overflowPlacement (dt : Nat) : Statement (.overflowPlacement dt) := of_event rfl
theorem hrdyFall (dt : Nat) : Statement (.hrdyFall dt) := of_event rfl
theorem readyRise (dt : Nat) : Statement (.readyRise dt) := of_event rfl
theorem calFallingEdge (dt : Nat) : Statement (.calFallingEdge dt) := of_event rfl

end Sys2Proof.Laws.FrameFits
end

