-- ==== Sys2Proof/Laws/Traverse.lean ====
section
/-! SUPPORT. What no operation of the measurement or of the traverse touches: the clock, the wires, the Break Detector, and of the
link everything but the notice queues and the counts. One lemma per operation, each from those of the operations it calls. -/

namespace Sys2Proof.Machine

/-- The part without TRV, ACQ, STD, CNV, PRF, WIN, ALM, the notice queues and the counts. -/
def Device.outside (d : Device) : Device :=
  { d with stateChanged := false, trv := .reset, acq := .reset, std := .reset, cnv := .reset, prf := .reset,
           win := Vector.replicate 8 Window.reset, alm := .reset,
           lnk := { d.lnk with alarmQ := [], eventQ := [], overflow := [], counts := ⟨0, 0, 0, 0, 0, 0, 0, 0⟩ } }

/-- Equal outsides agree on the clock, the wires, the Break Detector and the rest of the link. -/
theorem Device.outside_fields {d e : Device} (h : e.outside = d.outside) :
    e.clk = d.clk ∧ e.timeBase = d.timeBase ∧ e.pins = d.pins ∧ e.brk = d.brk ∧ e.lnk.link = d.lnk.link ∧ e.lnk.cmdQ = d.lnk.cmdQ ∧
    e.lnk.replyQ = d.lnk.replyQ ∧ e.lnk.tx = d.lnk.tx ∧ e.lnk.rdy = d.lnk.rdy ∧ e.lnk.rx = d.lnk.rx ∧
    e.lnk.quality = d.lnk.quality ∧ e.lnk.startedHold = d.lnk.startedHold ∧ e.lnk.baud = d.lnk.baud :=
  ⟨(congrArg Device.clk h :), (congrArg Device.timeBase h :), (congrArg Device.pins h :), (congrArg Device.brk h :),
   (congrArg (fun e : Device => e.lnk.link) h :), (congrArg (fun e : Device => e.lnk.cmdQ) h :),
   (congrArg (fun e : Device => e.lnk.replyQ) h :), (congrArg (fun e : Device => e.lnk.tx) h :),
   (congrArg (fun e : Device => e.lnk.rdy) h :), (congrArg (fun e : Device => e.lnk.rx) h :),
   (congrArg (fun e : Device => e.lnk.quality) h :), (congrArg (fun e : Device => e.lnk.startedHold) h :),
   (congrArg (fun e : Device => e.lnk.baud) h :)⟩

section
variable (d : Device)
@[simp] theorem Device.setTrv_outside (x : Trv) : (d.setTrv x).outside = d.outside := rfl
@[simp] theorem Device.setAcq_outside (x : Acq) : (d.setAcq x).outside = d.outside := rfl
@[simp] theorem Device.setStd_outside (x : Std) : (d.setStd x).outside = d.outside := rfl
@[simp] theorem Device.setCnv_outside (x : Cnv) : (d.setCnv x).outside = d.outside := rfl
@[simp] theorem Device.setPrf_outside (x : Prf) : (d.setPrf x).outside = d.outside := rfl
@[simp] theorem Device.setWin_outside (x : Vector Window 8) : (d.setWin x).outside = d.outside := rfl
@[simp] theorem Device.setAlm_outside (x : Alm) : (d.setAlm x).outside = d.outside := rfl
@[simp] theorem Device.setChanged_outside (x : Bool) : (d.setChanged x).outside = d.outside := rfl
@[simp] theorem Device.rise_outside (s : Fin 24) (v : Nat) : (d.rise s v).outside = d.outside :=
  (congrArg Device.outside (Device.rise_lessAlarms d s v) :)
@[simp] theorem Device.fall_outside (s : Fin 24) : (d.fall s).outside = d.outside := rfl
@[simp] theorem Device.fallIfActive_outside (s : Fin 24) : (d.fallIfActive s).outside = d.outside :=
  (congrArg Device.outside (Device.fallIfActive_lessAlarms d s) :)
@[simp] theorem Device.offer_outside (f : Frame) : (d.offer f).outside = d.outside :=
  (congrArg Device.outside (Device.offer_lessNotices d f) :)
@[simp] theorem Device.offerDone_outside (k : OpKind) (t : Byte) (r : OpResult) (a : Bool) (x : Option OpResult) :
    (d.offerDone k t r a x).outside = d.outside := by simp [Device.offerDone]
@[simp] theorem Device.settle_outside : d.settle.outside = d.outside :=
  (congrArg Device.outside (Device.settle_lessNotices d) :)
end

/-! ## Measurement and profiles -/

section
variable (d : Device)
@[simp] theorem Device.openScanRecord_outside (side : Side) : (d.openScanRecord side).outside = d.outside := by
  unfold Device.openScanRecord; dsimp only; repeat' split
  all_goals simp
@[simp] theorem Device.evaluateWindow_outside (n : Nat) (w : Fin 8) : (d.evaluateWindow n w).outside = d.outside := by
  unfold Device.evaluateWindow Device.setWindowAt; dsimp only; repeat' split
  all_goals simp
@[simp] theorem Device.evaluateWindows_outside (n : Nat) : (d.evaluateWindows n).outside = d.outside := by
  simp [Device.evaluateWindows, allEight]
@[simp] theorem Device.startEpoch_outside : (d.startEpoch).outside = d.outside := by
  simp [Device.startEpoch]
@[simp] theorem Device.prepareReport_outside (c : Completion) : (d.prepareReport c).outside = d.outside := by
  unfold Device.prepareReport; dsimp only; repeat' split
  all_goals simp
@[simp] theorem Device.discardTraffic_outside : (d.discardTraffic).outside = d.outside := by
  unfold Device.discardTraffic; dsimp only; repeat' split
  all_goals simp
@[simp] theorem Device.countScan_outside : (d.countScan).outside = d.outside := by
  simp [Device.countScan]
@[simp] theorem Device.foldScan_outside (p : Profile) : (d.foldScan p).outside = d.outside := by
  simp [Device.foldScan]
@[simp] theorem Device.closeScan_outside (c : Completion) : (d.closeScan c).outside = d.outside := by
  unfold Device.closeScan; dsimp only; repeat' split
  all_goals simp
@[simp] theorem Device.batchDue_outside (s : ScanSettings) : (d.batchDue s).outside = d.outside := by
  unfold Device.batchDue; dsimp only; repeat' split
  all_goals simp
@[simp] theorem Device.enterRing_outside (r : ConvRecord) : (d.enterRing r).outside = d.outside := by
  unfold Device.enterRing; dsimp only; repeat' split
  all_goals simp
@[simp] theorem Device.placeRecord_outside (r : ConvRecord) : (d.placeRecord r).outside = d.outside := by
  simp [Device.placeRecord]
@[simp] theorem Device.beginCollection_outside : (d.beginCollection).outside = d.outside := by
  unfold Device.beginCollection; dsimp only; repeat' split
  all_goals simp
@[simp] theorem Device.failStd_outside (l : StdLast) (n : Nat) : (d.failStd l n).outside = d.outside := by
  simp [Device.failStd]
@[simp] theorem Device.abandonStd_outside : (d.abandonStd).outside = d.outside := by
  unfold Device.abandonStd; dsimp only; repeat' split
  all_goals simp
@[simp] theorem Device.adopt_outside (r : RefSet) (l : StdLast) (x : Option (Nat × Nat)) : (d.adopt r l x).outside = d.outside := by
  unfold Device.adopt; dsimp only; repeat' split
  all_goals simp
@[simp] theorem Device.openSampleNow_outside (g : Gating) : (d.openSampleNow g).outside = d.outside := by
  simp [Device.openSampleNow]
@[simp] theorem Device.stopSampling_outside : (d.stopSampling).outside = d.outside := rfl
@[simp] theorem Device.superviseChannels_outside (s : Sample) : (d.superviseChannels s).outside = d.outside := by
  unfold Device.superviseChannels; dsimp only; repeat' split
  all_goals simp
@[simp] theorem Device.recordClosed_outside (s : Sample) : (d.recordClosed s).outside = d.outside := by
  simp [Device.recordClosed]
@[simp] theorem Device.openAtBoundary_outside (b : Nat) : (d.openAtBoundary b).outside = d.outside := by
  unfold Device.openAtBoundary; dsimp only; repeat' split
  all_goals simp
@[simp] theorem Device.startGating_outside : (d.startGating).outside = d.outside := by
  unfold Device.startGating; dsimp only; repeat' split
  all_goals simp
@[simp] theorem Device.handScanRecord_outside (s : Sample) : (d.handScanRecord s).outside = d.outside := by
  simp [Device.handScanRecord, Device.convertSample]
@[simp] theorem Device.crossBoundary_outside : (d.crossBoundary).outside = d.outside := by
  unfold Device.crossBoundary; repeat' split
  all_goals simp
@[simp] theorem Device.startTimeGating_outside (n : Nat) : (d.startTimeGating n).outside = d.outside := by
  simp [Device.startTimeGating]
end

/-! ## Traverse -/

section
variable (d : Device)
@[simp] theorem Device.superviseShutter_outside : (d.superviseShutter).outside = d.outside := by
  unfold Device.superviseShutter; dsimp only; repeat' split
  all_goals simp
@[simp] theorem Device.commandShutter_outside (v : Bool) : (d.commandShutter v).outside = d.outside := by
  unfold Device.commandShutter; dsimp only; repeat' split
  all_goals simp
@[simp] theorem Device.goTo_outside (st : TravState) : (d.goTo st).outside = d.outside := by
  unfold Device.goTo; dsimp only; repeat' split
  all_goals simp
@[simp] theorem Device.endOp_outside (r : OpResult) (x : Option OpResult) : (d.endOp r x).outside = d.outside := by
  unfold Device.endOp; dsimp only; repeat' split
  all_goals simp
@[simp] theorem Device.superviseStall_outside : (d.superviseStall).outside = d.outside := by
  unfold Device.superviseStall; dsimp only; repeat' split
  all_goals simp
@[simp] theorem Device.dropEnable_outside : (d.dropEnable).outside = d.outside := by
  unfold Device.dropEnable; dsimp only; repeat' split
  all_goals simp
@[simp] theorem Device.raiseEnable_outside : (d.raiseEnable).outside = d.outside := by
  unfold Device.raiseEnable; dsimp only; repeat' split
  all_goals simp
@[simp] theorem Device.restRule_outside : (d.restRule).outside = d.outside := by
  unfold Device.restRule; repeat' split
  all_goals simp
@[simp] theorem Device.enterHalted_outside : (d.enterHalted).outside = d.outside := by
  unfold Device.enterHalted; repeat' split
  all_goals simp
@[simp] theorem Device.haltAtOnce_outside : (d.haltAtOnce).outside = d.outside := by
  simp [Device.haltAtOnce]
@[simp] theorem Device.driveFault_outside (n : Nat) : (d.driveFault n).outside = d.outside := by
  simp [Device.driveFault]
@[simp] theorem Device.riseOvertravel_outside : (d.riseOvertravel).outside = d.outside := by
  simp [Device.riseOvertravel]
@[simp] theorem Device.losePosition_outside (n m : Nat) : (d.losePosition n m).outside = d.outside := by
  unfold Device.losePosition; dsimp only; repeat' split
  all_goals simp
@[simp] theorem Device.applySettings_outside (s : ScanSettings) : (d.applySettings s).outside = d.outside := by
  unfold Device.applySettings; dsimp only; repeat' split
  all_goals simp
@[simp] theorem Device.applyPending_outside : (d.applyPending).outside = d.outside := by
  unfold Device.applyPending; dsimp only; repeat' split
  all_goals simp
@[simp] theorem Device.refreshRange_outside : (d.refreshRange).outside = d.outside := by
  unfold Device.refreshRange; dsimp only; repeat' split
  all_goals simp
@[simp] theorem Device.enterScan_outside (side : Side) : (d.enterScan side).outside = d.outside := by
  simp [Device.enterScan]
end

/-- A choice of two results that stay inside stays inside. -/
theorem Device.ite_outside {α : Type} (d : Device) (p : Prop) [Decidable p] (x y : Device × α)
    (hx : x.1.outside = d.outside) (hy : y.1.outside = d.outside) : (if p then x else y).1.outside = d.outside := by
  split <;> assumption

/-- The completion of a collection stays inside (R64 to R68). -/
@[simp] theorem Device.completeStd_outside (d : Device) : d.completeStd.outside = d.outside := by
  unfold Device.completeStd; extract_lets s x; split
  · simp
  · split <;> simp

/-- A standardize sample stays inside (R63). -/
@[simp] theorem Device.takeStdSample_outside (d : Device) (s : Sample) : (d.takeStdSample s).1.outside = d.outside := by
  unfold Device.takeStdSample; extract_lets received; repeat' split
  all_goals first | rfl | (simp; done) | (simp only [Device.completeStd_outside]; rfl)

/-- A SHUTTER rise in a collection stays inside (R71). -/
@[simp] theorem Device.shutterFailsStd_outside (d : Device) : d.shutterFailsStd.1.outside = d.outside := by
  unfold Device.shutterFailsStd; split <;> simp

section
variable (d : Device) {k : Device → Device} (hk : ∀ e : Device, (k e).outside = e.outside)
include hk
theorem Device.withEnable_outside : (d.withEnable k).outside = d.outside := by
  unfold Device.withEnable; split <;> simp [hk]
theorem Device.startDrive_outside (side : Side) : (d.startDrive side k).outside = d.outside := by
  unfold Device.startDrive
  refine Device.withEnable_outside d (fun e => ?_)
  split <;> simp [hk]
theorem Device.beginMove_outside (dest : Int) (speed : Nat) (p : Purpose) : (d.beginMove dest speed p k).outside = d.outside := by
  unfold Device.beginMove; extract_lets dest; split
  · exact hk d
  · exact Device.startDrive_outside d (fun e => Device.setTrv_outside e _) _
end

section
variable (d : Device)
@[simp] theorem Device.startRun_outside (side : Side) : (Device.startRun side d).outside = d.outside := by
  unfold Device.startRun
  refine Device.startDrive_outside d (fun e => ?_) side
  dsimp only; split <;> simp
@[simp] theorem Device.moveToRunUp_outside (side : Side) : (d.moveToRunUp side).outside = d.outside := by
  unfold Device.moveToRunUp; split
  · rfl
  · exact Device.beginMove_outside d (fun e => by simp) _ _ _
@[simp] theorem Device.approachScan_outside : d.approachScan.outside = d.outside := by
  unfold Device.approachScan; dsimp only; split <;> simp
@[simp] theorem Device.enterPoint_outside : d.enterPoint.outside = d.outside := by
  unfold Device.enterPoint
  exact Device.withEnable_outside d (fun e => by simp)
@[simp] theorem Device.approachPoint_outside (n : Nat) : (d.approachPoint n).outside = d.outside := by
  unfold Device.approachPoint
  rw [Device.beginMove_outside _ (fun e => by simp)]; simp
@[simp] theorem Device.enterStandardizing_outside : d.enterStandardizing.outside = d.outside := by
  simp [Device.enterStandardizing]
@[simp] theorem Device.setOp_outside (o : OpRecord) : (d.setOp o).outside = d.outside := rfl
@[simp] theorem Device.openScanOp_outside (t : Byte) : (d.openScanOp t).outside = d.outside := by simp [Device.openScanOp]
@[simp] theorem Device.beginScanParked_outside (t : Byte) : (d.beginScanParked t).outside = d.outside := by
  unfold Device.beginScanParked; dsimp only; split <;> simp
@[simp] theorem Device.beginPoint_outside (t : Byte) (n : Nat) : (d.beginPoint t n).outside = d.outside := by
  simp [Device.beginPoint]
@[simp] theorem Device.motionTaken_outside : d.motionTaken.outside = d.outside := by
  unfold Device.motionTaken; dsimp only; split <;> simp
@[simp] theorem Device.resumeRefused_outside (k : OpKind) (c : ReplyCode) : (d.resumeRefused k c).outside = d.outside := by
  simp [Device.resumeRefused]
@[simp] theorem Device.tryResume_outside : d.tryResume.outside = d.outside := by
  unfold Device.tryResume; repeat' split
  all_goals simp
@[simp] theorem Device.parkedOp_outside (e : Option (OpResult × Option OpResult)) : (d.parkedOp e).outside = d.outside := by
  unfold Device.parkedOp; repeat' split
  all_goals simp
@[simp] theorem Device.enterParked_outside (e : Option (OpResult × Option OpResult)) :
    (Device.enterParked e d).outside = d.outside := by
  unfold Device.enterParked; dsimp only; split <;> simp
@[simp] theorem Device.enterParking_outside : d.enterParking.outside = d.outside := by
  unfold Device.enterParking
  rw [Device.beginMove_outside _ (fun e => by simp)]; simp
@[simp] theorem Device.beginScan_outside (t : Byte) : (d.beginScan t).outside = d.outside := by
  unfold Device.beginScan; split <;> simp
@[simp] theorem Device.arrive_outside (p : Purpose) : (d.arrive p).outside = d.outside := by
  unfold Device.arrive; split <;> simp
@[simp] theorem Device.chooseTurn_outside : d.chooseTurn.outside = d.outside := by
  unfold Device.chooseTurn; dsimp only; split <;> simp
@[simp] theorem Device.enterTurn_outside : d.enterTurn.outside = d.outside := by
  simp [Device.enterTurn, Device.countPlan]
@[simp] theorem Device.turnBraked_outside (b : Bool) : (d.turnBraked b).outside = d.outside := by
  unfold Device.turnBraked; repeat' split
  all_goals simp
@[simp] theorem Device.rampStep_outside : d.rampStep.outside = d.outside := by simp [Device.rampStep]
@[simp] theorem Device.startPeriod_outside : d.startPeriod.outside = d.outside := rfl
@[simp] theorem Device.afterRamp_outside : d.afterRamp.outside = d.outside := by
  unfold Device.afterRamp; split
  · split
    · split
      · simp
      · exact Device.beginMove_outside d (fun e => by simp) _ _ _
    · rfl
  · split <;> simp
  · split <;> simp
  · dsimp only; repeat' split
    all_goals simp
  all_goals rfl
@[simp] theorem Device.afterStep_outside (up : Bool) : (d.afterStep up).outside = d.outside := by
  unfold Device.afterStep; dsimp only; repeat' split
  all_goals simp
@[simp] theorem Device.takeStep_outside (up : Bool) : (d.takeStep up).outside = d.outside := by
  unfold Device.takeStep; dsimp only; split <;> simp
@[simp] theorem Device.takeIllegal_outside : d.takeIllegal.outside = d.outside := by
  unfold Device.takeIllegal; dsimp only; split <;> simp
@[simp] theorem Device.sampleEncoder_outside (a b : Bool) : (d.sampleEncoder a b).outside = d.outside := by
  unfold Device.sampleEncoder; dsimp only; repeat' split
  all_goals simp
@[simp] theorem Device.enterHoming_outside : d.enterHoming.outside = d.outside := by
  unfold Device.enterHoming; dsimp only; split
  all_goals rw [Device.startDrive_outside _ (fun e => by simp)]; simp
@[simp] theorem Device.endBackOff_outside : d.endBackOff.outside = d.outside := by
  unfold Device.endBackOff; split <;> simp
@[simp] theorem Device.homeClosure_outside : d.homeClosure.outside = d.outside := by
  unfold Device.homeClosure Device.completeHoming; repeat' split
  all_goals simp
@[simp] theorem Device.leaveSheet_outside (c : Completion) (r : OpResult) : (d.leaveSheet c r).outside = d.outside := by
  unfold Device.leaveSheet; dsimp only
  rw [Device.beginMove_outside _ (fun e => by simp)]; simp
@[simp] theorem Device.parkOnBreak_outside : d.parkOnBreak.outside = d.outside := by
  unfold Device.parkOnBreak; split <;> simp
@[simp] theorem Device.noteResume_outside : d.noteResume.outside = d.outside := by
  unfold Device.noteResume; repeat' split
  all_goals simp
@[simp] theorem Device.parkOnLinkLoss_outside : d.parkOnLinkLoss.outside = d.outside := by
  unfold Device.parkOnLinkLoss; repeat' split
  all_goals simp
@[simp] theorem Device.afterStd_outside (r : OpResult) : (d.afterStd r).outside = d.outside := by
  unfold Device.afterStd Device.scanAfterStd Device.reloadPlan; dsimp only; repeat' split
  all_goals simp
@[simp] theorem Device.closeTimedSample_outside (o : OpenSample) : (d.closeTimedSample o).outside = d.outside := by
  unfold Device.closeTimedSample Device.reportStd Device.convertSample; dsimp only; repeat' split
  all_goals simp
end

end Sys2Proof.Machine
end

