-- ==== Sys2Proof/Laws/Telling.lean ====
section
/-! SUPPORT. The notices of an event (`Device.tells`): they compose, offering one tells it, and what ending the operation and applying
the pending settings tell. -/

namespace Sys2Proof.Machine

section
variable {d e x : Device}

/-- What an offer does, case by case (R186, R187). -/
theorem Device.offer_placed {f : Frame} (h : d.lnk.eventRoom ∧ d.lnk.overflow = []) :
    d.offer f = d.setLnk { d.lnk with eventQ := d.lnk.eventQ ++ [f] } := if_pos h

theorem Device.offer_lost {f : Frame} (h : ¬(d.lnk.eventRoom ∧ d.lnk.overflow = []))
    (k : f.kind = doneKind ∧ 8 ≤ (d.lnk.overflow.filter (fun g => g.kind = doneKind)).length) :
    d.offer f = d.setLnk { d.lnk with counts := { d.lnk.counts with lostDone := sat16 (d.lnk.counts.lostDone + 1) } } :=
  (if_neg h).trans (if_pos k)

theorem Device.offer_kept {f : Frame} (h : ¬(d.lnk.eventRoom ∧ d.lnk.overflow = []))
    (k : ¬(f.kind = doneKind ∧ 8 ≤ (d.lnk.overflow.filter (fun g => g.kind = doneKind)).length)) :
    d.offer f = d.setLnk { d.lnk with overflow := d.lnk.overflow ++ [f] } := (if_neg h).trans (if_neg k)

/-- Offers read and write the link alone. -/
theorem Device.offers_lnk_congr (fs : List Frame) : ∀ d e : Device, e.lnk = d.lnk →
    (fs.foldl Device.offer e).lnk = (fs.foldl Device.offer d).lnk := by
  induction fs with
  | nil => exact fun _ _ h => h
  | cons f fs ih => exact fun d e h => ih _ _ (by unfold Device.offer; rw [h]; split <;> [rfl; (split <;> rfl)])

/-- Offers neither change nor read the alarm-notice queue. -/
theorem Device.offers_alarmQ (q : List Frame) (fs : List Frame) : ∀ d : Device,
    (fs.foldl Device.offer (d.setLnk { d.lnk with alarmQ := q })).lnk = { (fs.foldl Device.offer d).lnk with alarmQ := q } := by
  induction fs with
  | nil => exact fun _ => rfl
  | cons f fs ih =>
    intro d
    rw [List.foldl_cons, List.foldl_cons, ← ih]
    refine Device.offers_lnk_congr fs _ _ ?_
    by_cases h : d.lnk.eventRoom ∧ d.lnk.overflow = []
    · rw [Device.offer_placed h, Device.offer_placed (d := d.setLnk { d.lnk with alarmQ := q }) h]; rfl
    by_cases k : f.kind = doneKind ∧ 8 ≤ (d.lnk.overflow.filter (fun g => g.kind = doneKind)).length
    · rw [Device.offer_lost h k, Device.offer_lost (d := d.setLnk { d.lnk with alarmQ := q }) h k]; rfl
    · rw [Device.offer_kept h k, Device.offer_kept (d := d.setLnk { d.lnk with alarmQ := q }) h k]; rfl

theorem Device.tells_of_lnk (h : e.lnk = d.lnk) : e.tells d [] := by
  unfold Device.tells; rw [List.foldl_nil, ← h]

theorem Device.offer_tells (d : Device) (f : Frame) : (d.offer f).tells d [f] := by
  rfl

/-- One event's notices after another's. -/
theorem Device.tells_trans {fs gs : List Frame} (h : e.tells d fs) (k : x.tells e gs) : x.tells d (fs ++ gs) := by
  unfold Device.tells at *
  have hh := Device.offers_alarmQ e.lnk.alarmQ gs (fs.foldl Device.offer d)
  have hc := Device.offers_lnk_congr gs ((fs.foldl Device.offer d).setLnk { (fs.foldl Device.offer d).lnk with alarmQ := e.lnk.alarmQ }) e h
  rw [k, hc, hh, List.foldl_append]

/-- Ending the operation in flight tells its DONE (R19). -/
theorem Device.endOp_tells (d : Device) (r : OpResult) : (d.endOp r none).tells d (d.opDone r.code d.trv.state.code) := by
  unfold Device.endOp Device.opDone
  cases d.trv.op with
  | none => exact Device.tells_of_lnk rfl
  | some o =>
    have h : flagsByte o.adjusted false = (if o.adjusted then 1 else 0 : Byte) := by cases o.adjusted <;> rfl
    have k := Device.tells_trans (Device.tells_of_lnk (e := d.setTrv { d.trv with op := none }) (d := d) rfl)
      (Device.offer_tells (d.setTrv { d.trv with op := none }) (o.done r.code d.trv.state.code 255))
    by_cases c : o.kind = .standardize <;> simpa [Device.offerDone, OpRecord.done, doneKind, h, c] using k

/-- An aborted scan tells nothing and leaves the traverse as it was (R101, R106). -/
theorem Device.closeScan_aborted (d : Device) {c : Completion} (h : c ≠ .complete) :
    (d.closeScan c).lnk = d.lnk ∧ (d.closeScan c).trv = d.trv := by
  unfold Device.closeScan Device.prepareReport
  simp only [h, if_false]
  repeat' split
  all_goals exact ⟨rfl, rfl⟩

/-- The operation in flight ends with ABORTED (R24, R26). -/
theorem Device.abortOp_tells (d : Device) : d.abortOp.tells d (d.opDone 1 d.trv.state.code) := by
  obtain ⟨hl, ht⟩ := d.closeScan_aborted (c := .abortedCommand) (by simp)
  have k := Device.tells_trans (Device.tells_of_lnk hl) ((d.closeScan .abortedCommand).endOp_tells .aborted)
  rw [ht, List.nil_append] at k
  simpa [Device.abortOp, Device.opDone, ht, OpResult.code] using k

end

end Sys2Proof.Machine
end

