-- ==== Sys2Proof/Tests/Slice0.lean ====
section
/-! SUPPORT. Tests: ill-formed commands that the check refuses, the manual's worked cases one step at a time, and for every
obligation with hypotheses a state that meets them (`witness_<Name>`; the state before the row is that device, and `dt` is 0). -/

namespace Sys2Proof.Tests

open Sys2Proof.Machine

-- One proof at a time: many at once ask for more thread stacks than the check's memory limit allows.
set_option Elab.async false

/-! ## Ill-formed commands -/

theorem test_illformed_payload_too_long : WellFormed (.setScan 0 1 (List.replicate 251 0)) = false := by decide +kernel
theorem test_illformed_unknown_kind_known : WellFormed (.unknownKindCommand 0 0x1A 1 []) = false := by decide +kernel
theorem test_wellformed_longest : WellFormed (.unknownKindCommand 0 0x99 1 (List.replicate 250 0)) = true := by decide +kernel

/-! ## States to start from -/

/-- The frame record of the worked cases here: travel from 1,100 to 6,000 fc. -/
def fr : FrameRecord := ⟨1100, 6000, 1200, 60, 1210, 100, 800, 5000⟩

/-- Scan settings over 1,230 to 1,330 fc at 50 mm/s, pitch 50; their turn distance under `fr` is 5 fc. -/
def ks : ScanSettings := ⟨1230, 1330, 50, 50, 1230, 40, 4, 1, 128, 1, 1, true, true, 4, 10⟩

/-- The standardize settings of 04 section 4.7. -/
def stds : StdSettings := ⟨16, 2, 100, 100000, 100000, 100000, 150, 500⟩

/-- The reference set adopted in 04 section 4.7. -/
def refs : RefSet := ⟨1, 1000000, 62259, 6554, some 196, some 41, some 83, 500, 0⟩

/-- The part after power-on. -/
def base : Device := .reset

/-- A homed head in a traverse state, the drive doing what is given. -/
def dev (st : TravState) (m : Motion) (n : Nat) : Device :=
  { base with trv := { Trv.reset with
      state := st, motion := m, counter := n, homed := true, enable := st.drives m, openCmd := st.opens, frame := some fr,
      active := some ks, range := some ⟨1230, 1330, 5⟩, sampling := some (false, false) } }

/-- The head standing in PARKED, able to measure. -/
def parked : Device :=
  let d := dev .parked .rest 1210
  { d with std := { Std.reset with settings := some stds } }

/-- The same with a plan and a reference set, so that no standardize is due. -/
def ready : Device := { parked with trv := { parked.trv with planCount := 1 }, std := { parked.std with ref := some refs } }

/-- A traverse in SCAN toward DS. -/
def scanning (n : Nat) : Device :=
  let d := dev .scan .scanning n
  { d with
    trv := { d.trv with planCount := 1, op := some ⟨.scan, 9, 0, false, false, false⟩, commanded := 5000, target := 5000 }
    acq := { Acq.reset with sample := some ⟨.position, 1230, 0, 7, 5, 6, 42, 100, true, false, false⟩, next := some 1280 }
    prf := { Prf.reset with openScan := some ⟨1, .ds, 0, ⟨1230, 40, 4⟩, 0, 0, none, none, List.replicate 4 .empty⟩ } }

/-- The same part with one station of the manual's example defined and present, and break settings. -/
def present (st : StationState) (qualify restore : Timer) (sheet : SheetState) (speed : Nat) : Device :=
  { dev .parked .rest 1210 with
    acq := { Acq.reset with speed := speed }
    brk := { Brk.reset with
      settings := some ⟨1500, 2000⟩, sheet := sheet
      stations := Brk.reset.stations.set 6 ⟨some ⟨true, false, 20, 500⟩, st, qualify, restore, 0, 0, 0⟩ }
    pins := { Pins.initial with stations := (Vector.replicate 8 false).set 6 true } }

/-- A standing head whose sample timer runs. -/
def timed (st : TravState) (phase : StdPhase) (summed : Nat) (sp : Bool) : Device :=
  let d := dev st (if st = .point then .hold else .rest) 1250
  { d with
    acq := { Acq.reset with sample := some ⟨.time, 1250, 5, 0, 6, 7, 42, 100, sp, false, false⟩, sampleTimer := some 10005,
                            dead := ⟨7, 0, 0, 0⟩ }
    std := { Std.reset with settings := some stds, snapshot := stds, phase := phase, settleLeft := 1, summed := summed } }

/-- A head at rest at the end of a motion. -/
def ended (st : TravState) (m : Motion) (n : Nat) (o : Option OpRecord) : Device :=
  { dev st m n with trv := { (dev st m n).trv with op := o, enable := true } }

/-- The same with scan settings waiting to be applied. -/
def queued (d : Device) : Device := { d with trv := { d.trv with pending := some (7, ks) } }

/-- The part after one row. -/
def after (i : Instr) (d : Device) : Device :=
  match exec i ⟨[], d⟩ with
  | .next t => t.dev
  | .fault _ => d
  | .refused _ => d

/-! ## Worked cases of the manual -/

/-- The check of R173. -/
theorem test_crc : crc [0x31, 0x32, 0x33, 0x34, 0x35, 0x36, 0x37, 0x38, 0x39] = 0x29B1 := by decide +kernel

/-- 01 section 1.2, the disturbed encoder. -/
theorem test_encoder :
    let d0 := dev .point .hold 10000
    let d1 := after (.legalStep 1 true false) d0
    let d2 := after (.legalStep 1 true true) d1
    let d3 := after (.illegalTransition 1 false false) d2
    let d4 := after (.legalStep 1 false true) d3
    let d5 := after (.legalStep 1 true true) d4
    [d1, d2, d3, d4, d5].map (fun d => (d.trv.counter, d.trv.faultCount)) =
      [(10001, 0), (10002, 0), (10002, 1), (10001, 1), (10000, 1)] := by decide +kernel

/-- 01 section 1.3: the closure at 1,275 loses the position with the value 33,555,707. -/
theorem test_home_check :
    ((after (.homeSwitchClose 1) (dev .point .hold 1236)).trv.homed,
      (after (.homeSwitchClose 1) (dev .point .hold 1275)).trv.homed,
      ((after (.homeSwitchClose 1) (dev .point .hold 1275)).entry srcPositionLost).value) =
      (true, false, some 33555707) := by decide +kernel

/-- 02 section 2.2, the turn distances. -/
theorem test_turn_distances :
    [(100, 1000), (300, 2000), (500, 1000), (1000, 1000), (1000, 5000)].map (fun p : Nat × Nat => ceilDiv (10 * p.1 ^ 2) p.2) =
      [100, 450, 2500, 10000, 2000] := by decide +kernel

/-- 03 section 3.1: a period of 200 µs with 84 µs high, attributed at its closing edge. -/
theorem test_cal_period :
    let d0 := { base with clk := 1000, acq := { Acq.reset with sample := some ⟨.time, 0, 0, 0, 0, 0, 0, 0, false, false, false⟩ } }
    let d := after (.calRisingEdge 116) (after (.calFallingEdge 84) (after (.calRisingEdge 0) d0))
    d.acq.sample.map (fun o => (o.calHigh, o.calTotal)) = some (84, 200) := by decide +kernel

/-- 04 section 4.7: the collection's references, drifts and verdict, and with a calibration rate of 1,100,000. -/
theorem test_standardize :
    let s (cal : Nat) : Std := { Std.reset with
      settings := some stds, snapshot := stds, phase := .collecting, summed := 16, received := 18, calRbw := some cal,
      calM := some 62000, calD0 := some 6500, sums := ⟨1600000, 1600000, 1520000, 1600000, 160000, 1599800⟩ }
    let d (cal : Nat) := ({ base with clk := 1800000, std := s cal }).completeStd
    ((d 1020000).std.ref = some ⟨1800, 1000000, 62259, 6554, some 196, some 41, some 83, 500, 0⟩ ∧
      (d 1020000).std.last.map StdLast.result = some .adoptedDrift ∧ ((d 1020000).entry srcStdDrift).value = some 16777412) ∧
    ((d 1100000).std.ref = none ∧ ((d 1100000).entry srcStdFail).value = some 50332557) := by decide +kernel

/-- The tables of 05 section 5.8. -/
def tables : Cnv :=
  ⟨⟨[(16384, 14000), (32768, 8500), (40960, 6000), (49152, 4000), (65536, 0)], 0, 0, 0⟩,
   ⟨[(40960, 1600), (49152, 800), (53248, 500), (65536, 0)], 0, 0, 0⟩,
   ⟨[(0, 0), (16384, 600), (24576, 900), (49152, 1800)], 0, 0, 0⟩⟩

/-- The sample of 05 section 5.8 with some of its counts. -/
def worked (bw mr calHigh calTotal : Nat) : Sample :=
  ⟨.position, 1000, 1100, 10000, bw, 3000, mr, calHigh, calTotal, .all, 0, 0, false⟩

/-- 05 section 5.8. -/
theorem test_conversion :
    let r := convertRecord tables (some refs) true (worked 6400 4000 4200 10000)
    (r.qBw, r.qW, r.qC) = (some 41943, some 51739, some 20971) ∧
    (r.bw, r.water, r.cal, r.moisture, r.dry) = (some 5760, some 611, some 768, some 1061, some 5149) ∧
    r.wet = false := by decide +kernel

/-- 05 section 5.9: samples A, B and C. -/
theorem test_conversion_limits :
    let a := convertRecord tables (some refs) true (worked 16000 4000 4200 10000)
    let b := convertRecord tables (some refs) true (worked 6400 0 4200 10000)
    let c := convertRecord tables (some refs) true (worked 6400 4000 0 0)
    (a.bw = some 0 ∧ a.bwFlags.clamp = true ∧ a.bwFlags.overEnd = true ∧ a.moisture = none ∧ a.dry = some 0 ∧ a.wet = true) ∧
    (b.qW = none ∧ b.water = none ∧ b.waterFlags.noRef = true ∧ b.moisture = none ∧ b.dry = none ∧ b.wet = false) ∧
    (c.qC = none ∧ c.cal = none ∧ c.calFlags.noSignal = true ∧ c.moisture = some 1061) := by decide +kernel

/-- 06 section 6.1: where midpoints fall. -/
theorem test_slices :
    [6600, 7800, 8000, 8200, 8400, 207800, 208000].map (SliceMap.slice ⟨8000, 400, 500⟩) =
      [none, none, some 0, some 0, some 1, some 499, none] := by decide +kernel

/-- 06 section 6.4: the filter through two scans. -/
theorem test_filter : (filterStep 64 5700 5766, filterStep 64 5717 5690) = (5717, 5710) := by decide +kernel

/-- 06 section 6.4: the slice of scan 41. -/
theorem test_slice_means :
    let s := SliceAcc.finish ⟨2, 11531, 2, 1225, 2, 1538, 2, false, false, 0⟩ 2
    (s.bw, s.water, s.cal, s.moisture, s.dry, s.valid) = (some 5766, some 613, some 769, some 1062, some 5153, true) := by
  decide +kernel

/-- 07 section 7.3: the window through scans 60 to 70. -/
theorem test_window_run :
    let f : WindowDef := ⟨true, 3, 40, .bw, some 6000, some 5500, 3, .latest⟩
    let runs : List (Nat × List Nat) := [(60, [5980]), (61, [6040]), (63, [6120]), (64, []), (65, [6054]), (66, [5990]),
      (67, [6010]), (68, [5970]), (69, [5960]), (70, [5950])]
    let w (n : Nat) := (runs.take n).foldl (fun x e => x.evaluated f e.1 e.2) Window.reset
    [1, 2, 3, 4, 5, 6, 7, 8, 9, 10].map (fun n => ((w n).state, (w n).counter)) =
      [(.normal, 0), (.pending, 1), (.pending, 2), (.pending, 2), (.excursion, 0), (.excursion, 1), (.excursion, 0),
       (.excursion, 1), (.excursion, 2), (.normal, 0)] ∧ (w 10).excursion = some ⟨true, 6054, 65⟩ := by decide +kernel

/-- 08 section 8.2: a dropout within the qualify time, and a qualified loss. -/
theorem test_dropouts :
    let lost := after (.stationPresenceLost 0 6) (present .present none none .running 18000)
    let back := after (.stationPresenceSeen 12000 6) lost
    let gone := after (.qualifyExpiry 20000 6) lost
    ((lost.station 6).state, (lost.station 6).qualifyTimer) = (.losing, some 20000) ∧
    ((back.station 6).state, (back.station 6).flickers) = (.present, 1) ∧
    ((gone.station 6).state, (gone.station 6).losses, gone.brk.sheet, gone.brk.breakNumber) = (.broken, 1, .sheetBreak, 1) := by
  decide +kernel

/-- 10 section 10.4: the quality counter on a noisy cable. -/
theorem test_noisy_cable :
    let d0 := { base with lnk := { base.lnk with quality := 88, rx := { Rx.reset with state := .tag, gap := some 5 } } }
    let d1 := after (.gapTimeout 5) d0
    let d2 := ({ d1 with lnk := { d1.lnk with quality := 184 } }).linkError .gap
    (d1.lnk.quality, d1.lnk.link, (d1.entry srcLinkDegraded).value) = (96, .degraded, some 96) ∧
    (d2.lnk.quality, d2.lnk.link, (d2.entry srcLinkDegraded).repeats) = (192, .lost, 1) := by decide +kernel

/-- 10 section 10.3: the sixth waiting command lowers RDY, the ninth is lost. -/
theorem test_rdy :
    let d0 := { base with lnk := { base.lnk with replyQ := List.replicate 8 ⟨0x81, 1, []⟩ } }
    let send (d : Device) := after (.getStatus 1 2 []) d
    let q5 := send (send (send (send (send d0))))
    let q8 := send (send (send q5))
    (q5.lnk.cmdQ.length, q5.lnk.rdy) = (5, true) ∧ ((send q5).lnk.cmdQ.length, (send q5).lnk.rdy) = (6, false) ∧
    (q8.lnk.cmdQ.length, (send q8).lnk.cmdQ.length, (send q8).lnk.counts.overrun) = (8, 8, 1) := by decide +kernel

/-! ## Witnesses: the hypotheses of each obligation, met together

Each theorem lists, clause by clause, the hypotheses on the state before the row (the device written out, `dt` = 0) and on the
operands. Where a hypothesis is a predicate of Safety.lean, its parts are listed. -/

/-- The hypothesis `clear` of the host commands. -/
theorem clear_of {d : Device} (h : (d.pins.reset, d.lnk.cmdQ, decide (d.lnk.replyQ.length < 8)) = (false, [], true)) : d.clear := by
  simp only [Prod.mk.injEq, decide_eq_true_eq] at h
  exact h

/-- The part held in reset. -/
def held : Device := ({ base with pins := { base.pins with reset := true } }).held

theorem witness_HeldPartStaysBlank :
    held.pins.reset = true ∧ held = held.held ∧ ∀ (dt : Nat) (strap : Bool), Instr.home 0 1 [] ≠ .resetPinRelease dt strap :=
  ⟨by decide +kernel, by decide +kernel, fun _ _ h => by cases h⟩

theorem witness_PowerOnStarts : (base.advance 0).pins.reset = false ∧ (held.advance 0).pins.reset = true := by decide +kernel

/-- Also the hypothesis of StatusIsReported, FrameIsReported and ReadersAnswer; seven replies wait. -/
theorem witness_RestartKeepsConfiguration :
    (({ ready with lnk := { ready.lnk with replyQ := List.replicate 7 ⟨0x81, 1, []⟩ } }).advance 0).clear :=
  clear_of (by decide +kernel)

theorem witness_StatusIsReported :
    (ready.advance 0).clear ∧ (ready.setLnk { ready.lnk with cmdQ := [⟨0x01, 3, []⟩] }).lnk.cmdQ = ⟨0x01, 3, []⟩ :: [] :=
  ⟨clear_of (by decide +kernel), rfl⟩

theorem witness_FrameIsReported : (ready.advance 0).clear := clear_of (by decide +kernel)

theorem witness_UnknownKindRefused : WellFormed (.unknownKindCommand 0 0x80 3 [7]) = true ∧ (base.advance 0).clear :=
  ⟨by decide +kernel, clear_of (by decide +kernel)⟩

theorem witness_RefusalChangesNothing :
    handlerOf 0x1A ⟨0x1A, 1, []⟩ base = (base, some (.only .unconfigured)) ∧
    (Answer.only .unconfigured).code ≠ .ok ∧ (Answer.only .unconfigured).code ≠ .accepted ∧
    ([] : List Byte).length ≠ 30 ∧ ([0, 2] : List Byte).length ≠ 2 + 6 * field [0, 2] 1 1 := by decide +kernel

/-- A part with commands waiting. -/
def waiting (replies commands : Nat) : Device :=
  { base with lnk := { base.lnk with
      replyQ := List.replicate replies ⟨0x81, 1, []⟩, cmdQ := List.replicate commands ⟨0x01, 1, []⟩, rdy := decide (commands < 6) } }

theorem witness_CommandsDispatchInOrder :
    ((waiting 7 1).lnk.cmdQ = ⟨0x01, 1, []⟩ :: [] ∧ (waiting 7 1).lnk.replyQ.length < 8) ∧
    (frameOf (.home 0 2 []) = some (0x18, 2, []) ∧ (waiting 8 7).pins.reset = false ∧ 8 ≤ (waiting 8 7).lnk.replyQ.length ∧
      ((waiting 8 7).advance 0).lnk.cmdQ.length < 8 ∧ ((waiting 8 8).advance 0).lnk.cmdQ.length = 8) := by decide +kernel

theorem witness_ReceiverAssembles :
    (⟨0x1A, 1, List.replicate 250 7⟩ : Frame).payload.length ≤ 250 ∧ Rx.reset.state = .hunt := by decide +kernel

/-- A receiver in a state. -/
def receiving (st : RxState) (q : Nat) : Device :=
  { base with lnk := { base.lnk with rx := { Rx.reset with state := st, gap := some 9 }, quality := q } }

theorem witness_ReceiverErrors :
    ((receiving .hunt 0).advance 0).pins.reset = false ∧
    (((receiving .hunt 0).advance 0).lnk.rx.state = .hunt ∧ (0xA4 : Byte) ≠ 0xA5) ∧
    (((receiving .length 95).advance 0).lnk.rx.state = .length ∧ 250 < (251 : Byte).toNat ∧ (250 : Byte).toNat ≤ 250) ∧
    ((receiving .tag 0).lnk.rx.state = .tag ∧ (receiving .checkHigh 0).lnk.rx.state = .checkHigh) ∧
    (let x (n : Byte) : Rx := ⟨.payload, n, 0x18, 1, [7], 0, some 9⟩
     (x 3).state = .payload ∧ (x 3).payload.length + 1 < (x 3).length.toNat ∧ (x 2).length.toNat ≤ (x 2).payload.length + 1) ∧
    (((receiving .kind 255).advance 0).lnk.rx.state ≠ .hunt ∧ ((receiving .kind 255).advance 0).lnk.rx.state ≠ .lineLow) ∧
    ((receiving .lineLow 0).advance 0).lnk.rx.state = .lineLow := by decide +kernel

/-- A receiver that waits for the last byte of GET_STATUS with tag 3. -/
def closing (commands : Nat) : Device :=
  { waiting 8 commands with lnk := { (waiting 8 commands).lnk with
      rx := ⟨.checkLow, 0, 0x01, 3, [], (crc [0, 0x01, 3]).setWidth 16 >>> 8 |>.setWidth 8, some 9⟩ } }

theorem witness_FrameCompletes :
    (((closing 7).advance 0).pins.reset = false ∧ ((closing 7).advance 0).lnk.rx.state = .checkLow) ∧
    (let r := ((closing 7).advance 0).lnk.rx
     let b : Byte := (crc [0, 0x01, 3]).setWidth 8
     r.checkHigh ++ b = crc (r.length :: r.kind :: r.tag :: r.payload) ∧ ¬(r.checkHigh ++ (b + 1) = crc (r.length :: r.kind :: r.tag :: r.payload))) ∧
    ((closing 7).advance 0).lnk.cmdQ.length < 8 ∧ 8 ≤ ((closing 8).advance 0).lnk.cmdQ.length := by decide +kernel

theorem witness_LineEventsAct :
    ((receiving .tag 0).advance 0).pins.reset = false ∧ ((receiving .tag 0).advance 0).lnk.rx.gap = some 9 ∧
    ((receiving .tag 0).advance 0).lnk.rx.state ≠ .lineLow ∧ ((receiving .lineLow 0).advance 0).lnk.rx.state = .lineLow ∧
    (({ base with lnk := { base.lnk with tx := some ⟨0xC0, 0, []⟩ } }).advance 0).lnk.tx ≠ none ∧
    ((receiving .tag 0).advance 0).pins.hrdy = false := by decide +kernel

/-- A link state with a counter. -/
def linked (l : LinkState) (q : Nat) : Lnk := { base.lnk with link := l, quality := q }

theorem witness_LinkStateActs :
    ((linked .good 95).link = .good ∧ (linked .good 95).quality < 96) ∧
    ((linked .good 96).link = .good ∧ 96 ≤ (linked .good 96).quality) ∧
    ((linked .degraded 95).link = .degraded ∧ (linked .degraded 95).quality < 96) ∧
    ((linked .degraded 191).link = .degraded ∧ 96 ≤ (linked .degraded 191).quality ∧ (linked .degraded 191).quality < 192) ∧
    ((linked .degraded 192).link = .degraded ∧ 192 ≤ (linked .degraded 192).quality) ∧
    ((linked .lost 95).link = .lost ∧ (linked .lost 95).quality < 96) ∧
    ((linked .lost 96).link = .lost ∧ 96 ≤ (linked .lost 96).quality) := by decide +kernel

/-- The states in which the loss of the link finds the traverse: over the sheet far from the park position and at it, in a
collection, and elsewhere with an operation that R42 ends or lets go on. -/
theorem witness_LinkStateActs_parks :
    let lost (d : Device) : Device := { d with lnk := { d.lnk with link := .lost } }
    let far := lost (scanning 1231)
    (far.lnk.link = .lost ∧ far.trv.state = .scan ∧ far.trv.frame = some fr ∧ fr.softLow ≤ fr.park ∧ fr.park ≤ fr.softHigh ∧
      far.prf.openScan.isSome = true ∧ far.trv.op.isSome = true) ∧
    (20 < Machine.dist far.trv.counter fr.park ∧ far.trv.enable = true ∧ far.pins.limit .ts = false ∧
      ({ far with pins := { far.pins with limitTs := true } }).pins.limit .ts = true ∧
      Machine.dist (lost (scanning 1230)).trv.counter fr.park ≤ 20) ∧
    (let c := lost (timed .standardizing .collecting 0 false)
     c.trv.state = .standardizing ∧ c.std.phase ≠ .idle ∧ c.trv.pending = none ∧ c.trv.resume = none ∧
     (queued c).trv.pending = some (7, ks) ∧ ({ c with trv := { c.trv with op := some ⟨.scan, 9, 0, true, false, false⟩ } }).trv.op.isSome = true) ∧
    (let d (k : OpKind) := lost (ended .parking (.move 1210 800 .park) 1300 (some ⟨k, 9, 0, true, false, false⟩))
     (d .scan).trv.state = .parking ∧ (d .scan).trv.op.map OpRecord.kind = some .scan ∧
     ∀ o ∈ (d .park).trv.op, o.kind ≠ .scan ∧ o.kind ≠ .point) := by decide +kernel

/-- A part whose line is free, with what is queued. -/
def sending (held : Bool) (replies alarms events : List Frame) (report : Report) (batch : Option Frame) : Device :=
  { base with
    pins := { base.pins with hrdy := true }
    lnk := { base.lnk with startedHold := held, replyQ := replies, alarmQ := alarms, eventQ := events }
    prf := { Prf.reset with report := report, batch := batch } }

theorem witness_ArbiterOrder :
    let f : Frame := ⟨0xC0, 0, []⟩
    let header : Frame := ⟨0xC5, 0, []⟩
    let free (d : Device) : Prop := d.lnk.tx = none ∧ d.pins.hrdy = true ∧ d.lnk.startedHold = false
    let startup := sending true [] [] [f] ⟨[], 0⟩ none
    let empty := sending false [] [] [] ⟨[], 0⟩ none
    (base.lnk.tx ≠ none ∨ base.pins.hrdy = false) ∧
    (startup.lnk.tx = none ∧ startup.pins.hrdy = true ∧ startup.lnk.startedHold = true ∧ startup.lnk.eventQ = f :: [] ∧
      f.kind = startedKind) ∧
    ((sending true [] [] [header] ⟨[], 0⟩ none).lnk.startedHold = true ∧
      ∀ g ∈ (sending true [] [] [header] ⟨[], 0⟩ none).lnk.eventQ.head?, g.kind ≠ startedKind) ∧
    (free (sending false [f] [] [] ⟨[], 0⟩ none) ∧ (sending false [f] [] [] ⟨[], 0⟩ none).lnk.replyQ = f :: []) ∧
    (free (sending false [] [f] [] ⟨[], 0⟩ none) ∧ (sending false [] [f] [] ⟨[], 0⟩ none).lnk.alarmQ = f :: []) ∧
    (free (sending false [] [] [f] ⟨[], 0⟩ none) ∧ (sending false [] [] [f] ⟨[], 0⟩ none).lnk.eventQ = f :: []) ∧
    (let state : Frame := ⟨0xC2, 0, [3, 1, 0, 0, 1]⟩
     free (sending false [] [] [state] ⟨[], 0⟩ none) ∧ (sending false [] [] [state] ⟨[], 0⟩ none).lnk.eventQ = state :: [] ∧
     state.kind = stateKind) ∧
    (free empty ∧ empty.lnk.replyQ = [] ∧ empty.lnk.alarmQ = [] ∧ empty.lnk.eventQ = [] ∧ empty.prf.report.unbegun = [] ∧
      empty.prf.batch = none) ∧
    ((sending false [] [] [] ⟨[f, header], 1⟩ none).prf.report.unbegun = header :: [] ∧ header.kind = profileKind) ∧
    ((sending false [] [] [] ⟨[header, f], 1⟩ none).prf.report.unbegun = f :: [] ∧ f.kind ≠ profileKind) ∧
    ((sending false [] [] [] ⟨[f], 1⟩ (some f)).prf.report.unbegun = [] ∧
      (sending false [] [] [] ⟨[f], 1⟩ (some f)).prf.batch = some f ∧ empty.lnk.link = .good) := by decide +kernel

theorem witness_NoticesKeepOrder :
    let done : Frame := ⟨doneKind, 0, []⟩
    let d (events overflow : Nat) : Device :=
      { base with lnk := { base.lnk with eventQ := List.replicate events done, overflow := List.replicate overflow done } }
    (scanning 1250).trv.op = some ⟨.scan, 9, 0, false, false, false⟩ ∧
    ((d 7 0).lnk.eventQ.length < 8 ∧ (d 7 0).lnk.overflow = []) ∧
    (8 ≤ (d 8 8).lnk.eventQ.length ∧ done.kind = doneKind ∧ 8 ≤ countKind doneKind (d 8 8).lnk.overflow) ∧
    (8 ≤ (d 8 7).lnk.eventQ.length ∧ countKind doneKind (d 8 7).lnk.overflow < 8) ∧
    (((d 7 1).advance 0).pins.reset = false ∧ ((d 7 1).advance 0).lnk.overflow = done :: [] ∧
      ((d 7 1).advance 0).lnk.eventQ.length < 8 ∧ 8 ≤ ((d 8 1).advance 0).lnk.eventQ.length) := by decide +kernel

theorem witness_StateNoticeWaitsOnce :
    base.stateChanged = false ∧
    ((∃ f ∈ [(⟨stateKind, 0, []⟩ : Frame)], f.kind = stateKind) ∧ (base.setChanged true).stateChanged = true) ∧
    ¬∃ f ∈ (base.setChanged true).lnk.eventQ ++ (base.setChanged true).lnk.overflow, f.kind = stateKind := by decide +kernel

/-- A SET_FRAME payload; the span is the smallest allowed where it is 4,000. -/
def framePayload (span offset park : Nat) : List Byte :=
  beBytes 4 1100 ++ beBytes 4 (1100 + span) ++ beBytes 4 offset ++ beBytes 2 60 ++ beBytes 4 park ++ beBytes 2 100 ++ beBytes 2 800 ++
    beBytes 2 5000

theorem witness_SetFrameActs :
    ((parked.advance 0).clear ∧ (parked.advance 0).shutterFollows) ∧
    (let scan := (scanning 1250).advance 0
     ¬(scan.trv.state = .unhomed ∨ scan.trv.state = .parked ∨ scan.trv.state = .halted ∧ scan.trv.enable = false)) ∧
    ((parked.advance 0).trv.state = .parked ∧ (framePayload 4000 1200 1210).length = 24) ∧
    (field (framePayload 3999 1200 1210) 4 4 < field (framePayload 3999 1200 1210) 0 4 + 4000 ∧
      field (framePayload 4000 1200 1210) 4 4 = field (framePayload 4000 1200 1210) 0 4 + 4000) ∧
    ((parked.advance 0).trv.homed = true ∧ ∃ o ∈ (parked.advance 0).trv.frame, o.homeOffset ≠ field (framePayload 4900 1201 1210) 8 4) ∧
    ((∃ o ∈ (parked.advance 0).trv.frame, o.park ≠ field (framePayload 4900 1200 1211) 14 4) ∧
      ¬∃ o ∈ (parked.advance 0).trv.frame, o.homeOffset ≠ field (framePayload 4900 1200 1211) 8 4) ∧
    ¬∃ o ∈ (parked.advance 0).trv.frame, o.park ≠ field (framePayload 4900 1200 1210) 14 4 :=
  ⟨⟨clear_of (by decide +kernel), by unfold Device.shutterFollows; decide +kernel⟩, by decide +kernel⟩

theorem witness_LegalStepCounts :
    let at' (homed : Bool) (n : Nat) : Device := ({ dev .point .hold n with trv := { (dev .point .hold n).trv with homed := homed } }).advance 0
    ((at' true 0).pins.reset = false ∧ (at' true 262143).trv.counter ≤ 262143 ∧ (base.advance 0).trv.sampling = none ∧
      (at' true 0).trv.sampling = some (false, false)) ∧
    ((false, false, true, false) ∈ [(false, false, true, false), (true, true, false, true), (true, false, true, true),
      (false, true, false, false)] ∧ (at' true 262142).trv.counter < 262143) ∧
    ((false, false, false, true) ∈ [(false, true, true, true), (true, false, false, false), (false, false, false, true),
      (true, true, true, false)] ∧ 0 < (at' true 1).trv.counter) ∧
    (let still (d : Device) := d.trv.state ≠ .scan ∧
       ((d.trv.state = .approach ∨ d.trv.state = .turn) → ∀ side ∈ [Side.ts, .ds], d.trv.motion ≠ .runUp side)
     still (at' true 0) ∧ still (dev .approach (.move 1225 800 (.runUp .ds)) 1300) ∧ still (dev .turn (.braking false) 1331)) ∧
    ((at' false 262143).trv.counter = 262143 ∧ (at' false 262143).trv.homed = false ∧ (at' false 0).trv.counter = 0 ∧
      (at' true 262143).trv.homed = true) := by decide +kernel

theorem witness_ScanningSteps :
    let d (n : Nat) := (scanning n).advance 0
    ((d 1250).trv.sampling = some (false, false) ∧ (true != false) = !(false != false) ∧ true = stepUp false false true false ∧
      1251 = (if true then (d 1250).trv.counter + 1 else (d 1250).trv.counter - 1) ∧ 0 < (d 1250).trv.counter ∧
      (d 1250).trv.counter < 262143 ∧ (d 1250).pins.reset = false ∧ (d 1250).trv.state = .scan ∧ (d 1250).trv.openCmd = true ∧
      (d 1250).trv.range = some ⟨1230, 1330, 5⟩ ∧ (d 1250).trv.active = some ks) ∧
    ((d 1250).trv.scanDir = .ds ∧ stepUp false false false true = false) ∧
    (¬((1330 : Int) ≤ (1251 : Nat)) ∧ (d 1250).acq.next ≠ some 1251) ∧ (d 1279).acq.next = some ((d 1279).trv.counter + 1) ∧
    ((1330 : Int) ≤ ((d 1329).trv.counter + 1 : Nat) ∧ (d 1329).trv.pending = none ∧ (d 1250).acq.sample.isSome = true) ∧
    ((queued (d 1329)).trv.pending = some (7, ks) ∧ (queued (d 1329)).trv.frame = some fr) ∧
    (let shut := { d 1279 with acq := { (d 1279).acq with sample := none } }
     shut.acq.sample = none ∧ shut.acq.next = some (shut.trv.counter + 1)) := by decide +kernel

/-- A boundary at which a channel has its eighth record without a pulse, one at which the only flagged channel has come back, and one
that changes no set; the entry IDLE, and then in service. -/
theorem witness_ScanningSteps_supervises :
    let at' (flagged : ChannelSet) (dead : Nat) (raised : Bool) : Device :=
      let d := (scanning 1279).advance 0
      let d := { d with acq := { d.acq with
        flagged := flagged, dead := ⟨dead, 0, 0, 0⟩, sample := d.acq.sample.map (fun o => { o with bw := 0 }) } }
      if raised then d.setEntry srcChannelFault ⟨.inService, true, 0, some 2, some 0, some 5⟩ else d
    let x (d : Device) := (after (.legalStep 0 true false) d).acq
    ((at' ⟨false, false, false, false⟩ 7 false).acq.sample.isSome = true ∧
      ((at' ⟨false, false, false, false⟩ 7 false).entry srcChannelFault).state = .idle ∧
      ((at' ⟨false, true, false, false⟩ 7 true).entry srcChannelFault).state = .inService) ∧
    (x (at' ⟨false, false, false, false⟩ 7 false)).flagged.mask ≠ 0 ∧
    (x (at' ⟨false, true, false, false⟩ 0 false)).flagged = ⟨false, false, false, false⟩ ∧
    (x (at' ⟨false, false, false, false⟩ 6 false)).flagged = ⟨false, false, false, false⟩ := by decide +kernel

/-- A record open over the map of `scanning`, one of its slices with samples, the windows and the reports that its close meets. -/
def closingScan (source : Nat) (completed : Bool) : Device :=
  let d := scanning 1250
  let a : SliceAcc := ⟨1, 5760, 1, 611, 1, 0, 0, false, false, 0⟩
  let w : OpenScan := ⟨2, .ds, 0, ⟨1230, 40, 4⟩, 7, 1, some 1235, some 1240, [a, .empty, .empty, .empty]⟩
  { d with
    trv := { d.trv with active := some { ks with source := source } }
    prf := { d.prf with openScan := some w, filtered := if completed then some (w.finish 1 5 .complete) else none, reseed := !completed }
    win := d.win.set 6 { Window.reset with definition := some ⟨true, 0, 0, .bw, some 5000, none, 1, .latest⟩ } }

theorem witness_ScanningSteps_closes :
    let d := closingScan 1 false
    (∀ w ∈ d.prf.openScan, w.slices.length = w.map.count ∧ 0 < w.map.width) ∧
    (d.prf.openScan.isSome = true ∧ d.trv.active = some { ks with source := 1 }) ∧
    (Completion.abortedLink ≠ .complete ∧ d.prf.filtered = none ∧ (closingScan 2 true).prf.filtered.isSome = true ∧
      (closingScan 2 true).prf.reseed = false) ∧
    ((∀ f ∈ (d.window 6).definition, f.enabled = true) ∧ (d.window 0).definition = none ∧ (d.window 6).state = .normal ∧
      (d.entry (srcWindow 6)).state = .idle ∧ ((d.closeScan .complete).window 6).state = .excursion) ∧
    ({ ks with source := 0 }.source ≠ 1 ∧ { ks with source := 0 }.source ≠ 2 ∧ d.lnk.link = .good ∧ d.prf.report.unbegun = []) := by
  decide +kernel

theorem witness_RunUpEntersScan :
    let d (n : Nat) := (dev .approach (.runUp .ds) n).advance 0
    (let x := d 1229
     x.trv.sampling = some (false, false) ∧ (true != false) = !(false != false) ∧ true = stepUp false false true false ∧
     1230 = (if true then x.trv.counter + 1 else x.trv.counter - 1) ∧ 0 < x.trv.counter ∧ x.trv.counter < 262143 ∧
     x.pins.reset = false ∧ (x.trv.state = .approach ∨ x.trv.state = .turn) ∧ x.trv.motion = .runUp .ds ∧
     x.trv.openCmd = x.trv.state.opens ∧ x.trv.range = some ⟨1230, 1330, 5⟩ ∧ x.trv.active = some ks ∧ 0 < ks.pitch) ∧
    ((1230 : Int) ≤ ((d 1229).trv.counter + 1 : Nat) ∧ ¬((1230 : Int) ≤ ((d 1228).trv.counter + 1 : Nat))) := by decide +kernel

/-- The next boundary, hand-counted over 1,230 to 1,330 with pitch 50 and 40: on and off a boundary, toward both sides, and none left. -/
theorem witness_RunUpEntersScan_boundaries :
    let next (side : Side) (pitch n : Nat) (b : Bool) : Option Nat :=
      let d := dev .approach (.runUp side) n
      (after (.legalStep 1 b (!b)) { d with trv := { d.trv with active := some { ks with pitch := pitch } } }).acq.next
    (next .ds 50 1229 true, next .ds 50 1230 true, next .ts 50 1331 false, next .ts 40 1331 false, next .ts 40 1311 false,
      next .ts 50 1231 false) = (some 1280, some 1280, some 1280, some 1310, some 1270, none) := by decide +kernel

theorem witness_IllegalTransitionsCount :
    let d (n : Nat) (homed : Bool) (st : TravState) (m : Motion) : Device :=
      ({ dev st m 1250 with trv := { (dev st m 1250).trv with faultCount := n, homed := homed } }).advance 0
    (let x := d 3 true .scan .scanning
     x.pins.reset = false ∧ x.trv.sampling = some (false, false) ∧ x.trv.homed = true ∧ min 255 (x.trv.faultCount + 1) = 4) ∧
    ¬((d 4 true .scan .scanning).trv.homed = true ∧ min 255 ((d 4 true .scan .scanning).trv.faultCount + 1) = 4) ∧
    ((d 3 true .scan .scanning).trv.enable = true ∧ (d 3 true .scan .scanning).trv.state ≠ .halted) ∧
    ((d 3 true .halted .stopping).trv.enable = true ∧ (d 3 true .halted .stopping).trv.state = .halted) ∧
    (d 3 true .parked .rest).trv.enable = false ∧ ((d 3 true .parked .rest).entry srcPositionLost).state = .idle ∧
    (let o : OpRecord := ⟨.standardize, 9, 0, false, false, false⟩
     (ended .standardizing .rest 1250 (some o)).trv.op = some o ∧ (dev .standardizing .rest 1250).trv.enable = false) := by
  decide +kernel

/-- A device with limit switches closed. -/
def limited (ts ds : Bool) (d : Device) : Device := { d with pins := { d.pins with limitTs := ts, limitDs := ds } }

/-- A head in the seek, the park position of its frame record at a distance from the home offset. -/
def seeking (away : Nat) : Device :=
  let d := dev .homing .seek 500
  { d with trv := { d.trv with homed := false, op := some ⟨.home, 4, 0, false, false, false⟩,
                               frame := some { fr with park := fr.homeOffset + away } } }

theorem witness_HomeSwitchCloses :
    let d := (dev .point .hold 1260).advance 0
    (d.pins.reset = false ∧ d.pins.home = false ∧ d.trv.frame = some fr ∧ d.trv.motion ≠ .seek ∧ d.trv.homed = true) ∧
    (base.advance 0).trv.homed = false ∧
    (Machine.dist d.trv.counter fr.homeOffset ≤ fr.homeTolerance ∧ fr.homeTolerance < Machine.dist 1261 fr.homeOffset) ∧
    (let s := (seeking 21).advance 0
     let f := { fr with park := fr.homeOffset + 21 }
     s.trv.motion = .seek ∧ s.trv.enable = true ∧ s.trv.frame = some f ∧ f.softLow ≤ f.park ∧ f.park ≤ f.softHigh ∧
     20 < Machine.dist f.homeOffset f.park ∧ s.pins.limit .ds = false) ∧
    (let s := (seeking 20).advance 0
     let f := { fr with park := fr.homeOffset + 20 }
     s.trv.op = some ⟨.home, 4, 0, false, false, false⟩ ∧ s.trv.resume = none ∧ Machine.dist f.homeOffset f.park ≤ 20) ∧
    (limited false true ((seeking 21).advance 0)).pins.limit .ds = true ∧ (queued (seeking 20)).trv.pending.isSome = true := by
  decide +kernel

theorem witness_FrameSwitchesAct :
    (let d := (dev .homing .backOff 5).advance 0
     d.pins.reset = false ∧ d.pins.limit .ts = false ∧ d.trv.motion = .backOff) ∧
    (let d := (scanning 1250).advance 0
     d.pins.limit .ds = false ∧ ¬(Side.ds = .ts ∧ d.trv.motion = .backOff) ∧ (d.entry srcOvertravel).state = .idle ∧
     ((d.rise srcOvertravel 5).entry srcOvertravel).state ≠ .idle ∧ d.trv.op.isSome = true) ∧
    (((limited true false base).advance 0).pins.limit .ts = true ∧ ((limited true false base).advance 0).pins.limit Side.ts.opposite = false) ∧
    (((limited true true base).advance 0).pins.limit .ts = true ∧ ((limited true true base).advance 0).pins.limit Side.ts.opposite = true) ∧
    (({ base with pins := { base.pins with home := true } }).advance 0).pins.home = true := by decide +kernel

/-- A head with the drive's timers running, stalled since a count. -/
def driven (noted : Nat) : Device :=
  let d := scanning 1250
  { d with trv := { d.trv with stall := some ⟨noted, 9⟩, restTimer := some 9, periodDue := some 9, highDue := some 9 } }

theorem witness_DriveIsSupervised :
    (let d := (driven 1211).advance 0
     d.pins.reset = false ∧ d.pins.ready = true ∧ d.trv.stall = some ⟨1211, 9⟩ ∧ d.trv.restTimer = some 9 ∧
     d.trv.openCmd = d.trv.state.opens ∧ Machine.dist 1211 d.trv.counter < 40 ∧ ¬(Machine.dist 1210 d.trv.counter < 40)) ∧
    ((scanning 1250).trv.enable = true ∧ (scanning 1250).prf.openScan.isSome = true ∧
      ((scanning 1250).entry srcDriveFault).state = .idle ∧ (scanning 1250).trv.op.isSome = true) := by decide +kernel

theorem witness_SpeedReferencePeriod :
    let d := (driven 1210).advance 0
    d.trv.periodDue = some 9 ∧ d.trv.frame = some fr ∧ 0 < fr.accel ∧ d.pins.reset = false ∧ d.trv.highDue = some 9 := by
  decide +kernel

theorem witness_RampsEnd :
    let basic (d : Device) : Prop := d.trv.frame = some fr ∧ d.trv.enable = true ∧ d.trv.openCmd = d.trv.state.opens ∧
      d.trv.commanded = 0 ∧ d.trv.target = 0
    (basic (ended .homing .reversing 300 none) ∧ (scanning 1250).trv.commanded ≠ 0) ∧
    (basic (ended .halted .stopping 1250 none) ∧ (ended .halted .stopping 1250 none).trv.motion = .stopping) ∧
    (basic (ended .parking (.move 1210 800 .park) 1231 none) ∧ 20 < Machine.dist 1231 1210 ∧ Machine.dist 1230 1210 ≤ 20 ∧
      fr.softLow ≤ 1210 ∧ 1210 ≤ fr.softHigh ∧ (ended .parking (.move 1210 800 .park) 1231 none).pins.limit .ts = false) ∧
    ((ended .parking (.move 1210 800 .park) 1230 (some ⟨.park, 1, 0, false, false, false⟩)).trv.resume = none) ∧
    basic (ended .approach (.move 1250 800 .point) 1250 none) ∧
    (basic (ended .approach (.move 1225 800 (.runUp .ds)) 1225 none) ∧
      (ended .approach (.move 1225 800 (.runUp .ds)) 1225 none).atRangeStart .ds = false) ∧
    (let d := ended .turn (.braking true) 1332 none
     basic d ∧ d.trv.range = some ⟨1230, 1330, 5⟩ ∧ 20 < Machine.dist d.trv.counter fr.park) ∧
    (let d := { ended .turn (.braking false) 1331 none with trv := { (ended .turn (.braking false) 1331 none).trv with scanDir := .ts } }
     basic d ∧ d.pins.limit .ts = false ∧ (1330 : Int) < d.trv.counter) ∧
    (let d := { ended .turn (.braking false) 1300 none with trv := { (ended .turn (.braking false) 1300 none).trv with scanDir := .ts } }
     basic d ∧ (5 : Int) ≤ 1230 - fr.softLow ∧ (1330 : Int) + 5 ≤ fr.softHigh ∧ (d.trv.counter : Int) ≤ 1330 ∧
       20 < Machine.dist d.trv.counter 1335 ∧ d.pins.limit .ds = false) := by decide +kernel

theorem witness_RampsEnd_operations :
    (∀ o, (ended .parking (.move 1210 800 .park) 1230 (some ⟨.park, 1, 0, false, false, false⟩)).trv.op = some o →
      o.kind = .home ∨ o.kind = .park ∨ o.kind = .scan) ∧
    ∀ o, (ended .parking (.move 1210 800 .park) 1230 (some ⟨.park, 1, 0, false, false, false⟩)).trv.op = some o →
      o.kind = .scan → o.stdDue = false := by
  refine ⟨fun o h => ?_, fun o h _ => ?_⟩ <;> (cases h; simp)

/-- A STOP whose ramp ends, a SCAN that reaches the park position with its standardize due, and settings waiting there. -/
theorem witness_RampsEnd_done :
    let stop : OpRecord := ⟨.stop, 3, 0, false, false, false⟩
    let scan : OpRecord := ⟨.scan, 9, 0, true, true, false⟩
    let h := ended .halted .stopping 1250 (some stop)
    let a := queued { ended .parking (.move 1210 800 .park) 1230 (some scan) with std := { Std.reset with settings := some stds } }
    (h.trv.op = some stop ∧ h.opKind = some .stop ∧ h.trv.commanded = 0 ∧ h.trv.frame = some fr) ∧
    (a.trv.op = some scan ∧ scan.kind = .scan ∧ scan.stdDue = true ∧ a.trv.pending.isSome = true ∧ a.std.settings = some stds ∧
      a.trv.commanded = 0 ∧ a.trv.target = 0 ∧ Machine.dist a.trv.counter 1210 ≤ 20 ∧ a.trv.frame = some fr ∧
      a.trv.enable = true) := by decide +kernel

/-- A part whose shutter feedback disagrees, a collection running or not. -/
def mismatched (phase : StdPhase) : Device :=
  let d := dev .standardizing .rest 1210
  { d with trv := { d.trv with mismatch := some 9 }, std := { Std.reset with settings := some stds, phase := phase } }

theorem witness_ShutterIsSupervised :
    ((base.trv.openCmd = TravState.parked.opens) ∧ base.trv.openCmd ≠ TravState.scan.opens ∧
      base.pins.closed = TravState.scan.opens ∧ (scanning 1250).trv.openCmd ≠ TravState.parked.opens ∧
      (scanning 1250).pins.closed ≠ TravState.parked.opens ∧ ((mismatched .settling).entry srcStdFail).state = .idle) ∧
    ((base.advance 0).pins.closed = true ∧ (base.advance 0).pins.reset = false ∧ (base.advance 0).pins.closed ≠ false ∧
      ((mismatched .idle).advance 0).pins.closed ≠ false ∧ false ≠ ((mismatched .idle).advance 0).trv.openCmd) ∧
    (false = (base.advance 0).trv.openCmd) ∧
    (((mismatched .idle).advance 0).trv.mismatch = some 9 ∧ ((mismatched .idle).advance 0).std.phase = .idle) ∧
    (((mismatched .settling).advance 0).std.phase ≠ .idle ∧ ((mismatched .settling).advance 0).trv.resume = none) := by decide +kernel

/-- The same part with SHUTTER raised, another sheet state, another link state. -/
def troubled (shutter : Bool) (sheet : SheetState) (link : LinkState) (d : Device) : Device :=
  let d := { d with brk := { d.brk with sheet := sheet }, lnk := { d.lnk with link := link } }
  if shutter then d.setEntry srcShutter { d.entry srcShutter with live := true } else d

theorem witness_MotionCommandsAreJudged :
    let unhomed := base.advance 0
    let halted := (dev .halted .rest 1250).advance 0
    let usable (k : ScanSettings) : Prop :=
      let t : Int := ((10 * k.speed ^ 2 + fr.accel - 1) / fr.accel : Nat)
      max (k.low : Int) (fr.softLow + t) + 2 * k.pitch ≤ min (k.high : Int) (fr.softHigh - t)
    (unhomed.trv.state = .unhomed ∧ unhomed.trv.frame = none) ∧
    ((dev .homing .seek 500).trv.state = .homing ∧ (dev .halted .stopping 500).trv.state = .halted ∧
      (dev .halted .stopping 500).trv.enable = true ∧ (dev .parking (.move 1210 800 .park) 1300).trv.state = .parking ∧
      (scanning 1250).trv.state = .scan) ∧
    (halted.trv.state = .halted ∧ halted.trv.homed = true ∧ halted.trv.enable = false) ∧
    (({ dev .halted .rest 1250 with trv := { (dev .halted .rest 1250).trv with homed := false } }).trv.homed = false) ∧
    (({ dev .halted .rest 1250 with trv := { (dev .halted .rest 1250).trv with frame := none } }).trv.frame = none) ∧
    (({ parked with trv := { parked.trv with active := none } }).trv.active = none) ∧
    (parked.trv.state = .parked ∧ parked.trv.frame = some fr ∧ parked.trv.active = some ks ∧ usable ks ∧
      usable { ks with pitch := 50 } ∧ ¬usable { ks with pitch := 51 } ∧ parked.trv.planCount = 0) ∧
    ((dev .parked .rest 1210).std.settings = none ∧ parked.std.settings ≠ none) ∧
    (parked.cond srcShutter = false ∧ (troubled true .running .good parked).cond srcShutter = true ∧
      (troubled false .threading .good parked).brk.sheet ≠ .running ∧ (troubled false .running .degraded parked).lnk.link ≠ .good ∧
      (troubled false .running .lost parked).lnk.link = .lost) ∧
    ((beBytes 4 1100).length = 4 ∧ field (beBytes 4 1099) 0 4 < fr.softLow ∧ fr.softLow ≤ field (beBytes 4 1100) 0 4 ∧
      field (beBytes 4 6000) 0 4 ≤ fr.softHigh ∧ fr.softHigh < field (beBytes 4 6001) 0 4 ∧ 262143 < field (beBytes 4 262144) 0 4) := by
  decide +kernel

theorem witness_HomeBegins :
    let d := parked.advance 0
    (d.clear ∧ d.shutterFollows) ∧ (d.trv.enable = false ∧ d.trv.frame = some fr ∧ d.trv.state = .parked) ∧
    (d.pins.ready = true ∧ ¬(d.pins.home = true ∨ d.pins.limitTs = true) ∧ (limited true false d).pins.limitTs = true ∧
      (limited true false d).pins.limitDs = false ∧ (limited true true d).pins.limitDs = true ∧
      ({ d with pins := { d.pins with ready := false } }).pins.ready = false) :=
  ⟨⟨clear_of (by decide +kernel), by unfold Device.shutterFollows; decide +kernel⟩, by decide +kernel⟩

theorem witness_ParkAndStopBegin :
    let scan (n : Nat) := (scanning n).advance 0
    (scan 1250).clear ∧
    ((scan 1250).trv.frame = some fr ∧ (scan 1250).trv.state = .scan ∧ fr.softLow ≤ fr.park ∧ fr.park ≤ fr.softHigh) ∧
    (20 < Machine.dist (scan 1231).trv.counter fr.park ∧ (scan 1231).trv.enable = true ∧ (scan 1231).pins.limit .ts = false ∧
      (limited true false (scan 1231)).pins.limit .ts = true ∧ Machine.dist (scan 1230).trv.counter fr.park ≤ 20) ∧
    (let h := { dev .halted .rest 1231 with pins := { base.pins with ready := false } }
     h.trv.state = .halted ∧ h.trv.homed = true ∧ h.trv.enable = false ∧ h.pins.ready = false) ∧
    ((mismatched .settling).trv.state = .standardizing ∧ (mismatched .settling).std.phase ≠ .idle ∧
      (mismatched .settling).trv.enable = false) ∧
    ((scan 1250).trv.op = some ⟨.scan, 9, 0, false, false, false⟩ ∧ (queued (scan 1230)).trv.pending = some (7, ks) ∧
      (scan 1250).trv.state ≠ .unhomed ∧ (scan 1250).trv.state ≠ .halted ∧ (scan 1250).prf.openScan.isSome = true) :=
  ⟨clear_of (by decide +kernel), by decide +kernel⟩

/-- 02 section 2.1: a STOP in SCAN is answered, and the SCAN in flight is over with ABORTED, told ahead of all else. -/
theorem test_stop_aborts :
    let d := scanning 1250
    let e := after (.stop 1 3 []) { d with lnk := { d.lnk with eventQ := [] } }
    (e.lnk.eventQ ++ e.lnk.overflow).head? = some ⟨0xC1, 9, [0x1A, 1, 0, 5, 255]⟩ ∧
    e.trv.op = some ⟨.stop, 3, 0, false, false, false⟩ := by decide +kernel

theorem witness_MeasuringBegins :
    let d := ready.advance 0
    (d.clear ∧ d.shutterFollows ∧ d.measuresInPlace) ∧
    (d.trv.enable = false ∧ d.trv.commanded = 0 ∧ d.pins.ready = true ∧ d.trv.state = .parked ∧ d.trv.frame = some fr ∧
      d.trv.active = some ks ∧ fr.softLow ≤ fr.park ∧ fr.park ≤ fr.softHigh ∧ d.cond srcShutter = false ∧ d.brk.sheet = .running ∧
      d.lnk.link = .good ∧ d.std.settings ≠ none ∧ d.trv.pending = none) ∧
    (let t : Nat := (10 * ks.speed ^ 2 + fr.accel - 1) / fr.accel
     let low := max (ks.low : Int) (fr.softLow + t)
     let high := min (ks.high : Int) (fr.softHigh - t)
     t = 5 ∧ 0 ≤ low - t ∧ low + 2 * ks.pitch ≤ high ∧ (d.trv.counter : Int) ≤ (low + high) / 2 ∧
     Machine.dist d.trv.counter (low - t).toNat ≤ 20 ∧ 20 < Machine.dist 1246 (low - t).toNat) ∧
    (parked.trv.planCount = 0 ∧ ¬(d.trv.planCount = 0 ∨ d.std.ref = none)) ∧
    ((dev .halted .rest 1230).trv.state = .halted ∧ Machine.dist 1230 fr.park ≤ 20 ∧ 20 < Machine.dist 1231 fr.park) ∧
    (({ d with pins := { d.pins with ready := false } }).pins.ready = false ∧ (limited true true d).pins.ready = true ∧
      (limited true true d).pins.limit (if d.trv.counter < fr.park then .ds else .ts) = true) ∧
    (let p := beBytes 4 1230
     p.length = 4 ∧ field p 0 4 ≤ 262143 ∧ fr.softLow ≤ field p 0 4 ∧ Machine.dist d.trv.counter (field p 0 4) ≤ 20 ∧
     20 < Machine.dist d.trv.counter (field (beBytes 4 1231) 0 4)) := by
  refine ⟨⟨clear_of (by decide +kernel), ?_, ?_⟩, by decide +kernel⟩
  · unfold Device.shutterFollows; decide +kernel
  · unfold Device.measuresInPlace; decide +kernel

/-- The effective range of `ks` under `fr` is the one last used, another one, or none was used. -/
theorem witness_MeasuringBegins_range :
    let used (d : Device) (r : Option EffRange) : Device := { d with trv := { d.trv with range := r } }
    let low : Int := max ks.low (fr.softLow + 5)
    let high : Int := min ks.high (fr.softHigh - 5)
    ready.trv.range = some ⟨low, high, 5⟩ ∧ (used ready none).trv.range = none ∧
    (∀ r ∈ (used ready (some ⟨1231, 1330, 5⟩)).trv.range, r.low ≠ low) ∧
    (∀ r ∈ (used ready (some ⟨1230, 1329, 5⟩)).trv.range, r.high ≠ high) ∧
    (queued ready).trv.pending ≠ none ∧ (queued (dev .halted .rest 1230)).trv.pending ≠ none := by decide +kernel

/-- A turn distance above 20 fc, for the run-up at once. -/
theorem witness_MeasuringBegins_runUp :
    let k := { ks with speed := 150, low := 1240, high := 1400 }
    let d := { ready with trv := { ready.trv with active := some k } }
    let t : Nat := (10 * k.speed ^ 2 + fr.accel - 1) / fr.accel
    20 < t ∧ Machine.dist d.trv.counter (max (k.low : Int) (fr.softLow + t) - t).toNat ≤ 20 ∧ d.pins.limit .ds = false := by
  decide +kernel

/-- A SET_SCAN payload with a mode, a low end and a pitch. -/
def scanPayload (mode low pitch : Nat) : List Byte := { ks with low := low, pitch := pitch }.bytes (BitVec.ofNat 8 mode)

theorem witness_ScanSettingsAreTaken :
    let p := scanPayload 0 1230 50
    (parked.advance 0).clear ∧
    ((scanPayload 1 1230 50).length = 30 ∧ (p.take 29).length ≠ 30 ∧ field p 0 1 = 0 ∧ field (scanPayload 1 1230 50) 0 1 = 1 ∧
      field (scanPayload 2 1230 50) 0 1 = 2) ∧
    (¬((scanning 1250).trv.state = .unhomed ∨ (scanning 1250).trv.state = .parked ∨ (scanning 1250).trv.state = .halted) ∧
      parked.trv.state = .parked ∧ base.trv.frame = none ∧ parked.trv.frame = some fr) ∧
    (field (scanPayload 0 1230 39) 11 2 < 40 ∧ ¬(field (scanPayload 0 1230 40) 11 2 < 40)) ∧
    (parked.trv.pending = none ∧ ({ parked with trv := { parked.trv with pending := some (7, ks) } }).trv.pending = some (7, ks)) ∧
    (parked.trv.active = some ks ∧ parked.trv.range = some ⟨1230, 1330, 5⟩) :=
  ⟨clear_of (by decide +kernel), by decide +kernel⟩

/-- A parked head with a resume pending. -/
def resuming (r : Resume) (d : Device) : Device := { d with trv := { d.trv with resume := some r } }

theorem witness_ResumeActs :
    let d := (resuming .scan parked).advance 0
    let p := (resuming (.point 1230) parked).advance 0
    (d.pins.reset = false ∧ parked.trv.resume = none ∧ d.trv.resume = some .scan ∧ d.trv.state = .parked ∧ d.trv.op = none ∧
      d.brk.sheet = .running) ∧
    ((dev .parked .rest 1210 |> resuming .scan).scanCheck = some .unconfigured ∧
      (troubled false .running .degraded (resuming (.point 1230) parked)).pointCheck 1230 = some .link) ∧
    (d.scanCheck = none ∧ d.trv.planCount = 0) ∧
    (p.pointCheck 1230 = none ∧ Machine.dist p.trv.counter 1230 ≤ 20 ∧ p.pins.ready = true) ∧
    (let q := (resuming (.point 1231) parked).advance 0
     q.pointCheck 1231 = none ∧ 20 < Machine.dist q.trv.counter 1231 ∧ q.trv.frame = some fr ∧ q.pins.limit .ds = false) ∧
    (let q := (resuming .scan ready).advance 0
     q.scanCheck = none ∧ q.trv.planCount ≠ 0 ∧ q.std.ref ≠ none ∧ q.trv.frame = some fr ∧ q.trv.active = some ks ∧
     Machine.dist q.trv.counter 1225 ≤ 20 ∧ 20 < Machine.dist 1246 1225) ∧
    (let q := { (resuming .scan ready).advance 0 with pins := { ready.pins with ready := false } }
     q.pins.ready = false ∧ q.trv.enable = false ∧ q.scanCheck = none) ∧
    (d.trv.range = some ⟨1230, 1330, 5⟩ ∧ ({ d with trv := { d.trv with range := none } }).trv.range = none) := by decide +kernel

/-- A turn distance above 20 fc, for a resumed scan's run-up at once. -/
theorem witness_ResumeActs_runUp :
    let k := { ks with speed := 150, low := 1240, high := 1400 }
    let d := resuming .scan { ready with trv := { ready.trv with active := some k } }
    let t : Nat := (10 * k.speed ^ 2 + fr.accel - 1) / fr.accel
    d.scanCheck = none ∧ 20 < t ∧ Machine.dist d.trv.counter (max (k.low : Int) (fr.softLow + t) - t).toNat ≤ 20 ∧
    d.pins.limit .ds = false := by decide +kernel

/-- The head's inputs with an open sample and a CAL period. -/
def sampling (cal : Bool) (high : Option Nat) : Device :=
  { base with
    clk := 1000
    pins := { base.pins with cal := cal }
    acq := { Acq.reset with sample := some ⟨.time, 0, 5, 16777215, 0, 0, 0, 0, false, false, false⟩, calStart := some 800,
                            calHigh := high, calTimeout := some 1000, tachEdge := some 400, tachTimeout := some 1000 } }

theorem witness_HeadInputsCount :
    let d := (sampling false (some 84)).advance 0
    let h := (sampling true none).advance 0
    (d.pins.reset = false ∧ (base.advance 0).acq.sample = none ∧ d.acq.sample.isSome = true) ∧
    (h.pins.cal = true ∧ d.pins.cal = false ∧ (base.advance 0).acq.calStart = none ∧ d.acq.calStart = some 800 ∧
      d.acq.calHigh = some 84) ∧
    (h.acq.calStart = some 800 ∧ h.acq.calHigh = none ∧
      (({ base with pins := { base.pins with cal := true } }).advance 0).acq.calStart = none) ∧
    (d.acq.calTimeout = some 1000 ∧ d.pins.sp = false ∧ d.pins.sp ≠ true ∧ (base.advance 0).acq.tachEdge = none ∧
      d.acq.tachEdge = some 400 ∧ d.acq.tachTimeout = some 1000) := by decide +kernel

theorem witness_TimedSamplesClose :
    let p := (timed .point .idle 0 true).advance 0
    let c := (timed .standardizing .collecting 15 false).advance 0
    (p.pins.reset = false ∧ p.acq.sampleTimer = some 10005 ∧ p.acq.sample.isSome = true ∧ p.trv.state = .point ∧
      p.trv.active = some ks ∧ p.prf.batchCount + 1 < ks.batch) ∧
    (({ p with prf := { p.prf with batchCount := 3 } }).prf.batchCount + 1 = ks.batch) ∧
    (c.trv.state = .standardizing ∧ c.std.phase = .collecting ∧ c.trv.resume = none ∧ c.trv.op = none ∧
      c.std.snapshot.samples = c.std.summed + 1 ∧
      (timed .standardizing .collecting 14 false).std.summed + 1 < c.std.snapshot.samples) ∧
    ((timed .standardizing .settling 0 false).std.phase = .settling ∧ ((timed .standardizing .settling 0 false).entry srcStdFail).state = .idle ∧
      (queued c).trv.pending.isSome = true) ∧
    ((timed .standardizing .settling 0 true).acq.sample.map OpenSample.spAtOpen = some true ∧
      c.acq.sample.map OpenSample.spAtOpen = some false) := by decide +kernel

/-- The collection of 04 section 4.7 before its last sample, made for a SCAN operation, against a calibration rate. -/
def collecting (cal : Nat) (sheet : SheetState) : Device :=
  let d := dev .standardizing .rest 1250
  { d with
    trv := { d.trv with op := some ⟨.scan, 9, 0, true, true, false⟩ }
    brk := { d.brk with sheet := sheet }
    acq := { Acq.reset with sample := some ⟨.time, 1250, 0, 100000, 95000, 100000, 10000, 99800, false, false, false⟩,
                            sampleTimer := some 100000 }
    std := { Std.reset with settings := some stds, snapshot := stds, phase := .collecting, summed := 15, received := 17,
                            calRbw := some cal, sums := ⟨1500000, 1500000, 1425000, 1500000, 150000, 1500000⟩ } }

/-- A SCAN operation's continuation: adopted with a sheet and after a break, and a drift above the reject limit. -/
theorem witness_TimedSamplesClose_scan :
    let summed (d : Device) : Std := { d.std with
      summed := 16, sums := ⟨1600000, 1600000, 1520000, 1600000, 160000, 1599800⟩ }
    let d := (collecting 1020000 .running).advance 0
    (d.acq.sampleTimer = some 100000 ∧ d.acq.sample.isSome = true ∧ d.trv.state = .standardizing ∧ d.std.phase = .collecting ∧
      d.std.snapshot.samples ≤ d.std.summed + 1 ∧ d.trv.op.map OpRecord.kind = some .scan ∧ d.trv.resume = none ∧
      d.trv.pending = none) ∧
    ((summed d).verdict = .adoptedDrift ∧ (summed (collecting 1100000 .running)).verdict = .drift) ∧
    (d.lnk.link ≠ .lost ∧ d.brk.sheet = .running ∧ (collecting 1020000 .sheetBreak).brk.sheet = .sheetBreak) ∧
    (d.trv.frame = some fr ∧ d.trv.range = some ⟨1230, 1330, 5⟩ ∧ (5 : Int) ≤ 1230 - fr.softLow ∧ (1330 : Int) + 5 ≤ fr.softHigh ∧
      d.trv.enable = false ∧ d.pins.ready = true ∧ 20 < Machine.dist d.trv.counter 1225 ∧ d.pins.limit .ts = false) := by
  decide +kernel

/-- A finished collection of 04 section 4.7 against a calibration rate. -/
def collected (bw cal : Nat) : Std :=
  { Std.reset with
    settings := some stds, snapshot := stds, phase := .collecting, summed := 16, received := 18, calRbw := some cal, calM := some 62000,
    calD0 := some 6500, sums := ⟨1600000, bw, 1520000, 1600000, 160000, 1599800⟩ }

/-- Each verdict has its case; the warn limit is 150 and the reject limit 500, and 1,015,000 gives the drift 147. -/
theorem witness_StandardizeIsJudged :
    ((collected 159999 1020000).verdict, (collected 1600000 1100000).verdict, (collected 1600000 1020000).verdict,
      (collected 1600000 1015000).verdict) = (.channel, .drift, .adoptedDrift, .adopted) := by decide +kernel

/-- The drifts of `test_standardize`, 196, 41 and 83 against 1,020,000 and 909 against 1,100,000: the largest stands first; the entries
are IDLE. -/
theorem witness_StandardizeIsJudged_values :
    (base.entry srcStdFail).state = .idle ∧ (base.entry srcStdDrift).state = .idle ∧
    ((1020000 - 1000000) * 10000 / 1020000, (62259 - 62000) * 10000 / 62000, (6554 - 6500) * 10000 / 6500) = (196, 41, 83) ∧
    (1100000 - 1000000) * 10000 / 1100000 = 909 ∧ (∀ u ∈ [196, 41, 83], u ≤ 196) ∧ ∀ u ∈ [909, 41, 83], u ≤ 909 := by decide +kernel

/-- A SET_STD payload with its limits. -/
def stdPayload (warn reject : Nat) : List Byte := { stds with warn := warn, reject := reject }.bytes

/-- A SET_CALREF payload with a mask and a zero. -/
def calrefPayload (mask d0 : Nat) : List Byte := beBytes 1 mask ++ beBytes 4 1 ++ beBytes 4 1 ++ beBytes 4 d0

/-- A SET_WINDOW payload with a number and two limits. -/
def windowPayload (n high low : Nat) : List Byte := beBytes 1 n ++ [1, 1] ++ beBytes 2 2 ++ [0, 3] ++ beBytes 2 high ++ beBytes 2 low ++ [3, 1]

theorem witness_SettingsAreStored :
    (parked.advance 0).clear ∧
    ((beBytes 2 1000).length = 2 ∧ (mismatched .idle).trv.state = .standardizing ∧ parked.trv.state ≠ .standardizing ∧
      (stdPayload 150 150).length = 21 ∧ ((stdPayload 150 150).take 20).length ≠ 21 ∧
      field (stdPayload 150 149) 19 2 < field (stdPayload 150 149) 17 2 ∧ field (stdPayload 150 150) 17 2 ≤ field (stdPayload 150 150) 19 2) ∧
    ((calrefPayload 7 65536).length = 13 ∧ 7 < field (calrefPayload 8 1) 0 1 ∧ field (calrefPayload 7 65537) 9 4 = 65537) ∧
    (beBytes 2 1500 ++ beBytes 2 2000).length = 4 ∧
    ((windowPayload 7 500 500).length = 13 ∧ 7 < field (windowPayload 8 500 100) 0 1 ∧
      (field (windowPayload 7 499 500) 6 1 = 3 ∧ field (windowPayload 7 499 500) 7 2 < field (windowPayload 7 499 500) 9 2) ∧
      (7 : Fin 8).val = field (windowPayload 7 500 500) 0 1) :=
  ⟨clear_of (by decide +kernel), by decide +kernel⟩

theorem witness_TableReadsBack :
    let knots (n : Nat) : List (Nat × Nat) := (List.range n).map (fun i => (98304 - 15 + i, i))
    (parked.advance 0).clear ∧ ((2 : Nat) < 256 ∧ (knots 16).length < 256 ∧ ∀ k ∈ knots 16, k.1 < 4294967296 ∧ k.2 < 65536) ∧
    ((knots 16).length ≠ 1 ∧ (knots 16).length ≤ 16 ∧ (∀ k ∈ knots 16, k.1 ≤ 98304) ∧ (knots 16).Pairwise (fun k q => k.1 < q.1)) ∧
    ((knots 1).length = 1 ∧ 16 < (knots 17).length ∧ (∃ k ∈ knots 17, 98304 < k.1) ∧
      ¬([(5, 1), (5, 2)] : List (Nat × Nat)).Pairwise (fun k q => k.1 < q.1)) :=
  ⟨clear_of (by decide +kernel), by decide +kernel⟩

/-- A CONVERT payload with the counts of 05 section 5.8 and a duration. -/
def convertPayload (dur : Nat) : List Byte :=
  beBytes 4 dur ++ beBytes 4 6400 ++ beBytes 4 3000 ++ beBytes 4 4000 ++ beBytes 4 4200 ++ beBytes 4 10000

theorem witness_ConvertAnswers :
    (ready.advance 0).clear ∧
    ((convertPayload 1).length = 24 ∧ field (convertPayload 0) 0 4 = 0 ∧ (parked.advance 0).std.ref = none ∧
      (ready.advance 0).std.ref = some refs ∧
      ¬(field (convertPayload 1) 0 4 = 0 ∨ 16777215 < field (convertPayload 1) 4 4 ∨ 16777215 < field (convertPayload 1) 8 4 ∨
        16777215 < field (convertPayload 1) 12 4 ∨ field (convertPayload 1) 20 4 < field (convertPayload 1) 16 4)) :=
  ⟨clear_of (by decide +kernel), by decide +kernel⟩

theorem witness_RoundedStepsStayBetween :
    (([(0, 10), (5, 3)] : List (Nat × Nat)).Pairwise (fun k l => k.1 < l.1) ∧
      linearize [(0, 10), (5, 3)] 4 = some ⟨4, false, false⟩ ∧ linearize [(1, 10), (5, 3)] 0 = some ⟨10, true, false⟩ ∧
      linearize [(1, 10), (5, 3)] 6 = some ⟨3, false, true⟩) ∧ ((256 : Nat) ≤ 256 ∧ 0 < 2) ∧
    (([(0, 10), (5, 3)] : List (Nat × Nat))[0]? = some (0, 10) ∧ ([(0, 10), (5, 3)] : List (Nat × Nat))[0 + 1]? = some (5, 3) ∧
      0 ≤ 4 ∧ 4 < 5) := by decide +kernel

theorem witness_MoistureAndDryWeight :
    (0 < 5760 ∧ (611 : Nat) ≤ 5760 ∧ 2 * 1061 * 5760 ≤ 2 * (611 * 10000) + 5760 ∧ 2 * (611 * 10000) + 5760 < 2 * (1061 + 1) * 5760) ∧
    (worked 6400 4000 4200 10000).sheet = .all := by decide +kernel

/-- A device with a profile, a window, a history and alarms to read. -/
def readable : Device :=
  let w : OpenScan := ⟨1, .ds, 0, ⟨1230, 40, 21⟩, 0, 0, none, none, List.replicate 21 .empty⟩
  { ready with prf := { Prf.reset with latest := some (w.finish 1 5 .complete) } }

theorem witness_ReadersAnswer :
    (readable.advance 0).clear ∧
    (([1, 255] : List Byte).length = 2 ∧ readable.prf.latest.isSome = true ∧ readable.prf.filtered = none ∧
      field [1, 1] 1 1 < (21 + 19) / 20 ∧ (21 + 19) / 20 ≤ field [1, 2] 1 1 ∧ 2 < field [3, 0] 0 1) ∧
    (([63] : List Byte).length = 1 ∧ (7 : Fin 8).val = field [7] 0 1 ∧ 7 < field [8] 0 1) ∧ readable.std.last = none :=
  ⟨clear_of (by decide +kernel), by decide +kernel⟩

/-- The layouts of 10 section 10.8 on a profile of 21 slices, one break record and one ring entry. -/
theorem witness_ReadersAnswer_layouts :
    let w := (OpenScan.finish ⟨1, .ds, 0, ⟨1230, 40, 21⟩, 0, 0, none, none, List.replicate 21 .empty⟩ 1 5 .complete)
    let b : BreakRecord := ⟨1, 0, 2, 254, none, 18000, .parked, none, [⟨6, 1, true, 254⟩], none, none, false⟩
    (w.header .latest false 0).length = 44 ∧ (w.segment .latest 0).length = 8 + 12 * 20 ∧ (w.segment .latest 1).length = 8 + 12 * 1 ∧
    (w.header .latest false 0).take 2 = [1, 0] ∧ b.notice.payload.length = 17 + 5 ∧ (pointData [] 50 10).payload.length = 13 := by
  decide +kernel

theorem witness_WindowPersistence :
    let f : WindowDef := ⟨true, 3, 40, .bw, some 6000, some 5500, 3, .latest⟩
    let out (l : List Nat) := (∃ h ∈ f.high, h < l.sum / l.length) ∨ ∃ h ∈ f.low, l.sum / l.length < h
    (∀ e ∈ [(1, [6001]), (2, [5499])], out e.2) ∧ (∀ e ∈ [(1, [6000]), (2, [5500])], ¬out e.2) ∧
    (Window.reset.state = .normal ∧ Window.reset.counter = 0) := by decide +kernel

/-- A part with a break declared by station 2, its record open. -/
def broken (sheet : SheetState) (cascade : Timer) (st : StationState) : Device :=
  let d := present st (some 9) (some 9) sheet 18000
  { d with brk := { d.brk with
      openRec := some ⟨1, 0, 2, 254, none, 18000, .parked, none, [], none, none, false⟩, cascade := cascade,
      stations := d.brk.stations.set 2 ⟨some ⟨true, false, 20, 500⟩, .noSheet, none, none, 0, 0, 0⟩ } }

theorem witness_StationsAct :
    let p := (present .present none none .running 1500).advance 0
    ((p.clear ∧ p.recordStands) ∧ ((broken .threading none .present).advance 0).recordStands) ∧
    (p.pins.reset = false ∧ ([7, 1, 1] ++ beBytes 2 20 ++ beBytes 2 500 : List Byte).length = 7 ∧
      7 < field [8, 1, 1] 0 1 ∧ (7 : Fin 8).val = field [7, 1, 1] 0 1 ∧ p.brk.settings ≠ none ∧ base.brk.settings = none ∧
      p.brk.sheet = .running ∧ (broken .sheetBreak (some 9) .broken).brk.sheet = .sheetBreak) ∧
    (p.showsSheet 6 = true ∧ p.showsSheet 0 = false) ∧
    ((p.brk.settings.map BreakSettings.crawl).getD 0 = p.acq.speed ∧ (present .present none none .running 1499).acq.speed < 1500) ∧
    ([StationState.disabled, .noSheet, .restoring, .present, .losing, .broken].all
      (fun st => ((present st none none .running 0).station 6).state = st)) ∧
    ((broken .threading none .restoring).station 6).restoreTimer = some 9 := by
  refine ⟨⟨⟨clear_of (by decide +kernel), ?_⟩, ?_⟩, by decide +kernel⟩ <;> (unfold Device.recordStands; decide +kernel)

theorem witness_QualifiedLossesAct :
    let p := (present .losing (some 9) none .running 1500).advance 0
    let q := (broken .sheetBreak (some 9) .losing).advance 0
    (p.recordStands ∧ q.recordStands) ∧
    (p.pins.reset = false ∧ (p.station 6).qualifyTimer = some 9 ∧ (p.brk.settings.map BreakSettings.crawl).getD 0 ≤ p.acq.speed ∧
      p.brk.sheet = .running ∧ ¬((p.brk.settings.map BreakSettings.crawl).getD 0 ≤ 1499) ∧
      (present .losing (some 9) none .noSheet 1500).brk.sheet = .noSheet) ∧
    (p.trv.state.overSheet = false ∧ (p.entry (srcBreak 6)).state = .idle) ∧
    (let s := scanning 1250
     s.trv.state.overSheet = true ∧ s.trv.frame = some fr ∧ s.trv.enable = true ∧ s.trv.active = some ks ∧ ks.autoResume = true ∧
     20 < Machine.dist s.trv.counter fr.park ∧ s.pins.limit .ts = false ∧ s.prf.openScan.isSome = true ∧ s.trv.op.isSome = true ∧
     Machine.dist (queued (scanning 1230)).trv.counter fr.park ≤ 20) ∧
    (q.brk.openRec.isSome = true ∧ q.brk.sheet = .sheetBreak ∧ (q.brk.openRec.map BreakRecord.firstOut) ≠ some 6 ∧
      (∀ r ∈ q.brk.openRec, ∀ l ∈ r.losses, l.station ≠ 6) ∧ (broken .sheetBreak none .losing).brk.cascade = none) ∧
    (let r (i : Bool) : BreakRecord := ⟨1, 0, 2, 254, none, 18000, .parked, none, [⟨6, 1, i, 254⟩], none, none, false⟩
     (r true).firstOut ≠ 6 ∧ (∀ l ∈ (r true).losses, l.station = 6 ∧ l.independent = true) ∧
     (∀ l ∈ (r false).losses, l.station = 6 ∧ l.independent = false) ∧ ({ r true with firstOut := 6 }).firstOut = 6) ∧
    ((q.entry (srcBreak 6)).state = .idle ∧ ((q.rise (srcBreak 6) 1).entry (srcBreak 6)).state ≠ .idle) := by
  refine ⟨⟨?_, ?_⟩, by decide +kernel⟩ <;> (unfold Device.recordStands; decide +kernel)

theorem witness_BreakNoticesFallDue :
    let q := (broken .sheetBreak (some 9) .broken).advance 0
    let full (d : Device) : Device := { d with lnk := { d.lnk with eventQ := List.replicate 8 ⟨doneKind, 0, []⟩ } }
    let due : Device := { q with brk := { q.brk with due := [1] } }
    (q.pins.reset = false ∧ q.brk.cascade = some 9 ∧ q.brk.openRec.isSome = true ∧ q.brk.due = [] ∧ q.lnk.eventQ.length < 8) ∧
    8 ≤ (full q).lnk.eventQ.length ∧
    (due.brk.due = 1 :: [] ∧ (due.brk.openRec.toList ++ due.brk.history).find? (fun r => r.number = 1) = due.brk.openRec) ∧
    (∀ n ∈ due.brk.due, ∃ r ∈ due.brk.openRec.toList ++ due.brk.history, r.number = n) ∧
    (let x := (broken .threading (some 9) .restoring).advance 0
     let b := { x with brk := { x.brk with
       stations := x.brk.stations.set 2 ⟨some ⟨true, false, 20, 500⟩, .present, none, none, 0, 0, 0⟩ } }
     b.trv.resume = none ∧ (b.station 6).restoreTimer = some 9 ∧ (b.station 6).state = .restoring ∧ b.brk.sheet ≠ .running ∧
     (∀ m : Fin 8, m ≠ 6 → (b.station m).state = .disabled ∨ (b.station m).state = .present ∨ (b.station m).state = .losing) ∧
     ∀ m ∈ b.brk.due, ∃ r ∈ b.brk.openRec.toList, r.number = m) := by
  decide +kernel

theorem witness_AlarmsLatch :
    let up := base.rise srcOvertravel 5
    (base.entry srcOvertravel).state = .idle ∧ (up.entry srcOvertravel).state ≠ .idle ∧ base.alm.hold = true ∧
    up.alm.candidate = some srcOvertravel ∧ up.alm.autoAck = false ∧ up.alm.mask.getLsbD 1 = false ∧
    (let go := { up with alm := { up.alm with hold := false } }
     go.alm.candidate = some srcOvertravel ∧ go.alm.passes srcOvertravel = true ∧ go.lnk.alarmQ.length < 8 ∧
     (let nested := go.setEntry 0 { go.entry 0 with state := .inService }
      nested.alm.candidate = some srcOvertravel ∧ nested.alm.passes srcOvertravel = false)) ∧
    ((base.entry 0).state ≠ .requested ∧ ({ base.alm with mask := 1#24 }).mask.getLsbD 0 = true) := by decide +kernel

theorem witness_AlarmCommandsAct :
    let d := base.setEntry srcOvertravel ⟨.inService, true, 0, some 0, some 0, some 5⟩
    (d.advance 0).clear ∧
    (([1] : List Byte).length = 1 ∧ field [24] 0 1 = 24 ∧ field [254] 0 1 < 255 ∧ field [255] 0 1 = 255 ∧
      field [1] 0 1 = srcOvertravel.val ∧ (d.entry srcOvertravel).state = .inService ∧ (d.entry 2).state ≠ .inService) ∧
    ((∀ a : Fin 24, (base.entry a).state ≠ .inService) ∧
      ∀ b : Fin 24, (d.entry b).state = .inService → d.alm.rank srcOvertravel ≤ d.alm.rank b) ∧
    (([1, 23, 1, 1, 0, 0, 0] : List Byte).length = 7 ∧ field [1, 23, 1, 1] 1 1 = 23 ∧ 23 < field [1, 24, 1, 1] 1 1) :=
  ⟨clear_of (by decide +kernel), by decide +kernel⟩

/-- The premises of every StepKeeps statement hold together in a scan, and its step answers next. -/
theorem witness_StepKeeps :
    let d := scanning 1250
    (d.shutterFollows ∧ d.driveDead ∧ d.enableFollows ∧ d.offSheet ∧ d.measuresInPlace) ∧
    (d.queuesSound ∧ d.linkSound ∧ d.recordStands ∧ d.countsInRange) ∧
    (({ d with std := { d.std with ref := some refs } } : Device).referenceSound) ∧
    ∃ t, step ⟨[.legalStep 7 true false], d⟩ = .next t := by
  refine ⟨⟨?_, ?_, ?_, ?_, ?_⟩, ⟨?_, ?_, ?_, ?_⟩, ?_, ⟨_, rfl⟩⟩
  · unfold Device.shutterFollows; decide +kernel
  · unfold Device.driveDead; decide +kernel
  · unfold Device.enableFollows; decide +kernel
  · unfold Device.offSheet; decide +kernel
  · unfold Device.measuresInPlace; decide +kernel
  · unfold Device.queuesSound; decide +kernel
  · unfold Device.linkSound; decide +kernel
  · unfold Device.recordStands; decide +kernel
  · unfold Device.countsInRange; decide +kernel
  · intro r h
    obtain rfl : refs = r := by simpa using h
    refine ⟨by decide, by decide, fun v hv => ?_⟩
    rcases hv with h | h | h <;> (cases h; decide)

/-- The premises of StepKeepsAlarms hold together with an alarm raised and delivered. -/
theorem witness_StepKeepsAlarms :
    let d := limited true false { base with alm := { Alm.reset with hold := false, entries := Alm.reset.entries.set 1 ⟨.inService, true, 0, some 0, some 0, some 5⟩ } }
    (d.recordStands ∧ d.conditionsFollow) ∧ (d.queuesSound ∧ d.alarmsServed) ∧ ∃ t, step ⟨[.limitSwitchOpen 7 .ts], d⟩ = .next t := by
  refine ⟨⟨?_, ?_⟩, ⟨?_, ?_⟩, ⟨_, rfl⟩⟩
  · unfold Device.recordStands; decide +kernel
  · unfold Device.conditionsFollow; decide +kernel
  · unfold Device.queuesSound; decide +kernel
  · intro s h
    exact absurd h (by revert s; decide +kernel)

/-- And with a break open, a station BROKEN by the loss that declared it, and a standardize that was adopted with drift. -/
theorem witness_StepKeepsAlarms_levels :
    let d := broken .sheetBreak (some 9) .broken
    let d := (d.setEntry (srcBreak 2) ⟨.inService, true, 0, some 0, some 0, some 5⟩).setEntry srcStdDrift ⟨.requested, true, 0, some 0, some 0, none⟩
    let d := { d with
      brk := { d.brk with stations := d.brk.stations.set 2 ⟨some ⟨true, false, 20, 500⟩, .broken, none, none, 1, 0, 0⟩
                          |>.set 6 ⟨some ⟨true, false, 20, 500⟩, .noSheet, none, none, 0, 0, 0⟩ }
      std := { d.std with ref := some refs, last := some (.bare .adoptedDrift 5 18) } }
    d.recordStands ∧ d.conditionsFollow ∧ ∃ t, step ⟨[.stationPresenceLost 7 6], d⟩ = .next t := by
  refine ⟨?_, ?_, ⟨_, rfl⟩⟩
  · unfold Device.recordStands; decide +kernel
  · unfold Device.conditionsFollow; decide +kernel

end Sys2Proof.Tests
end

section
/-! PROOFS. The derived values of a record: moisture (R88), dry weight and WET (R89). -/

namespace Sys2Proof.Machine

/-! ## Rounding half up -/

/-- The rounded quotient is the one `n` with num / den in [n - 1/2, n + 1/2), also where `den` is odd and `den / 2` truncates. -/
theorem roundHalfUp_eq_of_nearest {num den n : Nat} (lo : 2 * n * den ≤ 2 * num + den)
    (hi : 2 * num + den < 2 * (n + 1) * den) : roundHalfUp num den = n := by
  rw [Nat.mul_assoc] at lo hi
  exact Nat.div_eq_of_lt_le (by omega) (by omega)

theorem le_roundHalfUp {num den n : Nat} (hden : 0 < den) (h : n * den ≤ num) : n ≤ roundHalfUp num den :=
  (Nat.le_div_iff_mul_le hden).2 (h.trans (Nat.le_add_right _ _))

/-! ## Moisture, dry weight and WET by the presence of the weights -/

section
variable (b w : Nat) (bw water : Option Nat)

@[simp] theorem moistureOf_none_bw : moistureOf none water = none := rfl

@[simp] theorem moistureOf_none_water : moistureOf bw none = none := by cases bw <;> rfl

@[simp] theorem moistureOf_zero_bw : moistureOf (some 0) water = none := by cases water <;> rfl

theorem moistureOf_some {b : Nat} (hb : 0 < b) :
    moistureOf (some b) (some w) = some (min 10000 (roundHalfUp (w * 10000) b)) := if_neg hb.ne'

@[simp] theorem dryOf_none_bw : dryOf none water = none := rfl

@[simp] theorem dryOf_none_water : dryOf bw none = none := by cases bw <;> rfl

@[simp] theorem dryOf_some : dryOf (some b) (some w) = some (b - w) := rfl

@[simp] theorem wetOf_none_bw : wetOf none water = false := rfl

@[simp] theorem wetOf_none_water : wetOf bw none = false := by cases bw <;> rfl

@[simp] theorem wetOf_some : wetOf (some b) (some w) = decide (b < w) := rfl

end

/-- R89: where WATER exceeds BW the quotient exceeds 10,000 before rounding. -/
theorem bound_le_roundHalfUp_of_wet {b w : Nat} (hb : 0 < b) (hwet : b < w) : 10000 ≤ roundHalfUp (w * 10000) b :=
  le_roundHalfUp hb (by omega)

/-! ## The derived values of a converted record -/

/-- R80: with a reference set, every record is converted but one closed in SCAN whose sheet field is not ALL. -/
theorem convertRecord_eq_convertWith {c : Cnv} {ref : RefSet} {scanning : Bool} {s : Sample}
    (h : scanning = true → s.sheet = .all) : convertRecord c (some ref) scanning s = convertWith c ref s := by
  cases scanning with
  | false => simp [convertRecord]
  | true => simp [convertRecord, h rfl]

/-- A converted record with its ratios, values and flags as names: R88 and R89 see no more of the stages than BW and WATER. -/
theorem convertWith_derives (c : Cnv) (ref : RefSet) (s : Sample) : ∃ qBw qW qC bw water cal bwFlags waterFlags calFlags,
    convertWith c ref s =
      { sample := s, form := .converted, qBw, qW, qC, bw, water, cal, moisture := moistureOf bw water, dry := dryOf bw water,
        bwFlags, waterFlags, calFlags, wet := wetOf bw water } :=
  ⟨_, _, _, _, _, _, _, _, _, rfl⟩

/-- Settles O45: the values by the presence and size of BW and WATER, and their place in a converted record. -/
theorem moistureAndDryWeight : Obligations.MoistureAndDryWeight := by
  unfold Obligations.MoistureAndDryWeight
  refine ⟨by simp, by simp, fun b w hb => ?moisture, fun b w h => ?dry, fun b w h => ?wet, fun c ref s hall => ?record⟩
  case moisture =>
    refine ⟨_, moistureOf_some w hb, Nat.min_le_left .., fun n lo hi => ?_, fun hwet => ?_⟩
    · rw [roundHalfUp_eq_of_nearest lo hi]
    · exact Nat.min_eq_left (bound_le_roundHalfUp_of_wet hb hwet)
  case dry => simpa using h
  case wet => simpa using ⟨Nat.sub_eq_zero_of_le h.le, h⟩
  case record =>
    rw [convertRecord_eq_convertWith fun _ => hall]
    obtain ⟨_, _, _, _, _, _, _, _, _, record_eq⟩ := convertWith_derives c ref s
    simp [record_eq]

end Sys2Proof.Machine
end

section
/-! PROOFS. GET_STATUS (R192), with how a command is carried out and answered (R182, R184). -/

namespace Sys2Proof.Machine

/-! ## How a command is answered -/

/-- A command whose owner answers leaves its reply in the reply queue, and the event settles. -/
theorem Device.carryOut_of_answer {h : Handler} {f : Frame} {d e : Device} {a : Answer} (answer : h f d = (e, some a)) :
    d.carryOut h f = (e.pushReply (a.frame f)).settle := by
  simp only [Device.carryOut, answer]

@[simp] theorem Answer.frame_ok (data : List Byte) (f : Frame) :
    (Answer.ok data).frame f = ⟨f.kind + 0x80, f.tag, [0, 0] ++ data⟩ := by
  simp [Answer.frame, Answer.ok, ReplyCode.code, flagsByte]

@[simp] theorem Answer.frame_badLength (f : Frame) : (Answer.only .badLength).frame f = ⟨f.kind + 0x80, f.tag, [3, 0]⟩ := by
  simp [Answer.frame, Answer.only, ReplyCode.code, flagsByte]

/-- A command that nothing holds back is carried out at once (R182, log 4). -/
theorem Device.hostCommand_of_clear {d : Device} (hd : d.clear) (h : Handler) (f : Frame) :
    d.hostCommand h f = (d.carryOut h f).settle.arbitrate := by
  obtain ⟨awake, noneWaits, room⟩ := hd
  simp [Device.hostCommand, Device.event, Device.live, awake, noneWaits, room]

/-- The row of a command that is carried out at once and answered; the event settles once, at its end (R188). -/
theorem State.command_replies {s : State} {dt : Nat} {h : Handler} {kind tag : Byte} {p : List Byte} {e : Device} {a : Answer}
    (hd : (s.dev.advance dt).clear) (answer : h ⟨kind, tag, p⟩ (s.dev.advance dt) = (e, some a)) :
    s.command dt h kind tag p = s.ends (e.pushReply (a.frame ⟨kind, tag, p⟩)) := by
  have settled : (e.pushReply (a.frame ⟨kind, tag, p⟩)).settle.settle = (e.pushReply (a.frame ⟨kind, tag, p⟩)).settle :=
    Device.settle_of_unchanged (Device.settle_stateChanged _)
  simp only [State.command, State.onDevice, State.ends, State.becomes, Device.hostCommand_of_clear hd,
    Device.carryOut_of_answer answer, settled]

/-- The dispatch of a waiting command takes it from the queue, RDY asserted where that empties it (R178), then carries it out. -/
theorem Device.dispatchOne_of_cons {d : Device} {f : Frame} {rest : List Frame} (waits : d.lnk.cmdQ = f :: rest) :
    d.dispatchOne =
      (d.setLnk { d.lnk with cmdQ := rest, rdy := d.lnk.rdy || rest.isEmpty }).carryOut (handlerOf f.kind) f := by
  simp only [Device.dispatchOne, waits, Lnk.dropHead, List.tail_cons]

/-! ## The status -/

@[simp] theorem beBytes_length (n v : Nat) : (beBytes n v).length = n := by
  induction n with
  | zero => rfl
  | succ n ih => simp [beBytes, ih]

@[simp] theorem opt32_none : opt32 none = [0xFF, 0xFF, 0xFF, 0xFF] := by decide

@[simp] theorem opt32_some (v : Nat) : opt32 (some v) = beBytes 4 v := rfl

/-- The status of R192, byte by byte; the position is 0xFFFFFFFF while it is unknown. -/
def Device.statusBytes (d : Device) : List Byte :=
  [d.trv.state.code, boolByte d.trv.homed] ++ (if d.trv.homed then beBytes 4 d.trv.counter else [0xFF, 0xFF, 0xFF, 0xFF]) ++
  [d.brk.sheet.code, d.lnk.link.code, BitVec.ofNat 8 d.lnk.quality] ++ beBytes 2 d.acq.speed ++ beBytes 4 d.prf.scanNumber ++
  [BitVec.ofNat 8 ((d.trv.active.map ScanSettings.base).getD 0), BitVec.ofNat 8 d.trv.planCount, boolByte d.std.ref.isSome,
   BitVec.ofNat 8 (d.alm.countIn .requested), BitVec.ofNat 8 (d.alm.countIn .inService), BitVec.ofNat 8 d.lnk.cmdQ.length]

theorem Device.statusBytes_length (d : Device) : d.statusBytes.length = 21 := by
  cases homed : d.trv.homed <;> simp [Device.statusBytes, homed]

/-- What GET_STATUS answers; it changes nothing. -/
theorem Device.getStatus_eq (f : Frame) (d : Device) :
    d.getStatus f = (d, some (if f.payload = [] then .ok d.statusBytes else .only .badLength)) := by
  have position : opt32 (if d.trv.homed then some d.trv.counter else none) =
      if d.trv.homed then beBytes 4 d.trv.counter else [0xFF, 0xFF, 0xFF, 0xFF] := by
    cases d.trv.homed <;> simp
  by_cases empty : f.payload = []
  · simp only [Device.getStatus, Device.statusBytes, Device.planBase, presence, position, empty, ne_eq, not_true_eq_false,
      if_false, if_true]
  · simp [Device.getStatus, empty]

theorem handlerOf_getStatus : handlerOf 0x01 = Device.getStatus := rfl

/-- The reply frame of GET_STATUS: OK with the data, or BAD_LENGTH, and no flag (R184). -/
theorem Answer.frame_getStatus (tag : Byte) (p data : List Byte) :
    (if p = [] then Answer.ok data else .only .badLength).frame ⟨0x01, tag, p⟩ =
      ⟨0x81, tag, if p = [] then [0, 0] ++ data else [3, 0]⟩ := by
  by_cases empty : p = [] <;> simp [empty]

/-- Settles O8: GET_STATUS by its owner, as a row, and dispatched from the command queue. -/
theorem statusIsReported : Obligations.StatusIsReported := by
  unfold Obligations.StatusIsReported
  refine ⟨fun f d => ⟨?owner, d.statusBytes_length⟩, fun s dt tag p hd => ?row, fun d tag rest waits => ⟨?dispatch, rfl⟩⟩
  case owner => exact handlerOf_getStatus ▸ d.getStatus_eq f
  case row =>
    have row := State.command_replies hd (Device.getStatus_eq ⟨0x01, tag, p⟩ _)
    rwa [Answer.frame_getStatus] at row
  case dispatch =>
    have carried := Device.carryOut_of_answer (Device.getStatus_eq ⟨0x01, tag, []⟩
      (d.setLnk { d.lnk with cmdQ := rest, rdy := d.lnk.rdy || rest.isEmpty }))
    rw [Answer.frame_getStatus] at carried
    exact (Device.dispatchOne_of_cons waits).trans carried

end Sys2Proof.Machine
end

section
/-! PROOFS. What every row is made of: a row changes the part alone, and a property of the part that the operations of the rows keep
is kept by every step. The invariants are proved through `step_keeps`, one field per operation. -/

namespace Sys2Proof.Machine

/-! ## Rows as functions of the part -/

/-- The part after a row. -/
def rowDevice (i : Instr) (d : Device) : Device :=
  match exec i ⟨[], d⟩ with
  | .next t => t.dev
  | .fault _ => d
  | .refused _ => d

/-- Every row ends in a next state and leaves the waiting rows alone. -/
theorem exec_eq (i : Instr) (s : State) : exec i s = .next { s with dev := rowDevice i s.dev } := by
  cases i <;> rfl

/-! ## What each row does to the part

An event's row, as its meaning gives it; `(d.advance dt)` is the part when the row's time has passed. -/

section
variable (d : Device) (dt : Nat)
theorem row_legalStep (a b : Bool) : rowDevice (.legalStep dt a b) d =
    (d.advance dt).event (fun d => d.sampleEncoder a b) := rfl
theorem row_illegalTransition (a b : Bool) : rowDevice (.illegalTransition dt a b) d =
    (d.advance dt).event (fun d => d.sampleEncoder a b) := rfl
theorem row_homeSwitchClose : rowDevice (.homeSwitchClose dt) d =
    (d.advance dt).edge (d.advance dt).pins.home true (fun d => (d.setPins { d.pins with home := true }).event
      Device.homeClosure) := rfl
theorem row_homeSwitchOpen : rowDevice (.homeSwitchOpen dt) d =
    (d.advance dt).edge (d.advance dt).pins.home false (fun d => (d.setPins { d.pins with home := false }).live
      Device.endBackOff) := rfl
theorem row_limitSwitchClose (side : Side) : rowDevice (.limitSwitchClose dt side) d =
    (d.advance dt).edge ((d.advance dt).pins.limit side) true (fun d => (d.setLimit side true).event (fun d =>
      d.limitClosed side)) := rfl
theorem row_limitSwitchOpen (side : Side) : rowDevice (.limitSwitchOpen dt side) d =
    (d.advance dt).edge ((d.advance dt).pins.limit side) false (fun d => (d.setLimit side false).live Device.limitOpened)
      := rfl
theorem row_readyFall : rowDevice (.readyFall dt) d =
    (d.advance dt).edge (d.advance dt).pins.ready false (fun d => (d.setPins { d.pins with ready := false }).event (fun d
      => if d.trv.enable then d.driveFault 1 else d)) := rfl
theorem row_readyRise : rowDevice (.readyRise dt) d = (d.advance dt).setPins { (d.advance dt).pins with ready := true } := rfl
theorem row_stallIntervalExpiry_none (stopped : d.trv.stall = none) : rowDevice (.stallIntervalExpiry dt) d = d.advance dt := by
  change (match d.trv.stall with | none => d.advance dt | some i => _) = _
  rw [stopped]
theorem row_stallIntervalExpiry_some {i : StallInterval} (runs : d.trv.stall = some i) :
    rowDevice (.stallIntervalExpiry dt) d =
      ((d.advance dt).reach i.expiry).event (fun d => d.stallEnd i.noted) := by
  change (match d.trv.stall with
    | none => d.advance dt
    | some i => (d.advance dt).expiry (some i.expiry) (fun d => d.event (fun d => d.stallEnd i.noted))) = _
  rw [runs]; rfl
theorem row_restTimerExpiry : rowDevice (.restTimerExpiry dt) d =
    (d.advance dt).expiry (d.advance dt).trv.restTimer (fun d => d.event (fun d => (d.setTrv { d.trv with restTimer :=
      none }).restRule)) := rfl
theorem row_speedRefPeriodStart : rowDevice (.speedRefPeriodStart dt) d =
    (d.advance dt).expiry (d.advance dt).trv.periodDue (fun d => d.event (fun d => d.rampStep.startPeriod.afterRamp)) := rfl
theorem row_speedRefHighTimeEnd : rowDevice (.speedRefHighTimeEnd dt) d =
    (d.advance dt).expiry (d.advance dt).trv.highDue (fun d => d.setTrv { d.trv with speedRef := false, highDue := none })
      := rfl
theorem row_shutterFeedbackChange (closed : Bool) : rowDevice (.shutterFeedbackChange dt closed) d =
    (d.advance dt).edge (d.advance dt).pins.closed closed (fun d => (d.setPins { d.pins with closed := closed }).live
      Device.superviseShutter) := rfl
theorem row_shutterMismatchExpiry : rowDevice (.shutterMismatchExpiry dt) d =
    (d.advance dt).expiry (d.advance dt).trv.mismatch (fun d => d.event Device.shutterMismatch) := rfl
theorem row_automaticResume : rowDevice (.automaticResume dt) d = (d.advance dt).event Device.tryResume := rfl
theorem row_stationPresenceSeen (station : Fin 8) : rowDevice (.stationPresenceSeen dt station) d =
    if (d.advance dt).pins.reset then (d.advance dt).moveStationInput station true else (d.advance dt).event (fun d =>
      d.stationInput station true) := rfl
theorem row_stationPresenceLost (station : Fin 8) : rowDevice (.stationPresenceLost dt station) d =
    if (d.advance dt).pins.reset then (d.advance dt).moveStationInput station false else (d.advance dt).event (fun d =>
      d.stationInput station false) := rfl
theorem row_qualifyExpiry (station : Fin 8) : rowDevice (.qualifyExpiry dt station) d =
    (d.advance dt).expiry ((d.advance dt).station station).qualifyTimer (fun d => d.event (fun d => d.qualifyLoss
      station)) := rfl
theorem row_restoreExpiry (station : Fin 8) : rowDevice (.restoreExpiry dt station) d =
    (d.advance dt).expiry ((d.advance dt).station station).restoreTimer (fun d => d.event (fun d => d.stationRestored
      station)) := rfl
theorem row_cascadeExpiry : rowDevice (.cascadeExpiry dt) d =
    (d.advance dt).expiry (d.advance dt).brk.cascade (fun d => d.event Device.closeCascade) := rfl
theorem row_breakNoticePlaced : rowDevice (.breakNoticePlaced dt) d = (d.advance dt).event (fun d => d.placeBreaks 1) := rfl
theorem row_channelPulseEdge (channel : PulseChannel) : rowDevice (.channelPulseEdge dt channel) d =
    (d.advance dt).live (fun d => d.onSample (fun o => o.pulse channel)) := rfl
theorem row_calRisingEdge : rowDevice (.calRisingEdge dt) d =
    (d.advance dt).edge (d.advance dt).pins.cal true (fun d => (d.setPins { d.pins with cal := true }).live
      Device.calRise) := rfl
theorem row_calFallingEdge : rowDevice (.calFallingEdge dt) d =
    (d.advance dt).edge (d.advance dt).pins.cal false (fun d => (d.setPins { d.pins with cal := false }).live
      Device.calFall) := rfl
theorem row_calPeriodTimeout : rowDevice (.calPeriodTimeout dt) d =
    (d.advance dt).expiry (d.advance dt).acq.calTimeout Device.calAbandon := rfl
theorem row_sheetPresentChange (sheet : Bool) : rowDevice (.sheetPresentChange dt sheet) d =
    (d.advance dt).edge (d.advance dt).pins.sp sheet (fun d => d.sheetChange sheet) := rfl
theorem row_sampleTimerExpiry : rowDevice (.sampleTimerExpiry dt) d =
    (d.advance dt).expiry (d.advance dt).acq.sampleTimer (fun d => d.event Device.sampleExpired) := rfl
theorem row_tachRisingEdge : rowDevice (.tachRisingEdge dt) d = (d.advance dt).live Device.tachEdge := rfl
theorem row_tachTimeout : rowDevice (.tachTimeout dt) d =
    (d.advance dt).expiry (d.advance dt).acq.tachTimeout Device.tachStop := rfl
theorem row_powerOn (strap : Bool) : rowDevice (.powerOn dt strap) d =
    if (d.advance dt).pins.reset then ((d.advance dt).setLnk { (d.advance dt).lnk with baud := strap }).held else
      ((d.advance dt).coldStart 0 strap).arbitrate := rfl
theorem row_resetPinRelease (strap : Bool) : rowDevice (.resetPinRelease dt strap) d =
    if (d.advance dt).pins.reset then ((d.advance dt).coldStart 1 strap).arbitrate else (d.advance dt) := rfl
theorem row_rxByte (byte : Byte) (stop : Bool) : rowDevice (.rxByte dt byte stop) d =
    (d.advance dt).event (fun d => d.rxByte byte stop) := rfl
theorem row_gapTimeout : rowDevice (.gapTimeout dt) d =
    (d.advance dt).expiry (d.advance dt).lnk.rx.gap (fun d => d.event Device.gapError) := rfl
theorem row_lineBreak : rowDevice (.lineBreak dt) d = (d.advance dt).live Device.lineBreak := rfl
theorem row_lineBreakEnd : rowDevice (.lineBreakEnd dt) d = (d.advance dt).live Device.lineBreakEnd := rfl
theorem row_hrdyRise : rowDevice (.hrdyRise dt) d =
    (d.advance dt).edge (d.advance dt).pins.hrdy true (fun d => (d.setPins { d.pins with hrdy := true }).event id) := rfl
theorem row_hrdyFall : rowDevice (.hrdyFall dt) d = (d.advance dt).setPins { (d.advance dt).pins with hrdy := false } := rfl
theorem row_txFrameEnd_none (free : d.lnk.tx = none) : rowDevice (.txFrameEnd dt) d = d.advance dt := by
  change (match d.lnk.tx with | none => d.advance dt | some _ => _) = _
  rw [free]
theorem row_txFrameEnd_some {f : Frame} (sends : d.lnk.tx = some f) :
    rowDevice (.txFrameEnd dt) d =
      ((d.advance dt).setLnk { (d.advance dt).lnk with tx := none }).event id := by
  change (match d.lnk.tx with
    | none => d.advance dt
    | some _ => ((d.advance dt).setLnk { (d.advance dt).lnk with tx := none }).event id) = _
  rw [sends]
theorem row_overflowPlacement : rowDevice (.overflowPlacement dt) d = (d.advance dt).event Device.placeOverflow := rfl
end

/-- A step from a waiting row runs that row on the part; an empty queue leaves it. -/
theorem step_dev {s t : State} (h : step s = .next t) : t.dev = s.dev ∨ ∃ i, t.dev = rowDevice i s.dev := by
  unfold step at h
  split at h
  · cases h; exact .inl rfl
  · rw [exec_eq] at h; cases h; exact .inr ⟨_, rfl⟩

/-! ## The owners of the command kinds -/

/-- The owner of a kind is one of the index, or the answer of an unknown kind (R183). -/
theorem handlerOf_cases (kind : Byte) : (∃ k, (k, handlerOf kind) ∈ handlerIndex) ∨ handlerOf kind = Device.unknownKind := by
  unfold handlerOf
  cases found : handlerIndex.find? (fun e => e.1 = kind) with
  | none => exact .inr rfl
  | some e => exact .inl ⟨e.1, List.mem_of_find?_eq_some found⟩

/-! ## What the operations of live rows keep -/

/-- `L` is kept by each operation that a row runs while the part is not held in reset. -/
structure LiveKeeps (L : Device → Prop) : Prop where
  changed {d : Device} (b : Bool) : L d → L (d.setChanged b)
  offerState {d : Device} : L d → L d.offerState
  replyBegun {d : Device} (f : Frame) : L d → L ((d.setLnk { d.lnk with replyQ := d.lnk.replyQ.tail }).begin f)
  alarmBegun {d : Device} (f : Frame) : L d → L (d.beginAlarm f)
  noticeTaken {d : Device} (f : Frame) : L d → L (d.takeNotice f)
  startedBegun {d : Device} (f : Frame) : L d → L (d.beginStarted f)
  reportBegun {d : Device} (f : Frame) : L d → L (d.beginReport f)
  batchBegun {d : Device} (f : Frame) : L d → L (d.beginBatch f)
  commandDropped {d : Device} : d.lnk.cmdQ ≠ [] → L d → L (d.setLnk d.lnk.dropHead)
  commandAppended {d : Device} (f : Frame) : d.lnk.cmdQ.length < 8 → L d → L (d.setLnk (d.lnk.append f))
  replyPushed {d : Device} (f : Frame) : d.lnk.replyQ.length < 8 → L d → L (d.pushReply f)
  handled {d : Device} {k : Byte} {h : Handler} (f : Frame) : (k, h) ∈ handlerIndex → L d → L (h f d).1
  linkError {d : Device} (e : RxError) : L d → L (d.linkError e)
  linkGood {d : Device} : L d → L d.linkGood
  receiver {d : Device} (r : Rx) : L d → L (d.setLnk { d.lnk with rx := r })
  breakCounted {d : Device} (r : Rx) (n : Nat) :
    L d → L (d.setLnk { d.lnk with rx := r, counts := { d.lnk.counts with breaks := n } })
  overflowPlaced {d : Device} : L d → L d.placeOverflow
  encoder {d : Device} (a b : Bool) : L d → L (d.sampleEncoder a b)
  homeClosed {d : Device} : L d → L d.homeClosure
  homeOpened {d : Device} : L d → L d.endBackOff
  limitClosed {d : Device} (s : Side) : L d → L ((d.setLimit s true).limitClosed s)
  limitOpened {d : Device} (s : Side) : d.pins.limit s = true → L d → L (d.setLimit s false).limitOpened
  readyLost {d : Device} : d.trv.enable = true → L d → L (d.driveFault 1)
  stallEnded {d : Device} (n : Nat) : d.trv.stall.isSome = true → L d → L (d.stallEnd n)
  restEnded {d : Device} : L d → L (d.setTrv { d.trv with restTimer := none }).restRule
  periodStarted {d : Device} : d.trv.periodDue.isSome = true → L d → L d.rampStep.startPeriod.afterRamp
  feedback {d : Device} (c : Bool) : L d → L (d.setPins { d.pins with closed := c }).superviseShutter
  mismatched {d : Device} : d.trv.mismatch.isSome = true → L d → L d.shutterMismatch
  resumed {d : Device} : L d → L d.tryResume
  stationInput {d : Device} (n : Fin 8) (v : Bool) : L d → L (d.stationInput n v)
  qualified {d : Device} (n : Fin 8) : (d.station n).qualifyTimer.isSome = true → L d → L (d.qualifyLoss n)
  restored {d : Device} (n : Fin 8) : (d.station n).restoreTimer.isSome = true → L d → L (d.stationRestored n)
  cascadeClosed {d : Device} : d.brk.cascade.isSome = true → L d → L d.closeCascade
  breaksPlaced {d : Device} (k : Nat) : L d → L (d.placeBreaks k)
  sampled {d : Device} : d.acq.sampleTimer.isSome = true → L d → L d.sampleExpired

/-! ## The link but its notices

No owner of a command but RESTART changes the wires or, of the link, more than the notice queues and the counts. -/

/-- The wires, and the link without the notice queues and the counts. -/
def Device.linkCore (d : Device) : Pins × Lnk :=
  (d.pins, { d.lnk with alarmQ := [], eventQ := [], overflow := [], counts := ⟨0, 0, 0, 0, 0, 0, 0, 0⟩ })

theorem Device.linkCore_of_outside {d e : Device} (h : e.outside = d.outside) : e.linkCore = d.linkCore :=
  (congrArg (fun x : Device => (x.pins, x.lnk)) h :)

section
variable (d : Device)
@[simp] theorem Device.setBrk_linkCore (x : Brk) : (d.setBrk x).linkCore = d.linkCore := rfl
@[simp] theorem Device.setTrv_linkCore (x : Trv) : (d.setTrv x).linkCore = d.linkCore := rfl
@[simp] theorem Device.setPrf_linkCore (x : Prf) : (d.setPrf x).linkCore = d.linkCore := rfl
@[simp] theorem Device.setAcq_linkCore (x : Acq) : (d.setAcq x).linkCore = d.linkCore := rfl
@[simp] theorem Device.setStd_linkCore (x : Std) : (d.setStd x).linkCore = d.linkCore := rfl
@[simp] theorem Device.setCnv_linkCore (x : Cnv) : (d.setCnv x).linkCore = d.linkCore := rfl
@[simp] theorem Device.setWin_linkCore (x : Vector Window 8) : (d.setWin x).linkCore = d.linkCore := rfl
@[simp] theorem Device.setAlm_linkCore (x : Alm) : (d.setAlm x).linkCore = d.linkCore := rfl
@[simp] theorem Device.setChanged_linkCore (b : Bool) : (d.setChanged b).linkCore = d.linkCore := rfl
@[simp] theorem Device.setEntry_linkCore (s : Fin 24) (e : AlarmEntry) : (d.setEntry s e).linkCore = d.linkCore := rfl
@[simp] theorem Device.setStationAt_linkCore (n : Fin 8) (x : Station) : (d.setStationAt n x).linkCore = d.linkCore := rfl
@[simp] theorem Device.startStation_linkCore (n : Fin 8) : (d.startStation n).linkCore = d.linkCore := rfl
@[simp] theorem Device.examine_linkCore : d.examine.linkCore = d.linkCore :=
  Device.linkCore_of_outside (congrArg Device.outside (Device.examine_lessAlarms d) :)
@[simp] theorem Device.rise_linkCore (s : Fin 24) (v : Nat) : (d.rise s v).linkCore = d.linkCore :=
  Device.linkCore_of_outside (by simp)
@[simp] theorem Device.fall_linkCore (s : Fin 24) : (d.fall s).linkCore = d.linkCore := rfl
@[simp] theorem Device.fallIfActive_linkCore (s : Fin 24) : (d.fallIfActive s).linkCore = d.linkCore :=
  Device.linkCore_of_outside (by simp)
@[simp] theorem Device.acknowledge_linkCore (s : Fin 24) : (d.acknowledge s).linkCore = d.linkCore :=
  Device.linkCore_of_outside (congrArg Device.outside (Device.acknowledge_lessAlarms d s) :)
@[simp] theorem Device.placeBreak_linkCore : d.placeBreak.linkCore = d.linkCore := by
  unfold Device.placeBreak; dsimp only; repeat' split
  all_goals rfl
@[simp] theorem Device.placeBreaks_linkCore (k : Nat) (d : Device) : (d.placeBreaks k).linkCore = d.linkCore := by
  induction k generalizing d with
  | zero => rfl
  | succ k ih => unfold Device.placeBreaks; split <;> simp [ih]
@[simp] theorem Device.fallDue_linkCore (n : Nat) : (d.fallDue n).linkCore = d.linkCore := by simp [Device.fallDue]
@[simp] theorem Device.closeRecord_linkCore : d.closeRecord.linkCore = d.linkCore := by
  unfold Device.closeRecord; dsimp only; repeat' split
  all_goals simp
@[simp] theorem Device.tryResume_linkCore : d.tryResume.linkCore = d.linkCore := Device.linkCore_of_outside (by simp)
@[simp] theorem Device.parkOnBreak_linkCore : d.parkOnBreak.linkCore = d.linkCore := Device.linkCore_of_outside (by simp)
@[simp] theorem Device.goTo_linkCore (st : TravState) : (d.goTo st).linkCore = d.linkCore := Device.linkCore_of_outside (by simp)
@[simp] theorem Device.evaluateSheet_linkCore : d.evaluateSheet.linkCore = d.linkCore := by
  unfold Device.evaluateSheet; dsimp only; repeat' split
  all_goals simp
@[simp] theorem Device.defineStation_linkCore (n : Fin 8) (f : StationDef) : (d.defineStation n f).linkCore = d.linkCore := by
  unfold Device.defineStation; dsimp only; repeat' split
  all_goals simp
@[simp] theorem Device.replaceFrame_linkCore (f : FrameRecord) : (d.replaceFrame f).linkCore = d.linkCore := by
  unfold Device.replaceFrame; dsimp only; repeat' split
  all_goals simp
@[simp] theorem Device.displacePending_outside : d.displacePending.outside = d.outside := by
  unfold Device.displacePending; split <;> simp
@[simp] theorem Device.takeSettings_outside (t : Byte) (s : ScanSettings) : (d.takeSettings t s).outside = d.outside := by
  unfold Device.takeSettings; dsimp only; split <;> simp
@[simp] theorem Device.abortOp_outside : d.abortOp.outside = d.outside := by simp [Device.abortOp]
@[simp] theorem Device.beginPark_outside (t : Byte) : (d.beginPark t).outside = d.outside := by
  unfold Device.beginPark; dsimp only; split <;> simp
@[simp] theorem Device.beginStop_outside (t : Byte) : (d.beginStop t).outside = d.outside := by
  unfold Device.beginStop; dsimp only; split <;> simp
end

/-- A motion command does to what is outside of the traverse what its start does: nothing. -/
theorem Device.motionCommand_outside (d : Device) (f : Frame) (len : Nat) (v : Verdict) (c : Option ReplyCode)
    {start : Device → Device} (h : ∀ e : Device, (start e).outside = e.outside) :
    (d.motionCommand f len v c start).1.outside = d.outside := by
  unfold Device.motionCommand; repeat' split
  all_goals simp [h]

/-! ## The owners one by one -/

/-- A reading command answers and changes nothing. -/
def Handler.Reads (h : Handler) : Prop := ∀ f d, (h f d).1 = d

theorem reads_getStatus : Handler.Reads Device.getStatus := fun f d => congrArg Prod.fst (d.getStatus_eq f)
theorem reads_getLink : Handler.Reads Device.getLink := fun f d => by unfold Device.getLink; split <;> rfl
theorem reads_getFrame : Handler.Reads Device.getFrame := fun _ _ => rfl
theorem reads_getScan : Handler.Reads Device.getScan := fun _ _ => rfl
theorem reads_getChannels : Handler.Reads Device.getChannels := fun _ _ => rfl
theorem reads_getStd : Handler.Reads Device.getStd := fun _ _ => rfl
theorem reads_getTable : Handler.Reads Device.getTable := fun f d => by unfold Device.getTable; dsimp only; repeat' split
                                                                        all_goals rfl
theorem reads_convert : Handler.Reads Device.convert := fun f d => by unfold Device.convert; dsimp only; repeat' split
                                                                      all_goals rfl
theorem reads_getProfile : Handler.Reads Device.getProfile := fun f d => by
  unfold Device.getProfile; dsimp only; repeat' split
  all_goals rfl
theorem reads_getPoint : Handler.Reads Device.getPoint := fun f d => by unfold Device.getPoint; dsimp only; repeat' split
                                                                        all_goals rfl
theorem reads_getWindow : Handler.Reads Device.getWindow := fun f d => by
  unfold Device.getWindow
  by_cases wrong : f.payload.length ≠ 1
  · rw [if_pos wrong]
  · rw [if_neg wrong]; exact (apply_ite Prod.fst _ _ _).trans (ite_self d)
theorem reads_getStations : Handler.Reads Device.getStations := fun f d => by
  unfold Device.getStations
  exact (apply_ite Prod.fst _ _ _).trans (ite_self d)
theorem reads_getBreaks : Handler.Reads Device.getBreaks := fun f d => by unfold Device.getBreaks; dsimp only; repeat' split
                                                                          all_goals rfl
theorem reads_getAlarms : Handler.Reads Device.getAlarms := fun f d => by
  unfold Device.getAlarms
  by_cases wrong : f.payload.length ≠ 1
  · rw [if_pos wrong]
  · rw [if_neg wrong]; exact (apply_ite Prod.fst _ _ _).trans (ite_self d)

/-- A property of owners holds of every owner in the index when it holds of the reading ones and of the eighteen that act. -/
theorem handlerIndex_induction {p : Handler → Prop} (reading : ∀ h, Handler.Reads h → p h) (restart : p Device.restart)
    (setFrame : p Device.setFrame) (home : p Device.home) (park : p Device.park) (scan : p Device.scan)
    (point : p Device.point) (standardize : p Device.standardize) (stop : p Device.stop) (setScan : p Device.setScan)
    (setTach : p Device.setTach) (setStd : p Device.setStdSettings) (setCalref : p Device.setCalref)
    (setTable : p Device.setTable) (setWindow : p Device.setWindow) (setStation : p Device.setStation)
    (setBreak : p Device.setBreak) (ack : p Device.ack) (setAlarmMode : p Device.setAlarmMode) {k : Byte} {h : Handler}
    (mem : (k, h) ∈ handlerIndex) : p h := by
  have all : ∀ e ∈ handlerIndex, p e.2 := by
    simp only [handlerIndex, List.forall_mem_cons]
    exact ⟨reading _ reads_getStatus, reading _ reads_getLink, restart, setFrame, reading _ reads_getFrame, home, park, scan, point,
      standardize, stop, setScan, reading _ reads_getScan, setTach, reading _ reads_getChannels, setStd, setCalref,
      reading _ reads_getStd, setTable, reading _ reads_getTable, reading _ reads_convert, reading _ reads_getProfile,
      reading _ reads_getPoint, setWindow, reading _ reads_getWindow, setStation, setBreak, reading _ reads_getStations,
      reading _ reads_getBreaks, ack, setAlarmMode, reading _ reads_getAlarms, by simp⟩
  exact all _ mem

/-- An owner leaves the wires, and of the link all but the notice queues and the counts. -/
def Handler.KeepsLinkCore (h : Handler) : Prop := ∀ f d, (h f d).1.linkCore = d.linkCore

/-- No owner of a command but RESTART touches the wires or, of the link, more than the notice queues and the counts. -/
theorem handler_linkCore {k : Byte} {h : Handler} (mem : (k, h) ∈ handlerIndex) (other : h ≠ Device.restart) :
    h.KeepsLinkCore := by
  have all : h = Device.restart ∨ h.KeepsLinkCore := by
    refine handlerIndex_induction (p := fun h => h = Device.restart ∨ h.KeepsLinkCore)
      (fun h reads => .inr fun f d => by rw [reads]) (.inl rfl) (setFrame := .inr ?setFrame) (setScan := .inr ?setScan) (setTach := .inr ?setTach)
      (setStd := .inr ?setStd) (setCalref := .inr ?setCalref) (setTable := .inr ?setTable) (setWindow := .inr ?setWindow) (setStation := .inr ?setStation)
      (setBreak := .inr ?setBreak) (ack := .inr ?ack) (setAlarmMode := .inr ?setAlarmMode)
      (home := .inr fun f d => Device.linkCore_of_outside (d.motionCommand_outside f _ _ _ fun e => by simp))
      (park := .inr fun f d => Device.linkCore_of_outside (d.motionCommand_outside f _ _ _ fun e => by simp))
      (scan := .inr fun f d => Device.linkCore_of_outside (d.motionCommand_outside f _ _ _ fun e => by simp))
      (point := .inr fun f d => Device.linkCore_of_outside (d.motionCommand_outside f _ _ _ fun e => by simp))
      (standardize := .inr fun f d => Device.linkCore_of_outside (d.motionCommand_outside f _ _ _ fun e => by simp))
      (stop := .inr fun f d => Device.linkCore_of_outside (d.motionCommand_outside f _ _ _ fun e => by simp)) mem
    case setFrame => intro f d; unfold Device.setFrame; dsimp only; (repeat' split) <;> simp
    case setScan =>
      intro f d; unfold Device.setScan; dsimp only; repeat' split
      all_goals first | rfl | exact Device.linkCore_of_outside (by simp)
    case setTach => intro f d; unfold Device.setTach; dsimp only; split <;> simp
    case setStd => intro f d; unfold Device.setStdSettings; dsimp only; (repeat' split) <;> simp
    case setCalref => intro f d; unfold Device.setCalref; dsimp only; (repeat' split) <;> simp
    case setTable => intro f d; unfold Device.setTable; dsimp only; (repeat' split) <;> simp
    case setWindow => intro f d; unfold Device.setWindow Device.setWindowAt; dsimp only; (repeat' split) <;> simp
    case setStation => intro f d; unfold Device.setStation; dsimp only; (repeat' split) <;> simp
    case setBreak => intro f d; unfold Device.setBreak; dsimp only; split <;> simp
    case ack => intro f d; unfold Device.ack; dsimp only; (repeat' split) <;> simp
    case setAlarmMode => intro f d; unfold Device.setAlarmMode; dsimp only; (repeat' split) <;> simp
  exact all.resolve_left other

/-! ## What every row keeps -/

/-- `P` is kept by each operation that a row runs: those of live rows, those that run under the RESET pin too, and the resets. -/
structure RowKeeps (P : Device → Prop) : Prop where
  live : LiveKeeps (fun d => d.pins.reset = false ∧ P d)
  time {d : Device} (t : Nat) : P d → P (d.setClk t)
  wires {d : Device} (p : Pins) : d.pins.reset = true → p.reset = true → P d → P (d.setPins p)
  wire {d : Device} (p : Pins) : p.limitTs = d.pins.limitTs → p.limitDs = d.pins.limitDs → p.closed = d.pins.closed →
    p.reset = d.pins.reset → P d → P (d.setPins p)
  held (d : Device) : P d.held
  coldStarted (d : Device) (cause : Nat) (strap : Bool) : P (d.coldStart cause strap)
  highTimeEnded {d : Device} : P d → P (d.setTrv { d.trv with speedRef := false, highDue := none })
  counted {d : Device} (f : OpenSample → OpenSample) : P d → P (d.onSample f)
  calState {d : Device} (a b : Option Nat) (c : Timer) :
    P d → P (d.setAcq { d.acq with calStart := a, calHigh := b, calTimeout := c })
  tach {d : Device} (a b : Option Nat) (c : Timer) (v : Nat) :
    P d → P (d.setAcq { d.acq with tachEdge := a, tachPeriod := b, tachTimeout := c, speed := v })
  lineFreed {d : Device} : P d → P (d.setLnk { d.lnk with tx := none })

/-- Starting up raises what the wires make active at once and moves no wire. -/
theorem Device.coldStart_awake (d : Device) (cause : Nat) (strap : Bool) : (d.coldStart cause strap).pins.reset = false := by
  unfold Device.coldStart Device.startUp Device.superviseShutter Device.riseOvertravel; dsimp only; repeat' split
  all_goals simp

section
variable {L : Device → Prop} (K : LiveKeeps L) {d : Device}
include K

theorem LiveKeeps.settle (h : L d) : L d.settle := by
  unfold Device.settle; split
  · exact K.changed _ (K.offerState h)
  · exact h

/-- Carrying out a command with a free place for its reply. -/
theorem LiveKeeps.carryOut {h : Handler} (f : Frame) (owner : (∃ k, (k, h) ∈ handlerIndex) ∨ h = Device.unknownKind)
    (room : d.lnk.replyQ.length < 8) (hd : L d) : L (d.carryOut h f) := by
  have acted : L (h f d).1 := by
    rcases owner with ⟨k, mem⟩ | rfl
    · exact K.handled f mem hd
    · exact hd
  have stillRoom : ∀ a, (h f d).2 = some a → (h f d).1.lnk.replyQ.length < 8 := by
    intro a answered
    rcases owner with ⟨k, mem⟩ | rfl
    · by_cases restarts : h = Device.restart
      · subst restarts
        unfold Device.restart at answered ⊢
        split at answered
        · rename_i wrong; rw [if_pos wrong]; exact room
        · cases answered
      · have core := handler_linkCore mem restarts f d
        have queue : (h f d).1.lnk.replyQ = d.lnk.replyQ := (congrArg (fun x : Pins × Lnk => x.2.replyQ) core :)
        rw [queue]; exact room
    · exact room
  unfold Device.carryOut; dsimp only
  refine K.settle ?_
  cases answered : (h f d).2 with
  | none => exact acted
  | some a => exact K.replyPushed _ (stillRoom a answered) acted

theorem LiveKeeps.dispatchLoop (k : Nat) (h : L d) : L (d.dispatchLoop k) := by
  induction k generalizing d with
  | zero => exact h
  | succ k ih =>
    unfold Device.dispatchLoop; split
    · rename_i waits
      obtain ⟨nonempty, room⟩ := waits
      refine ih ?_
      unfold Device.dispatchOne
      cases queue : d.lnk.cmdQ with
      | nil => exact absurd queue nonempty
      | cons f rest => exact K.carryOut f (handlerOf_cases _) room (K.commandDropped nonempty h)
    · exact h

theorem LiveKeeps.dispatchAll (h : L d) : L d.dispatchAll := K.dispatchLoop _ h

theorem LiveKeeps.beginNext (h : L d) : L d.beginNext := by
  unfold Device.beginNext
  repeat' split
  · exact K.dispatchAll (K.replyBegun _ h)
  · exact K.alarmBegun _ h
  · exact K.noticeTaken _ h
  · exact K.reportBegun _ h
  · exact K.batchBegun _ h
  · exact h
  · exact h

theorem LiveKeeps.arbitrate (h : L d) : L d.arbitrate := by
  unfold Device.arbitrate
  repeat' split
  · exact K.startedBegun _ h
  all_goals first | exact h | exact K.beginNext h

theorem LiveKeeps.receiveGood (f : Frame) (h : L d) : L (d.receiveGood f) := by
  unfold Device.receiveGood; split
  · rename_i room; exact K.dispatchAll (K.linkGood (K.commandAppended f room h))
  · exact K.linkError _ h

theorem LiveKeeps.rxByte (b : Byte) (stop : Bool) (h : L d) : L (d.rxByte b stop) := by
  unfold Device.rxByte; dsimp only
  cases (if stop = true then d.lnk.rx.take (d.after 2) b else d.lnk.rx.takeBroken).2 with
  | nothing => exact K.receiver _ h
  | failed e => exact K.linkError e (K.receiver _ h)
  | complete f => exact K.receiveGood f (K.receiver _ h)

end

/-- The part is not held in reset and has the property. -/
abbrev Device.Live (P : Device → Prop) (d : Device) : Prop := d.pins.reset = false ∧ P d

/-- A row that acts only while the part is not held in reset keeps what its action keeps. -/
theorem Device.live_keeps {P : Device → Prop} {d : Device} {act : Device → Device} (hd : P d)
    (h : d.Live P → (act d).Live P) : P (d.live act) := by
  unfold Device.live
  cases awake : d.pins.reset with
  | true => exact hd
  | false => exact (h ⟨awake, hd⟩).2

/-- A row that acts only at a change of a level keeps what its action keeps. -/
theorem Device.edge_keeps {P : Device → Prop} {d : Device} {old new : Bool} {act : Device → Device} (hd : P d)
    (h : old ≠ new → P (act d)) : P (d.edge old new act) := by
  unfold Device.edge; split
  · exact hd
  · rename_i change; exact h change

section
variable {P : Device → Prop} (K : RowKeeps P) {d : Device}
include K

/-- An event keeps what its action keeps: settling and the arbiter keep it too; under the RESET pin it does nothing. -/
theorem RowKeeps.event {act : Device → Device} (hd : P d) (h : d.Live P → (act d).Live P) : P (d.event act) :=
  Device.live_keeps hd fun hL => K.live.arbitrate (K.live.settle (h hL))

/-- A wire moves, and outside of reset the row acts on it. -/
theorem RowKeeps.wireLive {p : Pins} {act : Device → Device} (same : p.reset = d.pins.reset) (hd : P d)
    (h : d.Live P → (act (d.setPins p)).Live P) : P ((d.setPins p).live act) := by
  unfold Device.live
  cases awake : d.pins.reset with
  | true => rw [if_pos (show (d.setPins p).pins.reset = true from same.trans awake)]; exact K.wires p awake (same.trans awake) hd
  | false => rw [if_neg (by simp [same, awake])]; exact (h ⟨awake, hd⟩).2

/-- A wire moves, and outside of reset the row is an event. -/
theorem RowKeeps.wireEvent {p : Pins} {act : Device → Device} (same : p.reset = d.pins.reset) (hd : P d)
    (h : d.Live P → (act (d.setPins p)).Live P) : P ((d.setPins p).event act) :=
  K.wireLive same hd fun hL => K.live.arbitrate (K.live.settle (h hL))

theorem RowKeeps.expiry {t : Timer} {act : Device → Device} (hd : P d)
    (h : ∀ x, t.isSome = true → P (d.setClk x) → P (act (d.setClk x))) : P (d.expiry t act) := by
  cases t with
  | none => exact hd
  | some x => exact h _ rfl (K.time _ hd)

theorem RowKeeps.hostCommand {h : Handler} (f : Frame) (owner : (∃ k, (k, h) ∈ handlerIndex) ∨ h = Device.unknownKind)
    (hd : P d) : P (d.hostCommand h f) := by
  refine K.event hd fun hL => ?_
  split
  · rename_i clear; exact K.live.carryOut f owner clear.2 hL
  · split
    · rename_i room; exact K.live.dispatchAll (K.live.commandAppended f room hL)
    · exact K.live.linkError _ hL

theorem RowKeeps.command {h : Handler} (dt : Nat) (k tag : Byte) (p : List Byte) (mem : (k, h) ∈ handlerIndex) (hd : P d) :
    P ((d.advance dt).hostCommand h ⟨k, tag, p⟩) := K.hostCommand _ (.inl ⟨k, mem⟩) (K.time _ hd)

theorem RowKeeps.starts (cause : Nat) (strap : Bool) : P ((d.coldStart cause strap).arbitrate) :=
  (K.live.arbitrate ⟨Device.coldStart_awake _ _ _, K.coldStarted _ _ _⟩).2

theorem RowKeeps.calRise (h : d.Live P) : d.calRise.Live P := by
  unfold Device.calRise; dsimp only; split
  · exact ⟨h.1, K.calState _ _ _ h.2⟩
  · exact ⟨h.1, K.calState _ _ _ (K.counted _ h.2)⟩

theorem RowKeeps.calFall (h : d.Live P) : d.calFall.Live P := by
  unfold Device.calFall; split
  · exact ⟨h.1, K.calState _ _ _ h.2⟩
  · exact h

theorem RowKeeps.tachEdge (h : d.Live P) : d.tachEdge.Live P := by
  unfold Device.tachEdge; dsimp only; split
  · exact ⟨h.1, K.tach _ _ _ _ (K.tach _ _ (d.after 2000) _ h.2)⟩
  · exact ⟨h.1, K.tach _ _ _ _ (K.tach _ _ (d.after 2000) _ h.2)⟩

theorem RowKeeps.stationRow (n : Fin 8) (v : Bool) (hd : P d) :
    P (if d.pins.reset then d.moveStationInput n v else d.event (fun d => d.stationInput n v)) := by
  split
  · rename_i asleep; exact K.wires _ asleep asleep hd
  · exact K.event hd (K.live.stationInput n v)

/-- Every row keeps what the operations of the rows keep. -/
theorem RowKeeps.row (i : Instr) (hd : P d) : P (rowDevice i d) := by
  have ht : ∀ dt, P (d.advance dt) := fun dt => K.time _ hd
  cases i with
  | getStatus dt tag p => exact K.command dt 0x01 tag p (by simp [handlerIndex]) hd
  | getLink dt tag p => exact K.command dt 0x02 tag p (by simp [handlerIndex]) hd
  | restart dt tag p => exact K.command dt 0x03 tag p (by simp [handlerIndex]) hd
  | setFrame dt tag p => exact K.command dt 0x10 tag p (by simp [handlerIndex]) hd
  | getFrame dt tag p => exact K.command dt 0x11 tag p (by simp [handlerIndex]) hd
  | home dt tag p => exact K.command dt 0x18 tag p (by simp [handlerIndex]) hd
  | park dt tag p => exact K.command dt 0x19 tag p (by simp [handlerIndex]) hd
  | scan dt tag p => exact K.command dt 0x1A tag p (by simp [handlerIndex]) hd
  | point dt tag p => exact K.command dt 0x1B tag p (by simp [handlerIndex]) hd
  | standardize dt tag p => exact K.command dt 0x1C tag p (by simp [handlerIndex]) hd
  | stop dt tag p => exact K.command dt 0x1D tag p (by simp [handlerIndex]) hd
  | setScan dt tag p => exact K.command dt 0x1E tag p (by simp [handlerIndex]) hd
  | getScan dt tag p => exact K.command dt 0x1F tag p (by simp [handlerIndex]) hd
  | setTach dt tag p => exact K.command dt 0x20 tag p (by simp [handlerIndex]) hd
  | getChannels dt tag p => exact K.command dt 0x21 tag p (by simp [handlerIndex]) hd
  | setStd dt tag p => exact K.command dt 0x28 tag p (by simp [handlerIndex]) hd
  | setCalref dt tag p => exact K.command dt 0x29 tag p (by simp [handlerIndex]) hd
  | getStd dt tag p => exact K.command dt 0x2A tag p (by simp [handlerIndex]) hd
  | setTable dt tag p => exact K.command dt 0x30 tag p (by simp [handlerIndex]) hd
  | getTable dt tag p => exact K.command dt 0x31 tag p (by simp [handlerIndex]) hd
  | convert dt tag p => exact K.command dt 0x32 tag p (by simp [handlerIndex]) hd
  | getProfile dt tag p => exact K.command dt 0x38 tag p (by simp [handlerIndex]) hd
  | getPoint dt tag p => exact K.command dt 0x39 tag p (by simp [handlerIndex]) hd
  | setWindow dt tag p => exact K.command dt 0x40 tag p (by simp [handlerIndex]) hd
  | getWindow dt tag p => exact K.command dt 0x41 tag p (by simp [handlerIndex]) hd
  | setStation dt tag p => exact K.command dt 0x48 tag p (by simp [handlerIndex]) hd
  | setBreak dt tag p => exact K.command dt 0x49 tag p (by simp [handlerIndex]) hd
  | getStations dt tag p => exact K.command dt 0x4A tag p (by simp [handlerIndex]) hd
  | getBreaks dt tag p => exact K.command dt 0x4B tag p (by simp [handlerIndex]) hd
  | ack dt tag p => exact K.command dt 0x50 tag p (by simp [handlerIndex]) hd
  | setAlarmMode dt tag p => exact K.command dt 0x51 tag p (by simp [handlerIndex]) hd
  | getAlarms dt tag p => exact K.command dt 0x52 tag p (by simp [handlerIndex]) hd
  | unknownKindCommand dt k tag p => exact K.hostCommand _ (.inr rfl) (ht dt)
  | powerOn dt strap =>
    rw [row_powerOn]; split
    · exact K.held _
    · exact K.starts _ _
  | resetPinAssert dt => exact K.held _
  | resetPinRelease dt strap =>
    rw [row_resetPinRelease]; split
    · exact K.starts _ _
    · exact ht dt
  | legalStep dt a b => rw [row_legalStep]; exact K.event (ht dt) (K.live.encoder a b)
  | illegalTransition dt a b => rw [row_illegalTransition]; exact K.event (ht dt) (K.live.encoder a b)
  | homeSwitchClose dt =>
    rw [row_homeSwitchClose]; exact Device.edge_keeps (ht dt) fun _ => K.event (K.wire _ rfl rfl rfl rfl (ht dt)) K.live.homeClosed
  | homeSwitchOpen dt =>
    rw [row_homeSwitchOpen]; exact Device.edge_keeps (ht dt) fun _ => Device.live_keeps (K.wire _ rfl rfl rfl rfl (ht dt)) K.live.homeOpened
  | limitSwitchClose dt side =>
    rw [row_limitSwitchClose]
    refine Device.edge_keeps (ht dt) fun _ => ?_
    cases side <;> exact K.wireEvent rfl (ht dt) (K.live.limitClosed _)
  | limitSwitchOpen dt side =>
    rw [row_limitSwitchOpen]
    refine Device.edge_keeps (ht dt) fun opens => ?_
    have closed : (d.advance dt).pins.limit side = true := by simpa using opens
    cases side <;> exact K.wireLive rfl (ht dt) (K.live.limitOpened _ closed)
  | readyFall dt =>
    rw [row_readyFall]
    refine Device.edge_keeps (ht dt) fun _ => K.event (K.wire _ rfl rfl rfl rfl (ht dt)) fun hL => ?_
    split
    · rename_i driven; exact K.live.readyLost driven hL
    · exact hL
  | stallIntervalExpiry dt =>
    cases running : d.trv.stall with
    | none => rw [row_stallIntervalExpiry_none _ _ running]; exact ht dt
    | some i =>
      rw [row_stallIntervalExpiry_some _ _ running]
      exact K.event (K.time _ (ht dt)) (K.live.stallEnded _ (by simp [running]))
  | restTimerExpiry dt =>
    rw [row_restTimerExpiry]; exact K.expiry (ht dt) fun x _ hx => K.event hx K.live.restEnded
  | speedRefPeriodStart dt =>
    rw [row_speedRefPeriodStart]; exact K.expiry (ht dt) fun x due hx => K.event hx (K.live.periodStarted due)
  | speedRefHighTimeEnd dt => rw [row_speedRefHighTimeEnd]; exact K.expiry (ht dt) fun x _ hx => K.highTimeEnded hx
  | shutterFeedbackChange dt c =>
    rw [row_shutterFeedbackChange]; exact Device.edge_keeps (ht dt) fun _ => K.wireLive rfl (ht dt) (K.live.feedback c)
  | shutterMismatchExpiry dt =>
    rw [row_shutterMismatchExpiry]; exact K.expiry (ht dt) fun x runs hx => K.event hx (K.live.mismatched runs)
  | channelPulseEdge dt c =>
    rw [row_channelPulseEdge]; exact Device.live_keeps (ht dt) fun hL => ⟨hL.1, K.counted _ hL.2⟩
  | calRisingEdge dt =>
    rw [row_calRisingEdge]
    exact Device.edge_keeps (ht dt) fun _ => Device.live_keeps (K.wire _ rfl rfl rfl rfl (ht dt)) K.calRise
  | calFallingEdge dt =>
    rw [row_calFallingEdge]
    exact Device.edge_keeps (ht dt) fun _ => Device.live_keeps (K.wire _ rfl rfl rfl rfl (ht dt)) K.calFall
  | calPeriodTimeout dt => rw [row_calPeriodTimeout]; exact K.expiry (ht dt) fun x _ hx => K.calState _ _ _ hx
  | sheetPresentChange dt v =>
    rw [row_sheetPresentChange]; exact Device.edge_keeps (ht dt) fun _ => K.counted _ (K.wire _ rfl rfl rfl rfl (ht dt))
  | sampleTimerExpiry dt =>
    rw [row_sampleTimerExpiry]; exact K.expiry (ht dt) fun x runs hx => K.event hx (K.live.sampled runs)
  | tachRisingEdge dt => rw [row_tachRisingEdge]; exact Device.live_keeps (ht dt) K.tachEdge
  | tachTimeout dt => rw [row_tachTimeout]; exact K.expiry (ht dt) fun x _ hx => K.tach _ _ _ _ hx
  | stationPresenceSeen dt n => rw [row_stationPresenceSeen]; exact K.stationRow n true (ht dt)
  | stationPresenceLost dt n => rw [row_stationPresenceLost]; exact K.stationRow n false (ht dt)
  | qualifyExpiry dt n =>
    rw [row_qualifyExpiry]; exact K.expiry (ht dt) fun x runs hx => K.event hx (K.live.qualified n runs)
  | restoreExpiry dt n =>
    rw [row_restoreExpiry]; exact K.expiry (ht dt) fun x runs hx => K.event hx (K.live.restored n runs)
  | cascadeExpiry dt =>
    rw [row_cascadeExpiry]; exact K.expiry (ht dt) fun x runs hx => K.event hx (K.live.cascadeClosed runs)
  | breakNoticePlaced dt => rw [row_breakNoticePlaced]; exact K.event (ht dt) (K.live.breaksPlaced 1)
  | automaticResume dt => rw [row_automaticResume]; exact K.event (ht dt) K.live.resumed
  | rxByte dt b stop => rw [row_rxByte]; exact K.event (ht dt) (K.live.rxByte b stop)
  | gapTimeout dt =>
    rw [row_gapTimeout]
    exact K.expiry (ht dt) fun x _ hx => K.event hx fun hL => K.live.linkError _ (K.live.receiver _ hL)
  | lineBreak dt =>
    rw [row_lineBreak]
    refine Device.live_keeps (ht dt) fun hL => ?_
    unfold Device.lineBreak; split
    · exact hL
    · exact K.live.breakCounted _ _ hL
  | lineBreakEnd dt =>
    rw [row_lineBreakEnd]
    refine Device.live_keeps (ht dt) fun hL => ?_
    unfold Device.lineBreakEnd; split
    · exact K.live.receiver _ hL
    · exact hL
  | hrdyRise dt =>
    rw [row_hrdyRise]; exact Device.edge_keeps (ht dt) fun _ => K.event (K.wire _ rfl rfl rfl rfl (ht dt)) id
  | txFrameEnd dt =>
    cases sends : d.lnk.tx with
    | none => rw [row_txFrameEnd_none _ _ sends]; exact ht dt
    | some f => rw [row_txFrameEnd_some _ _ sends]; exact K.event (K.lineFreed (ht dt)) id
  | overflowPlacement dt => rw [row_overflowPlacement]; exact K.event (ht dt) K.live.overflowPlaced
  | hrdyFall dt => exact K.wire _ rfl rfl rfl rfl (ht dt)
  | readyRise dt => exact K.wire _ rfl rfl rfl rfl (ht dt)

/-- Every step keeps what the operations of the rows keep. -/
theorem RowKeeps.step {s t : State} (h : step s = .next t) (hs : P s.dev) : P t.dev := by
  rcases step_dev h with same | ⟨i, row⟩
  · rw [same]; exact hs
  · rw [row]; exact K.row i hs

end

end Sys2Proof.Machine
end

section
/-! PROOFS. The operations of the traverse, of the measurement, of the link and of the alarms, built from elementary changes: what keeps
every elementary change is kept by every operation, and so by every row. -/

namespace Sys2Proof.Machine

/-! ## Elementary changes -/

/-- The fields of TRV that an invariant of a single block or a condition rests on; the homed flag is told apart. -/
def Trv.keyed (t : Trv) : Trv :=
  { Trv.reset with
    state := t.state, openCmd := t.openCmd, enable := t.enable, commanded := t.commanded, speedRef := t.speedRef,
    periodDue := t.periodDue, highDue := t.highDue, stall := t.stall, counter := t.counter, frame := t.frame,
    active := t.active, planCount := t.planCount, mismatch := t.mismatch }

/-- The plan base of settings that may be absent (R29). -/
def planBaseOf (a : Option ScanSettings) : Nat := (a.map ScanSettings.base).getD 0

/-- The link state after a change of the counter, with LINK_DEGRADED (R180, R181). -/
def Device.relinked (d : Device) : Device :=
  let l := d.lnk.link.follow d.lnk.quality
  if l = d.lnk.link then d
  else
    let d := (d.setLnk { d.lnk with link := l }).setChanged true
    if l = .good then d.fallIfActive srcLinkDegraded else d.rise srcLinkDegraded d.lnk.quality

/-- `L` is kept by what motions, operations and the closing of scans are made of, and by an abandoned collection. -/
structure MotionKeeps (L : Device → Prop) : Prop where
  changed {d : Device} (b : Bool) : L d → L (d.setChanged b)
  trv {d : Device} (t : Trv) : t.keyed = d.trv.keyed → (t.homed = true → d.trv.homed = true) → L d → L (d.setTrv t)
  goTo {d : Device} (st : TravState) : L d → L (d.goTo st)
  dropEnable {d : Device} : L d → L d.dropEnable
  raiseEnable {d : Device} : L d → L d.raiseEnable
  plan {d : Device} (a : Option ScanSettings) (r : Option EffRange) (n : Nat) :
    (d.trv.planCount ≤ planBaseOf d.trv.active → n ≤ planBaseOf a) → L d →
      L (d.setTrv { d.trv with active := a, range := r, planCount := n })
  driveFaultRises {d : Device} (v : Nat) : L d → L (d.rise srcDriveFault v)
  driveFaultFalls {d : Device} : L d → L (d.fallIfActive srcDriveFault)
  overtravel {d : Device} (s : Side) : d.pins.limit s = true → L d → L d.riseOvertravel
  acq {d : Device} (a : Acq) : a.flagged = d.acq.flagged → L d → L (d.setAcq a)
  cnv {d : Device} (c : Cnv) : L d → L (d.setCnv c)
  prf {d : Device} (p : Prf) : p.ring = d.prf.ring ∨ p.ring.length ≤ 64 → L d → L (d.setPrf p)
  window {d : Device} (scan : Nat) (n : Fin 8) : L d → L (d.evaluateWindow scan n)
  countScan {d : Device} : L d → L d.countScan
  std {d : Device} (s : Std) : s.ref = d.std.ref → s.last = d.std.last → L d → L (d.setStd s)
  abandonStd {d : Device} : L d → L d.abandonStd
  offer {d : Device} (f : Frame) : f.kind ≠ stateKind → L d → L (d.offer f)

/-- `L` is kept by each elementary change of the part but those of the Break Detector. -/
structure CalmKeeps (L : Device → Prop) : Prop extends MotionKeeps L where
  -- the traverse
  ramp {d : Device} : d.trv.periodDue.isSome = true → L d → L d.rampStep.startPeriod
  stall {d : Device} (i : StallInterval) : d.trv.stall.isSome = true → L d → L (d.setTrv { d.trv with stall := some i })
  step {d : Device} (up : Bool) (x : Timer) :
    L d → L (d.setTrv { d.trv with counter := stepCounter up d.trv.counter, restTimer := x })
  homed {d : Device} : L d → L ((d.setTrv { d.trv with
    counter := d.frameField FrameRecord.homeOffset, faultCount := 0, homed := true }).fallIfActive srcPositionLost)
  lost {d : Device} (v : Nat) : L d → L ((d.setTrv { d.trv with homed := false }).rise srcPositionLost v)
  frame {d : Device} (f : FrameRecord) : f.homeOffset ≤ 262143 → L d → L (d.setTrv { d.trv with frame := some f })
  feedback {d : Device} (c : Bool) : L d → L (d.setPins { d.pins with closed := c }).superviseShutter
  mismatched {d : Device} (v : Nat) : d.trv.mismatch.isSome = true → L d →
    L ((d.setTrv { d.trv with mismatch := none }).rise srcShutter v)
  -- the wires
  limitCloses {d : Device} (s : Side) : L d → L (d.setLimit s true).riseOvertravel
  limitOpens {d : Device} (s : Side) : d.pins.limit s = true → L d →
    L (if (d.setLimit s false).pins.limitTs || (d.setLimit s false).pins.limitDs then d.setLimit s false
      else (d.setLimit s false).fallIfActive srcOvertravel)
  -- measuring
  failStd {d : Device} (l : StdLast) (v : Nat) :
    l.result = .sheet ∨ l.result = .channel ∨ l.result = .drift ∨ l.result = .shutter → L d → L (d.failStd l v)
  completeStd {d : Device} : L d → L d.completeStd
  channels {d : Device} (s : Sample) : L d → L (d.superviseChannels s)
  -- the link and the alarms' own commands
  offerState {d : Device} : L d → L d.offerState
  replyBegun {d : Device} (f : Frame) : L d → L ((d.setLnk { d.lnk with replyQ := d.lnk.replyQ.tail }).begin f)
  alarmBegun {d : Device} (f : Frame) : L d → L (d.beginAlarm f)
  noticeTaken {d : Device} (f : Frame) : L d → L (d.takeNotice f)
  startedBegun {d : Device} (f : Frame) : L d → L (d.beginStarted f)
  begin {d : Device} (f : Frame) : L d → L (d.begin f)
  commandDropped {d : Device} : d.lnk.cmdQ ≠ [] → L d → L (d.setLnk d.lnk.dropHead)
  commandAppended {d : Device} (f : Frame) : d.lnk.cmdQ.length < 8 → L d → L (d.setLnk (d.lnk.append f))
  replyPushed {d : Device} (f : Frame) : d.lnk.replyQ.length < 8 → L d → L (d.pushReply f)
  receiver {d : Device} (r : Rx) : L d → L (d.setLnk { d.lnk with rx := r })
  breakCounted {d : Device} (r : Rx) (n : Nat) :
    L d → L (d.setLnk { d.lnk with rx := r, counts := { d.lnk.counts with breaks := n } })
  overflowPlaced {d : Device} : L d → L d.placeOverflow
  quality {d : Device} (c : LinkCounts) (q : Nat) : q ≤ min 255 (d.lnk.quality + 8) ∨ q ≤ d.lnk.quality → L d →
    L (d.setLnk { d.lnk with counts := c, quality := q }).relinked
  acknowledged {d : Device} (s : Fin 24) : (d.entry s).state = .inService → L d → L (d.acknowledge s).examine
  modeSet {d : Device} (r : Bool) (l : Fin 24) (m a : Bool) (k : BitVec 24) : L d →
    L (d.setAlm { d.alm with rotating := r, lowest := l, specialMask := m, autoAck := a, mask := k }).examine
  setWindow {d : Device} (f : Frame) : L d → L (d.setWindow f).1

/-- `L` is kept by each elementary change of the part. -/
structure FieldKeeps (L : Device → Prop) : Prop extends CalmKeeps L where
  stationWire {d : Device} (n : Fin 8) (v : Bool) : L d → L (d.moveStationInput n v)
  breakRises {d : Device} (n : Fin 8) (v : Nat) : L d → L (d.rise (srcBreak n) v)
  breakFalls {d : Device} (n : Fin 8) : L d → L (d.fallIfActive (srcBreak n))
  brk {d : Device} (b : Brk) : L d → L (d.setBrk b)
  noticePlaced {d : Device} (r : BreakRecord) : d.lnk.eventRoom = true → L d →
    L (d.setLnk { d.lnk with eventQ := d.lnk.eventQ ++ [r.notice] })
  restarted {d : Device} (tag : Byte) : L d → L (d.restartBlocks.startUp 2 tag)

/-- `L` is kept by each operation of the Break Detector, and by RESTART. -/
structure BreakKeeps (L : Device → Prop) : Prop where
  stationInput {d : Device} (n : Fin 8) (v : Bool) : L d → L (d.stationInput n v)
  qualifyLoss {d : Device} (n : Fin 8) : (d.station n).qualifyTimer.isSome = true → L d → L (d.qualifyLoss n)
  restored {d : Device} (n : Fin 8) : (d.station n).restoreTimer.isSome = true → L d → L (d.stationRestored n)
  closeCascade {d : Device} : L d → L d.closeCascade
  placeBreaks {d : Device} (k : Nat) : L d → L (d.placeBreaks k)
  defined {d : Device} (n : Fin 8) (f : StationDef) : d.brk.sheet ≠ .sheetBreak → d.brk.sheet ≠ .threading → L d →
    L (d.defineStation n f).evaluateSheet
  settings {d : Device} (b : BreakSettings) : L d → L (d.setBrk { d.brk with settings := some b })
  restarted {d : Device} (tag : Byte) : L d → L (d.restartBlocks.startUp 2 tag)

/-- Following the counter: the change with its alarm, then what a loss of quality discards and parks (R181). -/
theorem Device.followLink_eq (d : Device) : d.followLink =
    if d.lnk.link.follow d.lnk.quality = d.lnk.link then d
    else match d.lnk.link.follow d.lnk.quality with
      | .good => d.relinked
      | .degraded => d.relinked.discardTraffic
      | .lost => d.relinked.discardTraffic.parkOnLinkLoss := by
  unfold Device.followLink Device.relinked; dsimp only
  by_cases same : d.lnk.link.follow d.lnk.quality = d.lnk.link
  · simp only [same, if_true]
  · simp only [same, if_false]
    cases d.lnk.link.follow d.lnk.quality <;> rfl

/-- A frame record that is not refused has its home offset within the coordinate (R1). -/
theorem FrameRecord.homeOffset_le {f : FrameRecord} (taken : f.refused = false) : f.homeOffset ≤ 262143 := by
  simp only [FrameRecord.refused, Bool.or_eq_false_iff, decide_eq_false_iff_not, not_or, not_lt] at taken
  obtain ⟨⟨⟨_, _, offset, _⟩, _⟩, _⟩ := taken
  exact offset

/-- The entry of highest priority in service is in service. -/
theorem Alm.topInService_state {a : Alm} {s : Fin 24} (h : a.topInService = some s) : (a.entry s).state = .inService := by
  simpa using List.find?_some h

/-- What ACK does (R165, R166): a refusal changes nothing, else an entry in service is acknowledged and an examination follows. -/
theorem Device.ack_cases (f : Frame) (d : Device) :
    (Device.ack f d).1 = d ∨ ∃ s, (d.entry s).state = .inService ∧ (Device.ack f d).1 = (d.acknowledge s).examine := by
  unfold Device.ack
  split
  · exact .inl rfl
  · extract_lets n chosen
    split
    · exact .inl rfl
    · cases picked : chosen with
      | none => exact .inl rfl
      | some s =>
        refine .inr ⟨s, ?_, rfl⟩
        by_cases small : n < 24
        · simp only [chosen, small, dite_true, Option.ite_none_right_eq_some, Option.some.injEq] at picked
          exact picked.2 ▸ picked.1
        · simp only [chosen, small, dite_false] at picked
          exact Alm.topInService_state picked

theorem keeps_ite {L : Device → Prop} {c : Prop} [Decidable c] {x y : Device} (hx : c → L x) (hy : ¬c → L y) :
    L (if c then x else y) := by
  split
  · exact hx ‹_›
  · exact hy ‹_›

section
variable {L : Device → Prop} (K : MotionKeeps L) {d : Device}
include K

/-! ## Measurement and profiles -/

theorem MotionKeeps.prfOf (p : Prf) (same : p.ring = d.prf.ring) (h : L d) : L (d.setPrf p) := K.prf p (.inl same) h

theorem MotionKeeps.onSample (f : OpenSample → OpenSample) (h : L d) : L (d.onSample f) := K.acq _ rfl h

theorem MotionKeeps.openScanRecord (side : Side) (h : L d) : L (d.openScanRecord side) := by
  unfold Device.openScanRecord; exact K.prfOf _ rfl h

theorem MotionKeeps.evaluateWindows (n : Nat) (h : L d) : L (d.evaluateWindows n) := by
  unfold Device.evaluateWindows
  induction allEight generalizing d with
  | nil => exact h
  | cons w ws ih => exact ih (K.window n w h)

theorem MotionKeeps.startEpoch (h : L d) : L d.startEpoch := K.prfOf _ rfl h

theorem MotionKeeps.prepareReport (c : Completion) (h : L d) : L (d.prepareReport c) := by
  unfold Device.prepareReport; repeat' split
  all_goals first | exact h | exact K.prfOf _ rfl h

theorem MotionKeeps.discardTraffic (h : L d) : L d.discardTraffic := by
  unfold Device.discardTraffic; refine K.prfOf _ ?_ h; dsimp only; repeat' split
  all_goals rfl

theorem MotionKeeps.foldScan (p : Profile) (h : L d) : L (d.foldScan p) := by
  unfold Device.foldScan; exact K.countScan (K.evaluateWindows _ (K.prfOf _ rfl h))

theorem MotionKeeps.closeScan (c : Completion) (h : L d) : L (d.closeScan c) := by
  unfold Device.closeScan; split
  · exact h
  · refine K.prepareReport c ?_
    split
    · exact K.foldScan _ (K.prfOf _ rfl h)
    · exact K.prfOf _ rfl h

theorem MotionKeeps.batchDue (s : ScanSettings) (h : L d) : L (d.batchDue s) := by
  unfold Device.batchDue; split <;> exact K.prfOf _ rfl h

theorem MotionKeeps.enterRing (r : ConvRecord) (h : L d) : L (d.enterRing r) := by
  have entered (n b : Nat) : L (d.setPrf { d.prf with entryNumber := n, ring := (⟨n, r⟩ :: d.prf.ring).take 64, batchCount := b }) :=
    K.prf _ (.inr (by simp)) h
  unfold Device.enterRing; dsimp only; repeat' split
  · exact entered _ _
  · exact K.batchDue _ (entered _ _)
  · exact entered _ _

theorem MotionKeeps.placeRecord (r : ConvRecord) (h : L d) : L (d.placeRecord r) := K.prfOf _ rfl h

theorem MotionKeeps.beginCollection (h : L d) : L d.beginCollection := by
  unfold Device.beginCollection; split
  · exact h
  · exact K.std _ rfl rfl h

theorem MotionKeeps.openSampleNow (g : Gating) (h : L d) : L (d.openSampleNow g) := K.acq _ rfl h

theorem MotionKeeps.stopSampling (h : L d) : L d.stopSampling := K.acq _ rfl h

theorem MotionKeeps.openAtBoundary (b : Nat) (h : L d) : L (d.openAtBoundary b) := K.openSampleNow _ (K.acq _ rfl h)

theorem MotionKeeps.startGating (h : L d) : L d.startGating := by
  unfold Device.startGating
  exact keeps_ite (fun _ => K.openAtBoundary _ (K.acq _ rfl h)) (fun _ => K.acq _ rfl h)

theorem MotionKeeps.convertSample (b : Bool) (s : Sample) (h : L d) : L (d.convertSample b s).1 := K.cnv _ h

theorem MotionKeeps.startTimeGating (n : Nat) (h : L d) : L (d.startTimeGating n) := K.acq _ rfl (K.openSampleNow _ h)

/-! ## Operations and the drive -/

theorem MotionKeeps.offerDone (k : OpKind) (t : Byte) (r : OpResult) (a : Bool) (x : Option OpResult) (h : L d) :
    L (d.offerDone k t r a x) := K.offer _ (by simp [doneKind, stateKind]) h

theorem MotionKeeps.endOp (r : OpResult) (x : Option OpResult) (h : L d) : L (d.endOp r x) := by
  unfold Device.endOp; split
  · exact h
  · exact K.offerDone _ _ _ _ _ (K.trv _ rfl id h)

theorem MotionKeeps.setOp (o : OpRecord) (h : L d) : L (d.setOp o) := K.trv _ rfl id h

theorem MotionKeeps.restRule (h : L d) : L d.restRule := by
  unfold Device.restRule; split
  · exact K.goTo _ h
  · exact h

theorem MotionKeeps.enterHalted (h : L d) : L d.enterHalted := by
  unfold Device.enterHalted; split
  · exact h
  · exact K.goTo _ h

theorem MotionKeeps.haltAtOnce (h : L d) : L d.haltAtOnce :=
  K.restRule (K.endOp _ _ (K.enterHalted (K.abandonStd (K.closeScan _ (K.dropEnable h)))))

theorem MotionKeeps.driveFault (n : Nat) (h : L d) : L (d.driveFault n) := K.haltAtOnce (K.driveFaultRises _ h)

theorem MotionKeeps.withEnable {k : Device → Device} (hk : ∀ e, L e → L (k e)) (h : L d) : L (d.withEnable k) := by
  unfold Device.withEnable; split
  · exact K.driveFault _ h
  · exact hk _ (K.raiseEnable h)

theorem MotionKeeps.startDrive {k : Device → Device} (s : Side) (hk : ∀ e, L e → L (k e)) (h : L d) : L (d.startDrive s k) := by
  refine K.withEnable (fun e he => ?_) h
  split
  · rename_i closed; exact K.haltAtOnce (K.overtravel s closed he)
  · exact hk e he

theorem MotionKeeps.beginMove {k : Device → Device} (dest : Int) (v : Nat) (p : Purpose) (hk : ∀ e, L e → L (k e)) (h : L d) :
    L (d.beginMove dest v p k) := by
  unfold Device.beginMove; extract_lets dest; split
  · exact hk d h
  · exact K.startDrive _ (fun e he => K.trv _ rfl id he) h

/-! ## Scanning, points, standardizing -/

theorem MotionKeeps.applySettings (s : ScanSettings) (h : L d) : L (d.applySettings s) := by
  unfold Device.applySettings; extract_lets range same t e
  have taken : L e := K.plan _ _ _ (fun _ => Nat.min_le_right _ _) h
  split
  · exact taken
  · exact K.startEpoch taken

theorem MotionKeeps.applyPending (h : L d) : L d.applyPending := by
  unfold Device.applyPending; split
  · exact h
  · exact K.offerDone _ _ _ _ _ (K.applySettings _ (K.trv _ rfl id h))

theorem MotionKeeps.refreshRange (h : L d) : L d.refreshRange := by
  unfold Device.refreshRange; extract_lets changed t e
  have taken : L e := K.trv _ rfl id h
  split
  · exact K.startEpoch taken
  · exact taken

theorem MotionKeeps.enterScan (s : Side) (h : L d) : L (d.enterScan s) :=
  K.startGating (K.openScanRecord s (K.trv _ rfl id (K.goTo _ h)))

theorem MotionKeeps.startRun (s : Side) (h : L d) : L (Device.startRun s d) := by
  refine K.startDrive s (fun e he => ?_) h
  dsimp only; split
  · exact K.enterScan s (K.trv _ rfl id he)
  · exact K.trv _ rfl id he

theorem MotionKeeps.moveToRunUp (s : Side) (h : L d) : L (d.moveToRunUp s) := by
  unfold Device.moveToRunUp; split
  · exact h
  · exact K.beginMove _ _ _ (fun e he => K.startRun s he) h

theorem MotionKeeps.approachScan (h : L d) : L d.approachScan := K.moveToRunUp _ (K.goTo _ h)

theorem MotionKeeps.enterPoint (h : L d) : L d.enterPoint :=
  K.withEnable (fun _ he => K.startTimeGating _ (K.prfOf _ rfl (K.trv _ rfl id (K.goTo _ he)))) h

theorem MotionKeeps.approachPoint (n : Nat) (h : L d) : L (d.approachPoint n) :=
  K.beginMove _ _ _ (fun _ he => K.enterPoint he) (K.goTo _ h)

theorem MotionKeeps.enterStandardizing (h : L d) : L d.enterStandardizing :=
  K.startTimeGating _ (K.beginCollection (K.goTo _ h))

theorem MotionKeeps.openScanOp (t : Byte) (h : L d) : L (d.openScanOp t) := K.setOp _ (K.refreshRange h)

theorem MotionKeeps.beginScanParked (t : Byte) (h : L d) : L (d.beginScanParked t) := by
  unfold Device.beginScanParked; dsimp only; split
  · exact K.enterStandardizing (K.openScanOp t h)
  · exact K.approachScan (K.openScanOp t h)

theorem MotionKeeps.beginPoint (t : Byte) (n : Nat) (h : L d) : L (d.beginPoint t n) :=
  K.approachPoint n (K.setOp _ (K.refreshRange h))

theorem MotionKeeps.motionTaken (h : L d) : L d.motionTaken := by
  unfold Device.motionTaken; dsimp only; split
  · exact K.trv _ rfl id (K.driveFaultFalls h)
  · exact K.trv _ rfl id h

theorem MotionKeeps.resumeRefused (k : OpKind) (c : ReplyCode) (h : L d) : L (d.resumeRefused k c) :=
  K.offerDone _ _ _ _ _ (K.trv _ rfl id h)

theorem MotionKeeps.tryResume (h : L d) : L d.tryResume := by
  unfold Device.tryResume; repeat' split
  · exact h
  · exact K.resumeRefused _ _ h
  · exact K.beginScanParked _ (K.motionTaken h)
  · exact K.resumeRefused _ _ h
  · exact K.beginPoint _ _ (K.motionTaken h)
  · exact h

/-! ## Parking and turns -/

theorem MotionKeeps.parkedOp (e : Option (OpResult × Option OpResult)) (h : L d) : L (d.parkedOp e) := by
  unfold Device.parkedOp; repeat' split
  all_goals first | exact h | exact K.endOp _ _ h | exact K.enterStandardizing h

theorem MotionKeeps.enterParked (e : Option (OpResult × Option OpResult)) (h : L d) : L (Device.enterParked e d) := by
  have stages : L ((d.goTo .parked).dropEnable.applyPending.parkedOp e) :=
    K.parkedOp e (K.applyPending (K.dropEnable (K.goTo _ h)))
  unfold Device.enterParked; dsimp only; split
  · exact K.tryResume stages
  · exact stages

theorem MotionKeeps.enterParking (h : L d) : L d.enterParking :=
  K.beginMove _ _ _ (fun _ he => K.enterParked none he) (K.goTo _ h)

theorem MotionKeeps.beginScan (t : Byte) (h : L d) : L (d.beginScan t) := by
  unfold Device.beginScan; split
  · exact K.enterParking (K.openScanOp t h)
  · exact K.beginScanParked t h

theorem MotionKeeps.arrive (p : Purpose) (h : L d) : L (d.arrive p) := by
  cases p with
  | park => exact K.enterParked none h
  | runUp s => exact K.startRun s h
  | point => exact K.enterPoint h

theorem MotionKeeps.chooseTurn (h : L d) : L d.chooseTurn := by
  unfold Device.chooseTurn; dsimp only; split <;> exact K.trv _ rfl id h

theorem MotionKeeps.countPlan (h : L d) : L d.countPlan := K.plan _ _ _ (fun b => (Nat.sub_le _ _).trans b) h

theorem MotionKeeps.enterTurn (h : L d) : L d.enterTurn :=
  K.chooseTurn (K.applyPending (K.countPlan (K.closeScan _ (K.goTo _ h))))

theorem MotionKeeps.turnBraked (b : Bool) (h : L d) : L (d.turnBraked b) := by
  unfold Device.turnBraked; repeat' split
  · exact K.enterParking h
  · exact K.startRun _ h
  · exact K.moveToRunUp _ h

theorem MotionKeeps.afterRamp (h : L d) : L d.afterRamp := by
  unfold Device.afterRamp; dsimp only; repeat' split
  case h_1.isTrue.isTrue => exact K.arrive _ h
  case h_1.isTrue.isFalse => exact K.beginMove _ _ _ (fun _ he => K.arrive _ he) h
  case h_3.isTrue => exact K.turnBraked _ h
  case h_4.isTrue.isTrue => exact K.endOp _ _ (K.dropEnable h)
  case h_4.isTrue.isFalse => exact K.dropEnable h
  all_goals first | exact h | exact K.trv _ rfl id h

/-! ## The encoder, homing, and what sheet, link and standardization do -/

theorem MotionKeeps.enterHoming (h : L d) : L d.enterHoming := by
  have entered : L ((d.goTo .homing).setTrv { (d.goTo .homing).trv with homed := false }) :=
    K.trv _ rfl (by simp) (K.goTo _ h)
  unfold Device.enterHoming; dsimp only; split
  all_goals exact K.startDrive _ (fun _ he => K.trv _ rfl id he) entered

theorem MotionKeeps.endBackOff (h : L d) : L d.endBackOff := by
  unfold Device.endBackOff; split
  · exact K.trv _ rfl id h
  · exact h

theorem MotionKeeps.leaveSheet (c : Completion) (r : OpResult) (h : L d) : L (d.leaveSheet c r) :=
  K.beginMove _ _ _ (fun _ he => K.enterParked none he) (K.endOp _ _ (K.closeScan _ (K.goTo _ h)))

theorem MotionKeeps.parkOnBreak (h : L d) : L d.parkOnBreak := by
  unfold Device.parkOnBreak; split
  · exact K.leaveSheet _ _ h
  · exact h

theorem MotionKeeps.noteResume (h : L d) : L d.noteResume := by
  unfold Device.noteResume; repeat' split
  all_goals first | exact h | exact K.trv _ rfl id h

theorem MotionKeeps.parkOnLinkLoss (h : L d) : L d.parkOnLinkLoss := by
  unfold Device.parkOnLinkLoss
  split
  · exact K.leaveSheet _ _ h
  split
  · exact K.enterParked _ (K.abandonStd h)
  split
  · exact K.endOp _ _ h
  · exact h

theorem MotionKeeps.reloadPlan (o : OpRecord) (h : L d) : L (d.reloadPlan o) := by
  have planned : L (d.setTrv { d.trv with planCount := if o.reloadDue then d.planBase else d.trv.planCount }) := by
    refine K.plan d.trv.active d.trv.range _ (fun b => ?_) h
    split
    · exact le_rfl
    · exact b
  exact K.trv { (d.setTrv _).trv with op := some { o with stdDue := false, reloadDue := false } } rfl id planned

theorem MotionKeeps.afterStd (r : OpResult) (h : L d) : L (d.afterStd r) := by
  have reloaded (o : OpRecord) : L (d.reloadPlan o) := K.reloadPlan o h
  unfold Device.afterStd Device.scanAfterStd; dsimp only; repeat' split
  all_goals first | exact K.enterParked _ h | exact K.enterParked _ (reloaded _) | exact K.approachScan (reloaded _)

theorem MotionKeeps.reportStd (c : Device × Option OpResult) (h : L c.1) : L (Device.reportStd c) := by
  unfold Device.reportStd; split
  · exact h
  · exact K.afterStd _ h

/-! ## The link -/

theorem MotionKeeps.followLink (h : L d.relinked) : L d.followLink := by
  rw [Device.followLink_eq]; split
  · rename_i same
    have idle : d.relinked = d := by simp [Device.relinked, same]
    exact idle ▸ h
  · split
    · exact h
    · exact K.discardTraffic h
    · exact K.parkOnLinkLoss (K.discardTraffic h)

/-! ## The commands -/

theorem MotionKeeps.motionCommand (f : Frame) (len : Nat) (v : Verdict) (c : Option ReplyCode) {start : Device → Device}
    (starts : ∀ e, L e → L (start e)) (h : L d) : L (d.motionCommand f len v c start).1 := by
  unfold Device.motionCommand; repeat' split
  all_goals first | exact h | exact K.motionTaken h | exact starts _ (K.motionTaken h)

theorem MotionKeeps.abortOp (h : L d) : L d.abortOp := K.endOp _ _ (K.closeScan _ h)

theorem MotionKeeps.beginPark (t : Byte) (h : L d) : L (Device.beginPark t d) := by
  unfold Device.beginPark; dsimp only; split
  · exact K.enterParked none (K.setOp _ (K.abandonStd (K.abortOp h)))
  · exact K.enterParking (K.setOp _ (K.abortOp h))

theorem MotionKeeps.beginStop (t : Byte) (h : L d) : L (Device.beginStop t d) := by
  have halted : L ((d.abortOp.abandonStd.goTo .halted).setOp (newOp .stop t)) :=
    K.setOp _ (K.goTo _ (K.abandonStd (K.abortOp h)))
  exact keeps_ite (fun _ => K.trv _ rfl id halted) (fun _ => K.restRule (K.endOp _ _ halted))

theorem MotionKeeps.takeSettings (t : Byte) (s : ScanSettings) (h : L d) : L (d.takeSettings t s) := by
  have displaced : L d.displacePending := by
    unfold Device.displacePending; split
    · exact h
    · exact K.offerDone _ _ _ _ _ (K.trv _ rfl id h)
  exact keeps_ite (fun _ => K.applySettings _ displaced) (fun _ => K.trv _ rfl id displaced)

theorem MotionKeeps.home (f : Frame) (h : L d) : L (Device.home f d).1 := by
  unfold Device.home; exact K.motionCommand f _ _ _ (fun e he => K.enterHoming (K.setOp _ he)) h

theorem MotionKeeps.park (f : Frame) (h : L d) : L (Device.park f d).1 := by
  unfold Device.park; exact K.motionCommand f _ _ _ (fun e he => K.beginPark _ he) h

theorem MotionKeeps.scan (f : Frame) (h : L d) : L (Device.scan f d).1 := by
  unfold Device.scan; exact K.motionCommand f _ _ _ (fun e he => K.beginScan _ he) h

theorem MotionKeeps.point (f : Frame) (h : L d) : L (Device.point f d).1 := by
  unfold Device.point; exact K.motionCommand f _ _ _ (fun e he => K.beginPoint _ _ he) h

theorem MotionKeeps.standardize (f : Frame) (h : L d) : L (Device.standardize f d).1 := by
  unfold Device.standardize; exact K.motionCommand f _ _ _ (fun e he => K.enterStandardizing (K.setOp _ he)) h

theorem MotionKeeps.stop (f : Frame) (h : L d) : L (Device.stop f d).1 := by
  unfold Device.stop; exact K.motionCommand f _ _ _ (fun e he => K.beginStop _ he) h

theorem MotionKeeps.setScan (f : Frame) (h : L d) : L (Device.setScan f d).1 := by
  unfold Device.setScan; dsimp only; repeat' split
  all_goals first | exact h | exact K.takeSettings _ _ h

theorem MotionKeeps.setTach (f : Frame) (h : L d) : L (Device.setTach f d).1 := by
  unfold Device.setTach; dsimp only; split
  · exact h
  · exact K.acq _ rfl h

theorem MotionKeeps.setStdSettings (f : Frame) (h : L d) : L (Device.setStdSettings f d).1 := by
  unfold Device.setStdSettings; dsimp only; repeat' split
  all_goals first | exact h | exact K.std _ rfl rfl h

theorem MotionKeeps.setCalref (f : Frame) (h : L d) : L (Device.setCalref f d).1 := by
  unfold Device.setCalref; dsimp only; repeat' split
  all_goals first | exact h | exact K.std _ rfl rfl h

theorem MotionKeeps.setTable (f : Frame) (h : L d) : L (Device.setTable f d).1 := by
  unfold Device.setTable; dsimp only; repeat' split
  all_goals first | exact h | exact K.cnv _ h

end

section
variable {L : Device → Prop} (K : CalmKeeps L) {d : Device}
include K

/-! ## Measurement and profiles -/

theorem CalmKeeps.takeStdSample (r : Sample) (h : L d) : L (d.takeStdSample r).1 := by
  unfold Device.takeStdSample
  split
  · exact h
  · extract_lets received left
    split
    · exact K.failStd _ _ (.inl rfl) h
    · exact K.std _ rfl rfl h
  · dsimp only; split
    · exact K.failStd _ _ (.inl rfl) h
    · split
      · exact K.completeStd (K.std _ rfl rfl h)
      · exact K.std _ rfl rfl h

theorem CalmKeeps.shutterFailsStd (h : L d) : L d.shutterFailsStd.1 := by
  unfold Device.shutterFailsStd; split
  · exact h
  · exact K.failStd _ _ (.inr (.inr (.inr rfl))) h

theorem CalmKeeps.recordClosed (s : Sample) (h : L d) : L (d.recordClosed s) := K.channels s (K.acq _ rfl h)

theorem CalmKeeps.crossBoundary (h : L d) : L d.crossBoundary := by
  unfold Device.crossBoundary; split
  · exact K.openAtBoundary _ h
  · exact K.openAtBoundary _ (K.recordClosed _ (K.placeRecord _ (K.convertSample true _ h)))

/-! ## Operations and the drive -/

theorem CalmKeeps.losePosition (cause n : Nat) (h : L d) : L (d.losePosition cause n) := by
  unfold Device.losePosition; dsimp only; repeat' split
  · exact K.endOp _ _ (K.lost _ h)
  · exact K.endOp _ _ (K.trv _ rfl id (K.goTo _ (K.closeScan _ (K.lost _ h))))
  · exact K.endOp _ _ (K.goTo _ (K.abandonStd (K.lost _ h)))

/-! ## The encoder, homing, and what sheet, link and standardization do -/

theorem CalmKeeps.afterStep (up : Bool) (h : L d) : L (d.afterStep up) := by
  have crossed : L (if d.acq.next = some d.trv.counter then d.crossBoundary else d) := by
    split
    · exact K.crossBoundary h
    · exact h
  unfold Device.afterStep
  cases d.trv.state
  case scan => exact keeps_ite (fun _ => keeps_ite (fun _ => K.enterTurn crossed) (fun _ => crossed)) (fun _ => h)
  case approach | turn =>
    dsimp only; split
    · exact keeps_ite (fun _ => K.enterScan _ h) (fun _ => h)
    · exact h
  all_goals exact h

theorem CalmKeeps.sampleEncoder (a b : Bool) (h : L d) : L (d.sampleEncoder a b) := by
  have recorded : L (d.setTrv { d.trv with sampling := some (a, b) }) := K.trv _ rfl id h
  unfold Device.sampleEncoder Device.takeIllegal Device.takeStep; dsimp only; repeat' split
  · exact recorded
  · exact K.losePosition _ _ (K.trv _ rfl id recorded)
  · exact K.trv _ rfl id recorded
  · exact K.losePosition _ _ (K.step _ _ recorded)
  · exact K.afterStep _ (K.step _ _ recorded)
  · exact recorded

theorem CalmKeeps.homeClosure (h : L d) : L d.homeClosure := by
  unfold Device.homeClosure Device.completeHoming; repeat' split
  · exact K.enterParking (K.homed h)
  · exact K.losePosition _ _ h
  all_goals exact h

theorem CalmKeeps.closeTimedSample (o : OpenSample) (h : L d) : L (d.closeTimedSample o) := by
  have gated (n : Nat) : L (d.startTimeGating n) := K.startTimeGating n h
  exact keeps_ite (fun _ => K.recordClosed _ (K.reportStd _ (K.takeStdSample _ (gated _))))
    (fun _ => K.recordClosed _ (K.enterRing _ (K.convertSample false _ (gated _))))

/-! ## The link -/

theorem CalmKeeps.linkError (e : RxError) (h : L d) : L (d.linkError e) :=
  K.followLink (K.quality _ _ (.inl le_rfl) h)

theorem CalmKeeps.linkGood (h : L d) : L d.linkGood := K.followLink (K.quality _ _ (.inr (Nat.sub_le _ _)) h)

/-! ## The commands -/

theorem CalmKeeps.replaceFrame (f : FrameRecord) (sound : f.homeOffset ≤ 262143) (h : L d) : L (d.replaceFrame f) := by
  have taken := K.frame f sound h
  exact keeps_ite (fun _ => K.goTo _ (K.trv _ rfl (by simp) taken)) (fun _ => keeps_ite (fun _ => K.goTo _ taken) (fun _ => taken))

theorem CalmKeeps.setFrame (f : Frame) (h : L d) : L (Device.setFrame f d).1 := by
  unfold Device.setFrame; dsimp only; repeat' split
  case isFalse.isFalse.isFalse fine =>
    exact K.replaceFrame _ (FrameRecord.homeOffset_le (by simpa using fine)) h
  all_goals exact h

theorem CalmKeeps.ack (f : Frame) (h : L d) : L (Device.ack f d).1 := by
  rcases Device.ack_cases f d with same | ⟨s, serving, acked⟩
  · exact same.symm ▸ h
  · exact acked.symm ▸ K.acknowledged s serving h

theorem CalmKeeps.setAlarmMode (f : Frame) (h : L d) : L (Device.setAlarmMode f d).1 := by
  unfold Device.setAlarmMode; dsimp only; repeat' split
  all_goals first | exact h | exact K.modeSet _ _ _ _ _ h

end

section
variable {L : Device → Prop} (B : BreakKeeps L) {d : Device}
include B

theorem BreakKeeps.restart (f : Frame) (h : L d) : L (Device.restart f d).1 := by
  unfold Device.restart; split
  · exact h
  · dsimp only; exact B.restarted f.tag h

theorem BreakKeeps.setStation (f : Frame) (h : L d) : L (Device.setStation f d).1 := by
  unfold Device.setStation; dsimp only
  split
  · exact h
  split
  · exact h
  rename_i whole
  obtain ⟨noBreak, noThreading⟩ := not_or.mp whole
  repeat' split
  all_goals first | exact h | exact B.defined _ _ noBreak noThreading h

theorem BreakKeeps.setBreak (f : Frame) (h : L d) : L (Device.setBreak f d).1 := by
  unfold Device.setBreak; dsimp only; split
  · exact h
  · exact B.settings _ h

variable (K : CalmKeeps L)
include K

/-- Every owner in the command index keeps what the elementary changes keep. -/
theorem BreakKeeps.handled {k : Byte} {h : Handler} (f : Frame) (mem : (k, h) ∈ handlerIndex) (hd : L d) : L (h f d).1 :=
  handlerIndex_induction (p := fun h => L (h f d).1) (fun _ reads => (reads f d).symm ▸ hd) (B.restart f hd) (K.setFrame f hd)
    (K.home f hd) (K.park f hd) (K.scan f hd) (K.point f hd) (K.standardize f hd) (K.stop f hd) (K.setScan f hd) (K.setTach f hd)
    (K.setStdSettings f hd) (K.setCalref f hd) (K.setTable f hd) (K.setWindow f hd) (B.setStation f hd) (B.setBreak f hd)
    (K.ack f hd) (K.setAlarmMode f hd) mem

/-- What keeps the elementary changes and the operations of the Break Detector keeps every operation of a live row. -/
theorem BreakKeeps.toLiveKeeps : LiveKeeps L where
  changed b h := K.changed b h
  offerState h := K.offerState h
  replyBegun f h := K.replyBegun f h
  alarmBegun f h := K.alarmBegun f h
  noticeTaken f h := K.noticeTaken f h
  startedBegun f h := K.startedBegun f h
  reportBegun f h := by
    unfold Device.beginReport; dsimp only; split
    all_goals exact K.begin _ (K.prfOf _ rfl h)
  batchBegun f h := K.begin _ (K.prfOf _ rfl h)
  commandDropped waits h := K.commandDropped waits h
  commandAppended f room h := K.commandAppended f room h
  replyPushed f room h := K.replyPushed f room h
  handled f mem h := B.handled K f mem h
  linkError e h := K.linkError e h
  linkGood h := K.linkGood h
  receiver r h := K.receiver r h
  breakCounted r n h := K.breakCounted r n h
  overflowPlaced h := K.overflowPlaced h
  encoder a b h := K.sampleEncoder a b h
  homeClosed h := K.homeClosure h
  homeOpened h := K.endBackOff h
  limitClosed s h := keeps_ite (fun _ => K.limitCloses s h) (fun _ => K.haltAtOnce (K.limitCloses s h))
  limitOpened s closed h := K.endBackOff (K.limitOpens s closed h)
  readyLost _ h := K.driveFault _ h
  stallEnded n runs h := keeps_ite (fun _ => K.driveFault _ h) (fun _ => K.stall _ runs h)
  restEnded h := K.restRule (K.trv _ rfl id h)
  periodStarted due h := K.afterRamp (K.ramp due h)
  feedback c h := K.feedback c h
  mismatched runs h := K.reportStd _ (K.shutterFailsStd (K.mismatched _ runs h))
  resumed h := K.tryResume h
  stationInput n v h := B.stationInput n v h
  qualified n runs h := B.qualifyLoss n runs h
  restored n runs h := B.restored n runs h
  cascadeClosed _ h := B.closeCascade h
  breaksPlaced k h := B.placeBreaks k h
  sampled _ h := by
    unfold Device.sampleExpired; split
    · exact h
    · exact K.closeTimedSample _ h

end

section
variable {L : Device → Prop} (K : FieldKeeps L) {d : Device}
include K

/-! ## The Break Detector -/

theorem FieldKeeps.setStationAt (n : Fin 8) (x : Station) (h : L d) : L (d.setStationAt n x) := K.brk _ h

theorem FieldKeeps.placeBreaks (k : Nat) (h : L d) : L (d.placeBreaks k) := by
  induction k generalizing d with
  | zero => exact h
  | succ k ih =>
    unfold Device.placeBreaks; split
    · rename_i room
      refine ih ?_
      unfold Device.placeBreak; dsimp only; repeat' split
      · exact h
      · exact K.brk _ h
      · exact K.noticePlaced _ room.1 (K.brk _ h)
    · exact h

theorem FieldKeeps.fallDue (n : Nat) (h : L d) : L (d.fallDue n) := K.placeBreaks _ (K.brk _ h)

theorem FieldKeeps.closeRecord (h : L d) : L d.closeRecord := by
  unfold Device.closeRecord; split
  · exact h
  · refine K.brk _ ?_
    split
    · exact K.fallDue _ (K.brk _ h)
    · exact K.brk _ h

theorem FieldKeeps.evaluateSheet (h : L d) : L d.evaluateSheet := by
  unfold Device.evaluateSheet; dsimp only; repeat' split
  · exact h
  · exact K.parkOnBreak (K.changed _ (K.brk _ h))
  · exact K.tryResume (K.closeRecord (K.changed _ (K.brk _ h)))
  all_goals exact K.changed _ (K.brk _ h)

theorem FieldKeeps.stationInput (n : Fin 8) (v : Bool) (h : L d) : L (d.stationInput n v) := by
  have moved := K.stationWire n v h
  unfold Device.stationInput; dsimp only; repeat' split
  · exact h
  · unfold Device.presenceSeen; dsimp only; repeat' split
    all_goals first
      | exact moved
      | exact K.evaluateSheet (K.breakFalls _ (K.setStationAt _ _ moved))
      | exact K.evaluateSheet (K.setStationAt _ _ moved)
  · unfold Device.presenceLost; dsimp only; repeat' split
    all_goals first | exact moved | exact K.evaluateSheet (K.setStationAt _ _ moved)

theorem FieldKeeps.declareBreak (n : Fin 8) (h : L d) : L (d.declareBreak n) :=
  K.brk _ (K.breakRises _ _ (K.prfOf _ rfl (K.evaluateSheet (K.noteResume (K.brk _ h)))))

theorem FieldKeeps.cascadeLoss (n : Fin 8) (h : L d) : L (d.cascadeLoss n) := by
  unfold Device.cascadeLoss; dsimp only; split
  · exact h
  split
  · exact K.breakRises _ _ (K.brk _ h)
  · exact K.brk _ h

theorem FieldKeeps.qualifyLoss (n : Fin 8) (h : L d) : L (d.qualifyLoss n) := by
  unfold Device.qualifyLoss; dsimp only; repeat' split
  · exact K.declareBreak n (K.setStationAt _ _ h)
  · exact K.evaluateSheet (K.cascadeLoss n (K.setStationAt _ _ h))
  · exact K.evaluateSheet (K.setStationAt _ _ h)

theorem FieldKeeps.closeCascade (h : L d) : L d.closeCascade := by
  unfold Device.closeCascade; split
  · exact K.brk _ h
  · exact K.fallDue _ (K.brk _ h)

theorem FieldKeeps.defineStation (n : Fin 8) (f : StationDef) (h : L d) : L (d.defineStation n f) := by
  unfold Device.defineStation Device.startStation; dsimp only; repeat' split
  all_goals first | exact K.setStationAt _ _ h | exact K.setStationAt _ _ (K.setStationAt _ _ h)

theorem FieldKeeps.toBreakKeeps : BreakKeeps L where
  stationInput n v h := K.stationInput n v h
  qualifyLoss n _ h := K.qualifyLoss n h
  restored _ _ h := K.evaluateSheet (K.setStationAt _ _ h)
  closeCascade h := K.closeCascade h
  placeBreaks k h := K.placeBreaks k h
  defined n f _ _ h := K.evaluateSheet (K.defineStation n f h)
  settings _ h := K.brk _ h
  restarted tag h := K.restarted tag h

theorem FieldKeeps.toLiveKeeps : LiveKeeps L := K.toBreakKeeps.toLiveKeeps K.toCalmKeeps

end

end Sys2Proof.Machine
end

section
/-! PROOFS. What the shared operations make of each block: one equation per operation, up to the Alarm Controller and its queue, and
from it one lemma per block. -/

namespace Sys2Proof.Machine

/-! ## What operations agree on that agree but for the alarms -/

section
variable {d e : Device} (h : e.lessAlarms = d.lessAlarms)
include h
theorem Device.clk_of_lessAlarms : e.clk = d.clk := (congrArg Device.clk h :)
theorem Device.timeBase_of_lessAlarms : e.timeBase = d.timeBase := (congrArg Device.timeBase h :)
theorem Device.stateChanged_of_lessAlarms : e.stateChanged = d.stateChanged := (congrArg Device.stateChanged h :)
theorem Device.pins_of_lessAlarms : e.pins = d.pins := (congrArg Device.pins h :)
theorem Device.trv_of_lessAlarms : e.trv = d.trv := (congrArg Device.trv h :)
theorem Device.acq_of_lessAlarms : e.acq = d.acq := (congrArg Device.acq h :)
theorem Device.std_of_lessAlarms : e.std = d.std := (congrArg Device.std h :)
theorem Device.cnv_of_lessAlarms : e.cnv = d.cnv := (congrArg Device.cnv h :)
theorem Device.prf_of_lessAlarms : e.prf = d.prf := (congrArg Device.prf h :)
theorem Device.win_of_lessAlarms : e.win = d.win := (congrArg Device.win h :)
theorem Device.brk_of_lessAlarms : e.brk = d.brk := (congrArg Device.brk h :)
theorem Device.link_of_lessAlarms : e.lnk.link = d.lnk.link := (congrArg (fun e : Device => e.lnk.link) h :)
theorem Device.tx_of_lessAlarms : e.lnk.tx = d.lnk.tx := (congrArg (fun e : Device => e.lnk.tx) h :)
theorem Device.cmdQ_of_lessAlarms : e.lnk.cmdQ = d.lnk.cmdQ := (congrArg (fun e : Device => e.lnk.cmdQ) h :)
theorem Device.replyQ_of_lessAlarms : e.lnk.replyQ = d.lnk.replyQ := (congrArg (fun e : Device => e.lnk.replyQ) h :)
theorem Device.eventQ_of_lessAlarms : e.lnk.eventQ = d.lnk.eventQ := (congrArg (fun e : Device => e.lnk.eventQ) h :)
theorem Device.overflow_of_lessAlarms : e.lnk.overflow = d.lnk.overflow := (congrArg (fun e : Device => e.lnk.overflow) h :)
theorem Device.rdy_of_lessAlarms : e.lnk.rdy = d.lnk.rdy := (congrArg (fun e : Device => e.lnk.rdy) h :)
theorem Device.rx_of_lessAlarms : e.lnk.rx = d.lnk.rx := (congrArg (fun e : Device => e.lnk.rx) h :)
theorem Device.quality_of_lessAlarms : e.lnk.quality = d.lnk.quality := (congrArg (fun e : Device => e.lnk.quality) h :)
theorem Device.startedHold_of_lessAlarms : e.lnk.startedHold = d.lnk.startedHold := (congrArg (fun e : Device => e.lnk.startedHold) h :)
theorem Device.counts_of_lessAlarms : e.lnk.counts = d.lnk.counts := (congrArg (fun e : Device => e.lnk.counts) h :)
theorem Device.baud_of_lessAlarms : e.lnk.baud = d.lnk.baud := (congrArg (fun e : Device => e.lnk.baud) h :)
end

section
variable (d : Device)

/-! ## The shutter and the entry to a traverse state (R17, R18, R19) -/

theorem Device.superviseShutter_lessAlarms : d.superviseShutter.lessAlarms =
    (d.setTrv { d.trv with mismatch := if d.shutterAgrees then none else d.after 500 }).lessAlarms := by
  unfold Device.superviseShutter; split <;> simp

@[simp] theorem Device.superviseShutter_clk : (d.superviseShutter).clk = d.clk := (Device.clk_of_lessAlarms (Device.superviseShutter_lessAlarms d) :)
@[simp] theorem Device.superviseShutter_timeBase : (d.superviseShutter).timeBase = d.timeBase := (Device.timeBase_of_lessAlarms (Device.superviseShutter_lessAlarms d) :)
@[simp] theorem Device.superviseShutter_stateChanged : (d.superviseShutter).stateChanged = d.stateChanged := (Device.stateChanged_of_lessAlarms (Device.superviseShutter_lessAlarms d) :)
@[simp] theorem Device.superviseShutter_pins : (d.superviseShutter).pins = d.pins := (Device.pins_of_lessAlarms (Device.superviseShutter_lessAlarms d) :)
@[simp] theorem Device.superviseShutter_acq : (d.superviseShutter).acq = d.acq := (Device.acq_of_lessAlarms (Device.superviseShutter_lessAlarms d) :)
@[simp] theorem Device.superviseShutter_std : (d.superviseShutter).std = d.std := (Device.std_of_lessAlarms (Device.superviseShutter_lessAlarms d) :)
@[simp] theorem Device.superviseShutter_cnv : (d.superviseShutter).cnv = d.cnv := (Device.cnv_of_lessAlarms (Device.superviseShutter_lessAlarms d) :)
@[simp] theorem Device.superviseShutter_prf : (d.superviseShutter).prf = d.prf := (Device.prf_of_lessAlarms (Device.superviseShutter_lessAlarms d) :)
@[simp] theorem Device.superviseShutter_win : (d.superviseShutter).win = d.win := (Device.win_of_lessAlarms (Device.superviseShutter_lessAlarms d) :)
@[simp] theorem Device.superviseShutter_brk : (d.superviseShutter).brk = d.brk := (Device.brk_of_lessAlarms (Device.superviseShutter_lessAlarms d) :)
@[simp] theorem Device.superviseShutter_link : (d.superviseShutter).lnk.link = d.lnk.link := (Device.link_of_lessAlarms (Device.superviseShutter_lessAlarms d) :)
@[simp] theorem Device.superviseShutter_tx : (d.superviseShutter).lnk.tx = d.lnk.tx := (Device.tx_of_lessAlarms (Device.superviseShutter_lessAlarms d) :)
@[simp] theorem Device.superviseShutter_cmdQ : (d.superviseShutter).lnk.cmdQ = d.lnk.cmdQ := (Device.cmdQ_of_lessAlarms (Device.superviseShutter_lessAlarms d) :)
@[simp] theorem Device.superviseShutter_replyQ : (d.superviseShutter).lnk.replyQ = d.lnk.replyQ := (Device.replyQ_of_lessAlarms (Device.superviseShutter_lessAlarms d) :)
@[simp] theorem Device.superviseShutter_eventQ : (d.superviseShutter).lnk.eventQ = d.lnk.eventQ := (Device.eventQ_of_lessAlarms (Device.superviseShutter_lessAlarms d) :)
@[simp] theorem Device.superviseShutter_overflow : (d.superviseShutter).lnk.overflow = d.lnk.overflow := (Device.overflow_of_lessAlarms (Device.superviseShutter_lessAlarms d) :)
@[simp] theorem Device.superviseShutter_rdy : (d.superviseShutter).lnk.rdy = d.lnk.rdy := (Device.rdy_of_lessAlarms (Device.superviseShutter_lessAlarms d) :)
@[simp] theorem Device.superviseShutter_rx : (d.superviseShutter).lnk.rx = d.lnk.rx := (Device.rx_of_lessAlarms (Device.superviseShutter_lessAlarms d) :)
@[simp] theorem Device.superviseShutter_quality : (d.superviseShutter).lnk.quality = d.lnk.quality := (Device.quality_of_lessAlarms (Device.superviseShutter_lessAlarms d) :)
@[simp] theorem Device.superviseShutter_startedHold : (d.superviseShutter).lnk.startedHold = d.lnk.startedHold := (Device.startedHold_of_lessAlarms (Device.superviseShutter_lessAlarms d) :)
@[simp] theorem Device.superviseShutter_counts : (d.superviseShutter).lnk.counts = d.lnk.counts := (Device.counts_of_lessAlarms (Device.superviseShutter_lessAlarms d) :)
@[simp] theorem Device.superviseShutter_baud : (d.superviseShutter).lnk.baud = d.lnk.baud := (Device.baud_of_lessAlarms (Device.superviseShutter_lessAlarms d) :)

/-- The mismatch timer after OPEN is driven to a level (R18). -/
def Device.mismatchAt (d : Device) (v : Bool) : Timer :=
  if d.trv.openCmd = v then d.trv.mismatch else if d.pins.closed = !v then none else d.after 500

theorem Device.commandShutter_lessAlarms (v : Bool) : (d.commandShutter v).lessAlarms =
    (d.setTrv { d.trv with openCmd := v, mismatch := d.mismatchAt v }).lessAlarms := by
  unfold Device.commandShutter Device.mismatchAt
  by_cases same : d.trv.openCmd = v
  · subst same; simp only [if_true]; rfl
  · rw [if_neg same, Device.superviseShutter_lessAlarms]
    have agrees : (d.setTrv { d.trv with openCmd := v }).shutterAgrees = decide (d.pins.closed = !v) := by
      cases h : d.pins.closed <;> cases v <;> simp [Device.shutterAgrees, h]
    by_cases agree : d.pins.closed = !v <;> simp [agrees, same, agree] <;> rfl

/-- The traverse enters a state: what `goTo` does, but for the SHUTTER condition. -/
theorem Device.goTo_lessAlarms (st : TravState) : (d.goTo st).lessAlarms =
    (((d.setAcq { d.acq with sample := none, sampleTimer := none, next := none }).setTrv
      { d.trv with state := st, resume := if st = .halted ∨ st = .approach then none else d.trv.resume,
                   openCmd := st.opens, mismatch := d.mismatchAt st.opens }).setChanged true).lessAlarms := by
  unfold Device.goTo; dsimp only
  rw [Device.commandShutter_lessAlarms]; rfl

@[simp] theorem Device.goTo_trv (st : TravState) : (d.goTo st).trv =
    { d.trv with state := st, resume := if st = .halted ∨ st = .approach then none else d.trv.resume,
                 openCmd := st.opens, mismatch := d.mismatchAt st.opens } := (congrArg Device.trv (Device.goTo_lessAlarms d st) :)
@[simp] theorem Device.goTo_acq (st : TravState) : (d.goTo st).acq =
    { d.acq with sample := none, sampleTimer := none, next := none } := (congrArg Device.acq (Device.goTo_lessAlarms d st) :)
@[simp] theorem Device.goTo_stateChanged (st : TravState) : (d.goTo st).stateChanged = true :=
  (congrArg Device.stateChanged (Device.goTo_lessAlarms d st) :)
@[simp] theorem Device.goTo_clk (st : TravState) : (d.goTo st).clk = d.clk := (Device.clk_of_lessAlarms (Device.goTo_lessAlarms d st) :)
@[simp] theorem Device.goTo_timeBase (st : TravState) : (d.goTo st).timeBase = d.timeBase := (Device.timeBase_of_lessAlarms (Device.goTo_lessAlarms d st) :)
@[simp] theorem Device.goTo_pins (st : TravState) : (d.goTo st).pins = d.pins := (Device.pins_of_lessAlarms (Device.goTo_lessAlarms d st) :)
@[simp] theorem Device.goTo_std (st : TravState) : (d.goTo st).std = d.std := (Device.std_of_lessAlarms (Device.goTo_lessAlarms d st) :)
@[simp] theorem Device.goTo_cnv (st : TravState) : (d.goTo st).cnv = d.cnv := (Device.cnv_of_lessAlarms (Device.goTo_lessAlarms d st) :)
@[simp] theorem Device.goTo_prf (st : TravState) : (d.goTo st).prf = d.prf := (Device.prf_of_lessAlarms (Device.goTo_lessAlarms d st) :)
@[simp] theorem Device.goTo_win (st : TravState) : (d.goTo st).win = d.win := (Device.win_of_lessAlarms (Device.goTo_lessAlarms d st) :)
@[simp] theorem Device.goTo_brk (st : TravState) : (d.goTo st).brk = d.brk := (Device.brk_of_lessAlarms (Device.goTo_lessAlarms d st) :)

theorem Device.fallIfActive_lnk (s : Fin 24) : (d.fallIfActive s).lnk = d.lnk := by
  unfold Device.fallIfActive; split <;> rfl

@[simp] theorem Device.goTo_lnk (st : TravState) : (d.goTo st).lnk = d.lnk := by
  unfold Device.goTo Device.commandShutter Device.superviseShutter; dsimp only; repeat' split
  all_goals first | rfl | (rw [Device.fallIfActive_lnk]; rfl)

/-! ## The drive (R10 to R15) -/

theorem Device.dropEnable_only : d.dropEnable = d.setTrv d.dropEnable.trv := by
  unfold Device.dropEnable; split <;> rfl
@[simp] theorem Device.dropEnable_clk : (d.dropEnable).clk = d.clk := (congrArg Device.clk (Device.dropEnable_only d) :)
@[simp] theorem Device.dropEnable_timeBase : (d.dropEnable).timeBase = d.timeBase := (congrArg Device.timeBase (Device.dropEnable_only d) :)
@[simp] theorem Device.dropEnable_stateChanged : (d.dropEnable).stateChanged = d.stateChanged := (congrArg Device.stateChanged (Device.dropEnable_only d) :)
@[simp] theorem Device.dropEnable_pins : (d.dropEnable).pins = d.pins := (congrArg Device.pins (Device.dropEnable_only d) :)
@[simp] theorem Device.dropEnable_acq : (d.dropEnable).acq = d.acq := (congrArg Device.acq (Device.dropEnable_only d) :)
@[simp] theorem Device.dropEnable_std : (d.dropEnable).std = d.std := (congrArg Device.std (Device.dropEnable_only d) :)
@[simp] theorem Device.dropEnable_cnv : (d.dropEnable).cnv = d.cnv := (congrArg Device.cnv (Device.dropEnable_only d) :)
@[simp] theorem Device.dropEnable_prf : (d.dropEnable).prf = d.prf := (congrArg Device.prf (Device.dropEnable_only d) :)
@[simp] theorem Device.dropEnable_win : (d.dropEnable).win = d.win := (congrArg Device.win (Device.dropEnable_only d) :)
@[simp] theorem Device.dropEnable_brk : (d.dropEnable).brk = d.brk := (congrArg Device.brk (Device.dropEnable_only d) :)
@[simp] theorem Device.dropEnable_alm : (d.dropEnable).alm = d.alm := (congrArg Device.alm (Device.dropEnable_only d) :)
@[simp] theorem Device.dropEnable_lnk : (d.dropEnable).lnk = d.lnk := (congrArg Device.lnk (Device.dropEnable_only d) :)
theorem Device.raiseEnable_only : d.raiseEnable = d.setTrv d.raiseEnable.trv := by
  unfold Device.raiseEnable; split <;> rfl
@[simp] theorem Device.raiseEnable_clk : (d.raiseEnable).clk = d.clk := (congrArg Device.clk (Device.raiseEnable_only d) :)
@[simp] theorem Device.raiseEnable_timeBase : (d.raiseEnable).timeBase = d.timeBase := (congrArg Device.timeBase (Device.raiseEnable_only d) :)
@[simp] theorem Device.raiseEnable_stateChanged : (d.raiseEnable).stateChanged = d.stateChanged := (congrArg Device.stateChanged (Device.raiseEnable_only d) :)
@[simp] theorem Device.raiseEnable_pins : (d.raiseEnable).pins = d.pins := (congrArg Device.pins (Device.raiseEnable_only d) :)
@[simp] theorem Device.raiseEnable_acq : (d.raiseEnable).acq = d.acq := (congrArg Device.acq (Device.raiseEnable_only d) :)
@[simp] theorem Device.raiseEnable_std : (d.raiseEnable).std = d.std := (congrArg Device.std (Device.raiseEnable_only d) :)
@[simp] theorem Device.raiseEnable_cnv : (d.raiseEnable).cnv = d.cnv := (congrArg Device.cnv (Device.raiseEnable_only d) :)
@[simp] theorem Device.raiseEnable_prf : (d.raiseEnable).prf = d.prf := (congrArg Device.prf (Device.raiseEnable_only d) :)
@[simp] theorem Device.raiseEnable_win : (d.raiseEnable).win = d.win := (congrArg Device.win (Device.raiseEnable_only d) :)
@[simp] theorem Device.raiseEnable_brk : (d.raiseEnable).brk = d.brk := (congrArg Device.brk (Device.raiseEnable_only d) :)
@[simp] theorem Device.raiseEnable_alm : (d.raiseEnable).alm = d.alm := (congrArg Device.alm (Device.raiseEnable_only d) :)
@[simp] theorem Device.raiseEnable_lnk : (d.raiseEnable).lnk = d.lnk := (congrArg Device.lnk (Device.raiseEnable_only d) :)
theorem Device.superviseStall_only : d.superviseStall = d.setTrv d.superviseStall.trv := by
  unfold Device.superviseStall; repeat' split
  all_goals rfl
@[simp] theorem Device.superviseStall_clk : (d.superviseStall).clk = d.clk := (congrArg Device.clk (Device.superviseStall_only d) :)
@[simp] theorem Device.superviseStall_timeBase : (d.superviseStall).timeBase = d.timeBase := (congrArg Device.timeBase (Device.superviseStall_only d) :)
@[simp] theorem Device.superviseStall_stateChanged : (d.superviseStall).stateChanged = d.stateChanged := (congrArg Device.stateChanged (Device.superviseStall_only d) :)
@[simp] theorem Device.superviseStall_pins : (d.superviseStall).pins = d.pins := (congrArg Device.pins (Device.superviseStall_only d) :)
@[simp] theorem Device.superviseStall_acq : (d.superviseStall).acq = d.acq := (congrArg Device.acq (Device.superviseStall_only d) :)
@[simp] theorem Device.superviseStall_std : (d.superviseStall).std = d.std := (congrArg Device.std (Device.superviseStall_only d) :)
@[simp] theorem Device.superviseStall_cnv : (d.superviseStall).cnv = d.cnv := (congrArg Device.cnv (Device.superviseStall_only d) :)
@[simp] theorem Device.superviseStall_prf : (d.superviseStall).prf = d.prf := (congrArg Device.prf (Device.superviseStall_only d) :)
@[simp] theorem Device.superviseStall_win : (d.superviseStall).win = d.win := (congrArg Device.win (Device.superviseStall_only d) :)
@[simp] theorem Device.superviseStall_brk : (d.superviseStall).brk = d.brk := (congrArg Device.brk (Device.superviseStall_only d) :)
@[simp] theorem Device.superviseStall_alm : (d.superviseStall).alm = d.alm := (congrArg Device.alm (Device.superviseStall_only d) :)
@[simp] theorem Device.superviseStall_lnk : (d.superviseStall).lnk = d.lnk := (congrArg Device.lnk (Device.superviseStall_only d) :)
theorem Device.rampStep_only : d.rampStep = d.setTrv d.rampStep.trv := by
  unfold Device.rampStep; dsimp only; rw [Device.superviseStall_only]; rfl
@[simp] theorem Device.rampStep_clk : (d.rampStep).clk = d.clk := (congrArg Device.clk (Device.rampStep_only d) :)
@[simp] theorem Device.rampStep_timeBase : (d.rampStep).timeBase = d.timeBase := (congrArg Device.timeBase (Device.rampStep_only d) :)
@[simp] theorem Device.rampStep_stateChanged : (d.rampStep).stateChanged = d.stateChanged := (congrArg Device.stateChanged (Device.rampStep_only d) :)
@[simp] theorem Device.rampStep_pins : (d.rampStep).pins = d.pins := (congrArg Device.pins (Device.rampStep_only d) :)
@[simp] theorem Device.rampStep_acq : (d.rampStep).acq = d.acq := (congrArg Device.acq (Device.rampStep_only d) :)
@[simp] theorem Device.rampStep_std : (d.rampStep).std = d.std := (congrArg Device.std (Device.rampStep_only d) :)
@[simp] theorem Device.rampStep_cnv : (d.rampStep).cnv = d.cnv := (congrArg Device.cnv (Device.rampStep_only d) :)
@[simp] theorem Device.rampStep_prf : (d.rampStep).prf = d.prf := (congrArg Device.prf (Device.rampStep_only d) :)
@[simp] theorem Device.rampStep_win : (d.rampStep).win = d.win := (congrArg Device.win (Device.rampStep_only d) :)
@[simp] theorem Device.rampStep_brk : (d.rampStep).brk = d.brk := (congrArg Device.brk (Device.rampStep_only d) :)
@[simp] theorem Device.rampStep_alm : (d.rampStep).alm = d.alm := (congrArg Device.alm (Device.rampStep_only d) :)
@[simp] theorem Device.rampStep_lnk : (d.rampStep).lnk = d.lnk := (congrArg Device.lnk (Device.rampStep_only d) :)

@[simp] theorem Device.dropEnable_enable : d.dropEnable.trv.enable = false := by
  unfold Device.dropEnable; split
  · rfl
  · rename_i low; simpa using low
@[simp] theorem Device.dropEnable_commanded : d.dropEnable.trv.commanded = 0 := by unfold Device.dropEnable; split <;> rfl
@[simp] theorem Device.dropEnable_target : d.dropEnable.trv.target = 0 := by unfold Device.dropEnable; split <;> rfl
@[simp] theorem Device.dropEnable_motion : d.dropEnable.trv.motion = .rest := by unfold Device.dropEnable; split <;> rfl
@[simp] theorem Device.dropEnable_state : d.dropEnable.trv.state = d.trv.state := by unfold Device.dropEnable; split <;> rfl
@[simp] theorem Device.dropEnable_counter : d.dropEnable.trv.counter = d.trv.counter := by unfold Device.dropEnable; split <;> rfl
@[simp] theorem Device.dropEnable_homed : d.dropEnable.trv.homed = d.trv.homed := by unfold Device.dropEnable; split <;> rfl
@[simp] theorem Device.dropEnable_faultCount : d.dropEnable.trv.faultCount = d.trv.faultCount := by unfold Device.dropEnable; split <;> rfl
@[simp] theorem Device.dropEnable_frame : d.dropEnable.trv.frame = d.trv.frame := by unfold Device.dropEnable; split <;> rfl
@[simp] theorem Device.dropEnable_openCmd : d.dropEnable.trv.openCmd = d.trv.openCmd := by unfold Device.dropEnable; split <;> rfl
@[simp] theorem Device.dropEnable_mismatch : d.dropEnable.trv.mismatch = d.trv.mismatch := by unfold Device.dropEnable; split <;> rfl
@[simp] theorem Device.dropEnable_op : d.dropEnable.trv.op = d.trv.op := by unfold Device.dropEnable; split <;> rfl
@[simp] theorem Device.dropEnable_active : d.dropEnable.trv.active = d.trv.active := by unfold Device.dropEnable; split <;> rfl
@[simp] theorem Device.dropEnable_pending : d.dropEnable.trv.pending = d.trv.pending := by unfold Device.dropEnable; split <;> rfl
@[simp] theorem Device.dropEnable_range : d.dropEnable.trv.range = d.trv.range := by unfold Device.dropEnable; split <;> rfl
@[simp] theorem Device.dropEnable_planCount : d.dropEnable.trv.planCount = d.trv.planCount := by unfold Device.dropEnable; split <;> rfl
@[simp] theorem Device.dropEnable_resume : d.dropEnable.trv.resume = d.trv.resume := by unfold Device.dropEnable; split <;> rfl
@[simp] theorem Device.dropEnable_scanDir : d.dropEnable.trv.scanDir = d.trv.scanDir := by unfold Device.dropEnable; split <;> rfl
@[simp] theorem Device.dropEnable_sampling : d.dropEnable.trv.sampling = d.trv.sampling := by unfold Device.dropEnable; split <;> rfl
@[simp] theorem Device.dropEnable_direction : d.dropEnable.trv.direction = d.trv.direction := by unfold Device.dropEnable; split <;> rfl
@[simp] theorem Device.raiseEnable_enable : d.raiseEnable.trv.enable = true := by
  unfold Device.raiseEnable; split
  · assumption
  · rfl
@[simp] theorem Device.raiseEnable_state : d.raiseEnable.trv.state = d.trv.state := by unfold Device.raiseEnable; split <;> rfl
@[simp] theorem Device.raiseEnable_counter : d.raiseEnable.trv.counter = d.trv.counter := by unfold Device.raiseEnable; split <;> rfl
@[simp] theorem Device.raiseEnable_homed : d.raiseEnable.trv.homed = d.trv.homed := by unfold Device.raiseEnable; split <;> rfl
@[simp] theorem Device.raiseEnable_faultCount : d.raiseEnable.trv.faultCount = d.trv.faultCount := by unfold Device.raiseEnable; split <;> rfl
@[simp] theorem Device.raiseEnable_frame : d.raiseEnable.trv.frame = d.trv.frame := by unfold Device.raiseEnable; split <;> rfl
@[simp] theorem Device.raiseEnable_openCmd : d.raiseEnable.trv.openCmd = d.trv.openCmd := by unfold Device.raiseEnable; split <;> rfl
@[simp] theorem Device.raiseEnable_mismatch : d.raiseEnable.trv.mismatch = d.trv.mismatch := by unfold Device.raiseEnable; split <;> rfl
@[simp] theorem Device.raiseEnable_op : d.raiseEnable.trv.op = d.trv.op := by unfold Device.raiseEnable; split <;> rfl
@[simp] theorem Device.raiseEnable_active : d.raiseEnable.trv.active = d.trv.active := by unfold Device.raiseEnable; split <;> rfl
@[simp] theorem Device.raiseEnable_pending : d.raiseEnable.trv.pending = d.trv.pending := by unfold Device.raiseEnable; split <;> rfl
@[simp] theorem Device.raiseEnable_range : d.raiseEnable.trv.range = d.trv.range := by unfold Device.raiseEnable; split <;> rfl
@[simp] theorem Device.raiseEnable_planCount : d.raiseEnable.trv.planCount = d.trv.planCount := by unfold Device.raiseEnable; split <;> rfl
@[simp] theorem Device.raiseEnable_resume : d.raiseEnable.trv.resume = d.trv.resume := by unfold Device.raiseEnable; split <;> rfl
@[simp] theorem Device.raiseEnable_scanDir : d.raiseEnable.trv.scanDir = d.trv.scanDir := by unfold Device.raiseEnable; split <;> rfl
@[simp] theorem Device.raiseEnable_commanded : d.raiseEnable.trv.commanded = d.trv.commanded := by unfold Device.raiseEnable; split <;> rfl
@[simp] theorem Device.raiseEnable_motion : d.raiseEnable.trv.motion = d.trv.motion := by unfold Device.raiseEnable; split <;> rfl
@[simp] theorem Device.raiseEnable_target : d.raiseEnable.trv.target = d.trv.target := by unfold Device.raiseEnable; split <;> rfl
@[simp] theorem Device.raiseEnable_speedRef : d.raiseEnable.trv.speedRef = d.trv.speedRef := by unfold Device.raiseEnable; split <;> rfl
@[simp] theorem Device.raiseEnable_highDue : d.raiseEnable.trv.highDue = d.trv.highDue := by unfold Device.raiseEnable; split <;> rfl
@[simp] theorem Device.raiseEnable_stall : d.raiseEnable.trv.stall = d.trv.stall := by unfold Device.raiseEnable; split <;> rfl
@[simp] theorem Device.raiseEnable_restTimer : d.raiseEnable.trv.restTimer = d.trv.restTimer := by unfold Device.raiseEnable; split <;> rfl

/-! ## The channel supervision, the windows and the scan count -/

theorem Device.superviseChannels_lessAlarms (s : Sample) : (d.superviseChannels s).lessAlarms =
    (d.setAcq { d.acq with dead := d.acq.dead.after s, flagged := d.acq.flagged.after (d.acq.dead.after s) s }).lessAlarms := by
  unfold Device.superviseChannels; dsimp only; repeat' split
  all_goals simp

@[simp] theorem Device.superviseChannels_acq (s : Sample) : (d.superviseChannels s).acq =
    { d.acq with dead := d.acq.dead.after s, flagged := d.acq.flagged.after (d.acq.dead.after s) s } :=
  (congrArg Device.acq (Device.superviseChannels_lessAlarms d s) :)
@[simp] theorem Device.superviseChannels_clk (s : Sample) : (d.superviseChannels s).clk = d.clk := (Device.clk_of_lessAlarms (Device.superviseChannels_lessAlarms d s) :)
@[simp] theorem Device.superviseChannels_timeBase (s : Sample) : (d.superviseChannels s).timeBase = d.timeBase := (Device.timeBase_of_lessAlarms (Device.superviseChannels_lessAlarms d s) :)
@[simp] theorem Device.superviseChannels_stateChanged (s : Sample) : (d.superviseChannels s).stateChanged = d.stateChanged := (Device.stateChanged_of_lessAlarms (Device.superviseChannels_lessAlarms d s) :)
@[simp] theorem Device.superviseChannels_pins (s : Sample) : (d.superviseChannels s).pins = d.pins := (Device.pins_of_lessAlarms (Device.superviseChannels_lessAlarms d s) :)
@[simp] theorem Device.superviseChannels_trv (s : Sample) : (d.superviseChannels s).trv = d.trv := (Device.trv_of_lessAlarms (Device.superviseChannels_lessAlarms d s) :)
@[simp] theorem Device.superviseChannels_std (s : Sample) : (d.superviseChannels s).std = d.std := (Device.std_of_lessAlarms (Device.superviseChannels_lessAlarms d s) :)
@[simp] theorem Device.superviseChannels_cnv (s : Sample) : (d.superviseChannels s).cnv = d.cnv := (Device.cnv_of_lessAlarms (Device.superviseChannels_lessAlarms d s) :)
@[simp] theorem Device.superviseChannels_prf (s : Sample) : (d.superviseChannels s).prf = d.prf := (Device.prf_of_lessAlarms (Device.superviseChannels_lessAlarms d s) :)
@[simp] theorem Device.superviseChannels_win (s : Sample) : (d.superviseChannels s).win = d.win := (Device.win_of_lessAlarms (Device.superviseChannels_lessAlarms d s) :)
@[simp] theorem Device.superviseChannels_brk (s : Sample) : (d.superviseChannels s).brk = d.brk := (Device.brk_of_lessAlarms (Device.superviseChannels_lessAlarms d s) :)
@[simp] theorem Device.superviseChannels_link (s : Sample) : (d.superviseChannels s).lnk.link = d.lnk.link := (Device.link_of_lessAlarms (Device.superviseChannels_lessAlarms d s) :)
@[simp] theorem Device.superviseChannels_tx (s : Sample) : (d.superviseChannels s).lnk.tx = d.lnk.tx := (Device.tx_of_lessAlarms (Device.superviseChannels_lessAlarms d s) :)
@[simp] theorem Device.superviseChannels_cmdQ (s : Sample) : (d.superviseChannels s).lnk.cmdQ = d.lnk.cmdQ := (Device.cmdQ_of_lessAlarms (Device.superviseChannels_lessAlarms d s) :)
@[simp] theorem Device.superviseChannels_replyQ (s : Sample) : (d.superviseChannels s).lnk.replyQ = d.lnk.replyQ := (Device.replyQ_of_lessAlarms (Device.superviseChannels_lessAlarms d s) :)
@[simp] theorem Device.superviseChannels_eventQ (s : Sample) : (d.superviseChannels s).lnk.eventQ = d.lnk.eventQ := (Device.eventQ_of_lessAlarms (Device.superviseChannels_lessAlarms d s) :)
@[simp] theorem Device.superviseChannels_overflow (s : Sample) : (d.superviseChannels s).lnk.overflow = d.lnk.overflow := (Device.overflow_of_lessAlarms (Device.superviseChannels_lessAlarms d s) :)
@[simp] theorem Device.superviseChannels_rdy (s : Sample) : (d.superviseChannels s).lnk.rdy = d.lnk.rdy := (Device.rdy_of_lessAlarms (Device.superviseChannels_lessAlarms d s) :)
@[simp] theorem Device.superviseChannels_rx (s : Sample) : (d.superviseChannels s).lnk.rx = d.lnk.rx := (Device.rx_of_lessAlarms (Device.superviseChannels_lessAlarms d s) :)
@[simp] theorem Device.superviseChannels_quality (s : Sample) : (d.superviseChannels s).lnk.quality = d.lnk.quality := (Device.quality_of_lessAlarms (Device.superviseChannels_lessAlarms d s) :)
@[simp] theorem Device.superviseChannels_startedHold (s : Sample) : (d.superviseChannels s).lnk.startedHold = d.lnk.startedHold := (Device.startedHold_of_lessAlarms (Device.superviseChannels_lessAlarms d s) :)
@[simp] theorem Device.superviseChannels_counts (s : Sample) : (d.superviseChannels s).lnk.counts = d.lnk.counts := (Device.counts_of_lessAlarms (Device.superviseChannels_lessAlarms d s) :)
@[simp] theorem Device.superviseChannels_baud (s : Sample) : (d.superviseChannels s).lnk.baud = d.lnk.baud := (Device.baud_of_lessAlarms (Device.superviseChannels_lessAlarms d s) :)

/-- A window after an evaluation of the scan (R118): a disabled or absent one is left alone. -/
def Device.windowAfter (d : Device) (scan : Nat) (n : Fin 8) : Window :=
  match (d.window n).definition with
  | none => d.window n
  | some f =>
    if f.enabled then (d.window n).evaluated f scan (f.values (match f.source with | .latest => d.prf.latest | .filtered => d.prf.filtered))
    else d.window n

theorem Device.evaluateWindow_lessAlarms (scan : Nat) (n : Fin 8) : (d.evaluateWindow scan n).lessAlarms =
    (d.setWindowAt n (d.windowAfter scan n)).lessAlarms := by
  have self : d.setWindowAt n (d.window n) = d := by
    have same : d.win.set n (d.window n) = d.win := by simp [Device.window]
    unfold Device.setWindowAt; rw [same]; rfl
  unfold Device.evaluateWindow Device.windowAfter
  cases defined : (d.window n).definition with
  | none => simp [defined, self]
  | some f =>
    cases on : f.enabled
    · simp [defined, on, self]
    · cases src : f.source
      all_goals
        simp only [defined, on, src, if_true]
        split
        · rw [Device.rise_lessAlarms]
        split
        · rw [Device.fall_lessAlarms]
        · rfl

@[simp] theorem Device.evaluateWindow_win (scan : Nat) (n : Fin 8) : (d.evaluateWindow scan n).win = d.win.set n (d.windowAfter scan n) :=
  (congrArg Device.win (Device.evaluateWindow_lessAlarms d scan n) :)
@[simp] theorem Device.evaluateWindow_clk (scan : Nat) (n : Fin 8) : (d.evaluateWindow scan n).clk = d.clk := (Device.clk_of_lessAlarms (Device.evaluateWindow_lessAlarms d scan n) :)
@[simp] theorem Device.evaluateWindow_timeBase (scan : Nat) (n : Fin 8) : (d.evaluateWindow scan n).timeBase = d.timeBase := (Device.timeBase_of_lessAlarms (Device.evaluateWindow_lessAlarms d scan n) :)
@[simp] theorem Device.evaluateWindow_stateChanged (scan : Nat) (n : Fin 8) : (d.evaluateWindow scan n).stateChanged = d.stateChanged := (Device.stateChanged_of_lessAlarms (Device.evaluateWindow_lessAlarms d scan n) :)
@[simp] theorem Device.evaluateWindow_pins (scan : Nat) (n : Fin 8) : (d.evaluateWindow scan n).pins = d.pins := (Device.pins_of_lessAlarms (Device.evaluateWindow_lessAlarms d scan n) :)
@[simp] theorem Device.evaluateWindow_trv (scan : Nat) (n : Fin 8) : (d.evaluateWindow scan n).trv = d.trv := (Device.trv_of_lessAlarms (Device.evaluateWindow_lessAlarms d scan n) :)
@[simp] theorem Device.evaluateWindow_acq (scan : Nat) (n : Fin 8) : (d.evaluateWindow scan n).acq = d.acq := (Device.acq_of_lessAlarms (Device.evaluateWindow_lessAlarms d scan n) :)
@[simp] theorem Device.evaluateWindow_std (scan : Nat) (n : Fin 8) : (d.evaluateWindow scan n).std = d.std := (Device.std_of_lessAlarms (Device.evaluateWindow_lessAlarms d scan n) :)
@[simp] theorem Device.evaluateWindow_cnv (scan : Nat) (n : Fin 8) : (d.evaluateWindow scan n).cnv = d.cnv := (Device.cnv_of_lessAlarms (Device.evaluateWindow_lessAlarms d scan n) :)
@[simp] theorem Device.evaluateWindow_prf (scan : Nat) (n : Fin 8) : (d.evaluateWindow scan n).prf = d.prf := (Device.prf_of_lessAlarms (Device.evaluateWindow_lessAlarms d scan n) :)
@[simp] theorem Device.evaluateWindow_brk (scan : Nat) (n : Fin 8) : (d.evaluateWindow scan n).brk = d.brk := (Device.brk_of_lessAlarms (Device.evaluateWindow_lessAlarms d scan n) :)
@[simp] theorem Device.evaluateWindow_link (scan : Nat) (n : Fin 8) : (d.evaluateWindow scan n).lnk.link = d.lnk.link := (Device.link_of_lessAlarms (Device.evaluateWindow_lessAlarms d scan n) :)
@[simp] theorem Device.evaluateWindow_tx (scan : Nat) (n : Fin 8) : (d.evaluateWindow scan n).lnk.tx = d.lnk.tx := (Device.tx_of_lessAlarms (Device.evaluateWindow_lessAlarms d scan n) :)
@[simp] theorem Device.evaluateWindow_cmdQ (scan : Nat) (n : Fin 8) : (d.evaluateWindow scan n).lnk.cmdQ = d.lnk.cmdQ := (Device.cmdQ_of_lessAlarms (Device.evaluateWindow_lessAlarms d scan n) :)
@[simp] theorem Device.evaluateWindow_replyQ (scan : Nat) (n : Fin 8) : (d.evaluateWindow scan n).lnk.replyQ = d.lnk.replyQ := (Device.replyQ_of_lessAlarms (Device.evaluateWindow_lessAlarms d scan n) :)
@[simp] theorem Device.evaluateWindow_eventQ (scan : Nat) (n : Fin 8) : (d.evaluateWindow scan n).lnk.eventQ = d.lnk.eventQ := (Device.eventQ_of_lessAlarms (Device.evaluateWindow_lessAlarms d scan n) :)
@[simp] theorem Device.evaluateWindow_overflow (scan : Nat) (n : Fin 8) : (d.evaluateWindow scan n).lnk.overflow = d.lnk.overflow := (Device.overflow_of_lessAlarms (Device.evaluateWindow_lessAlarms d scan n) :)
@[simp] theorem Device.evaluateWindow_rdy (scan : Nat) (n : Fin 8) : (d.evaluateWindow scan n).lnk.rdy = d.lnk.rdy := (Device.rdy_of_lessAlarms (Device.evaluateWindow_lessAlarms d scan n) :)
@[simp] theorem Device.evaluateWindow_rx (scan : Nat) (n : Fin 8) : (d.evaluateWindow scan n).lnk.rx = d.lnk.rx := (Device.rx_of_lessAlarms (Device.evaluateWindow_lessAlarms d scan n) :)
@[simp] theorem Device.evaluateWindow_quality (scan : Nat) (n : Fin 8) : (d.evaluateWindow scan n).lnk.quality = d.lnk.quality := (Device.quality_of_lessAlarms (Device.evaluateWindow_lessAlarms d scan n) :)
@[simp] theorem Device.evaluateWindow_startedHold (scan : Nat) (n : Fin 8) : (d.evaluateWindow scan n).lnk.startedHold = d.lnk.startedHold := (Device.startedHold_of_lessAlarms (Device.evaluateWindow_lessAlarms d scan n) :)
@[simp] theorem Device.evaluateWindow_counts (scan : Nat) (n : Fin 8) : (d.evaluateWindow scan n).lnk.counts = d.lnk.counts := (Device.counts_of_lessAlarms (Device.evaluateWindow_lessAlarms d scan n) :)
@[simp] theorem Device.evaluateWindow_baud (scan : Nat) (n : Fin 8) : (d.evaluateWindow scan n).lnk.baud = d.lnk.baud := (Device.baud_of_lessAlarms (Device.evaluateWindow_lessAlarms d scan n) :)

/-! ## The standardization -/

theorem Device.failStd_lessAlarms (l : StdLast) (v : Nat) : (d.failStd l v).lessAlarms =
    (d.setStd { d.std.toIdle with last := some l }).lessAlarms := by simp [Device.failStd]
@[simp] theorem Device.failStd_std (l : StdLast) (v : Nat) : (d.failStd l v).std = { d.std.toIdle with last := some l } :=
  (congrArg Device.std (Device.failStd_lessAlarms d l v) :)
@[simp] theorem Device.failStd_clk (l : StdLast) (v : Nat) : (d.failStd l v).clk = d.clk := (Device.clk_of_lessAlarms (Device.failStd_lessAlarms d l v) :)
@[simp] theorem Device.failStd_timeBase (l : StdLast) (v : Nat) : (d.failStd l v).timeBase = d.timeBase := (Device.timeBase_of_lessAlarms (Device.failStd_lessAlarms d l v) :)
@[simp] theorem Device.failStd_stateChanged (l : StdLast) (v : Nat) : (d.failStd l v).stateChanged = d.stateChanged := (Device.stateChanged_of_lessAlarms (Device.failStd_lessAlarms d l v) :)
@[simp] theorem Device.failStd_pins (l : StdLast) (v : Nat) : (d.failStd l v).pins = d.pins := (Device.pins_of_lessAlarms (Device.failStd_lessAlarms d l v) :)
@[simp] theorem Device.failStd_trv (l : StdLast) (v : Nat) : (d.failStd l v).trv = d.trv := (Device.trv_of_lessAlarms (Device.failStd_lessAlarms d l v) :)
@[simp] theorem Device.failStd_acq (l : StdLast) (v : Nat) : (d.failStd l v).acq = d.acq := (Device.acq_of_lessAlarms (Device.failStd_lessAlarms d l v) :)
@[simp] theorem Device.failStd_cnv (l : StdLast) (v : Nat) : (d.failStd l v).cnv = d.cnv := (Device.cnv_of_lessAlarms (Device.failStd_lessAlarms d l v) :)
@[simp] theorem Device.failStd_prf (l : StdLast) (v : Nat) : (d.failStd l v).prf = d.prf := (Device.prf_of_lessAlarms (Device.failStd_lessAlarms d l v) :)
@[simp] theorem Device.failStd_win (l : StdLast) (v : Nat) : (d.failStd l v).win = d.win := (Device.win_of_lessAlarms (Device.failStd_lessAlarms d l v) :)
@[simp] theorem Device.failStd_brk (l : StdLast) (v : Nat) : (d.failStd l v).brk = d.brk := (Device.brk_of_lessAlarms (Device.failStd_lessAlarms d l v) :)
@[simp] theorem Device.failStd_link (l : StdLast) (v : Nat) : (d.failStd l v).lnk.link = d.lnk.link := (Device.link_of_lessAlarms (Device.failStd_lessAlarms d l v) :)
@[simp] theorem Device.failStd_tx (l : StdLast) (v : Nat) : (d.failStd l v).lnk.tx = d.lnk.tx := (Device.tx_of_lessAlarms (Device.failStd_lessAlarms d l v) :)
@[simp] theorem Device.failStd_cmdQ (l : StdLast) (v : Nat) : (d.failStd l v).lnk.cmdQ = d.lnk.cmdQ := (Device.cmdQ_of_lessAlarms (Device.failStd_lessAlarms d l v) :)
@[simp] theorem Device.failStd_replyQ (l : StdLast) (v : Nat) : (d.failStd l v).lnk.replyQ = d.lnk.replyQ := (Device.replyQ_of_lessAlarms (Device.failStd_lessAlarms d l v) :)
@[simp] theorem Device.failStd_eventQ (l : StdLast) (v : Nat) : (d.failStd l v).lnk.eventQ = d.lnk.eventQ := (Device.eventQ_of_lessAlarms (Device.failStd_lessAlarms d l v) :)
@[simp] theorem Device.failStd_overflow (l : StdLast) (v : Nat) : (d.failStd l v).lnk.overflow = d.lnk.overflow := (Device.overflow_of_lessAlarms (Device.failStd_lessAlarms d l v) :)
@[simp] theorem Device.failStd_rdy (l : StdLast) (v : Nat) : (d.failStd l v).lnk.rdy = d.lnk.rdy := (Device.rdy_of_lessAlarms (Device.failStd_lessAlarms d l v) :)
@[simp] theorem Device.failStd_rx (l : StdLast) (v : Nat) : (d.failStd l v).lnk.rx = d.lnk.rx := (Device.rx_of_lessAlarms (Device.failStd_lessAlarms d l v) :)
@[simp] theorem Device.failStd_quality (l : StdLast) (v : Nat) : (d.failStd l v).lnk.quality = d.lnk.quality := (Device.quality_of_lessAlarms (Device.failStd_lessAlarms d l v) :)
@[simp] theorem Device.failStd_startedHold (l : StdLast) (v : Nat) : (d.failStd l v).lnk.startedHold = d.lnk.startedHold := (Device.startedHold_of_lessAlarms (Device.failStd_lessAlarms d l v) :)
@[simp] theorem Device.failStd_counts (l : StdLast) (v : Nat) : (d.failStd l v).lnk.counts = d.lnk.counts := (Device.counts_of_lessAlarms (Device.failStd_lessAlarms d l v) :)
@[simp] theorem Device.failStd_baud (l : StdLast) (v : Nat) : (d.failStd l v).lnk.baud = d.lnk.baud := (Device.baud_of_lessAlarms (Device.failStd_lessAlarms d l v) :)

theorem Device.adopt_lessAlarms (r : RefSet) (l : StdLast) (x : Option (Nat × Nat)) : (d.adopt r l x).lessAlarms =
    (d.setStd { d.std.toIdle with ref := some r, count := wrap32 (d.std.count + 1), last := some l }).lessAlarms := by
  unfold Device.adopt; dsimp only; repeat' split
  all_goals simp
@[simp] theorem Device.adopt_std (r : RefSet) (l : StdLast) (x : Option (Nat × Nat)) : (d.adopt r l x).std =
    { d.std.toIdle with ref := some r, count := wrap32 (d.std.count + 1), last := some l } :=
  (congrArg Device.std (Device.adopt_lessAlarms d r l x) :)

theorem Device.completeStd_lessAlarms : ∃ s, d.completeStd.lessAlarms = (d.setStd s).lessAlarms := by
  unfold Device.completeStd; extract_lets s x; repeat' split
  · exact ⟨_, Device.failStd_lessAlarms _ _ _⟩
  · exact ⟨_, Device.failStd_lessAlarms _ _ _⟩
  · exact ⟨_, Device.adopt_lessAlarms _ _ _ _⟩
@[simp] theorem Device.completeStd_clk : (d.completeStd).clk = d.clk := by
  obtain ⟨s, h⟩ := d.completeStd_lessAlarms; simpa using Device.clk_of_lessAlarms h
@[simp] theorem Device.completeStd_timeBase : (d.completeStd).timeBase = d.timeBase := by
  obtain ⟨s, h⟩ := d.completeStd_lessAlarms; simpa using Device.timeBase_of_lessAlarms h
@[simp] theorem Device.completeStd_stateChanged : (d.completeStd).stateChanged = d.stateChanged := by
  obtain ⟨s, h⟩ := d.completeStd_lessAlarms; simpa using Device.stateChanged_of_lessAlarms h
@[simp] theorem Device.completeStd_pins : (d.completeStd).pins = d.pins := by
  obtain ⟨s, h⟩ := d.completeStd_lessAlarms; simpa using Device.pins_of_lessAlarms h
@[simp] theorem Device.completeStd_trv : (d.completeStd).trv = d.trv := by
  obtain ⟨s, h⟩ := d.completeStd_lessAlarms; simpa using Device.trv_of_lessAlarms h
@[simp] theorem Device.completeStd_acq : (d.completeStd).acq = d.acq := by
  obtain ⟨s, h⟩ := d.completeStd_lessAlarms; simpa using Device.acq_of_lessAlarms h
@[simp] theorem Device.completeStd_cnv : (d.completeStd).cnv = d.cnv := by
  obtain ⟨s, h⟩ := d.completeStd_lessAlarms; simpa using Device.cnv_of_lessAlarms h
@[simp] theorem Device.completeStd_prf : (d.completeStd).prf = d.prf := by
  obtain ⟨s, h⟩ := d.completeStd_lessAlarms; simpa using Device.prf_of_lessAlarms h
@[simp] theorem Device.completeStd_win : (d.completeStd).win = d.win := by
  obtain ⟨s, h⟩ := d.completeStd_lessAlarms; simpa using Device.win_of_lessAlarms h
@[simp] theorem Device.completeStd_brk : (d.completeStd).brk = d.brk := by
  obtain ⟨s, h⟩ := d.completeStd_lessAlarms; simpa using Device.brk_of_lessAlarms h
@[simp] theorem Device.completeStd_link : (d.completeStd).lnk.link = d.lnk.link := by
  obtain ⟨s, h⟩ := d.completeStd_lessAlarms; simpa using Device.link_of_lessAlarms h
@[simp] theorem Device.completeStd_tx : (d.completeStd).lnk.tx = d.lnk.tx := by
  obtain ⟨s, h⟩ := d.completeStd_lessAlarms; simpa using Device.tx_of_lessAlarms h
@[simp] theorem Device.completeStd_cmdQ : (d.completeStd).lnk.cmdQ = d.lnk.cmdQ := by
  obtain ⟨s, h⟩ := d.completeStd_lessAlarms; simpa using Device.cmdQ_of_lessAlarms h
@[simp] theorem Device.completeStd_replyQ : (d.completeStd).lnk.replyQ = d.lnk.replyQ := by
  obtain ⟨s, h⟩ := d.completeStd_lessAlarms; simpa using Device.replyQ_of_lessAlarms h
@[simp] theorem Device.completeStd_eventQ : (d.completeStd).lnk.eventQ = d.lnk.eventQ := by
  obtain ⟨s, h⟩ := d.completeStd_lessAlarms; simpa using Device.eventQ_of_lessAlarms h
@[simp] theorem Device.completeStd_overflow : (d.completeStd).lnk.overflow = d.lnk.overflow := by
  obtain ⟨s, h⟩ := d.completeStd_lessAlarms; simpa using Device.overflow_of_lessAlarms h
@[simp] theorem Device.completeStd_rdy : (d.completeStd).lnk.rdy = d.lnk.rdy := by
  obtain ⟨s, h⟩ := d.completeStd_lessAlarms; simpa using Device.rdy_of_lessAlarms h
@[simp] theorem Device.completeStd_rx : (d.completeStd).lnk.rx = d.lnk.rx := by
  obtain ⟨s, h⟩ := d.completeStd_lessAlarms; simpa using Device.rx_of_lessAlarms h
@[simp] theorem Device.completeStd_quality : (d.completeStd).lnk.quality = d.lnk.quality := by
  obtain ⟨s, h⟩ := d.completeStd_lessAlarms; simpa using Device.quality_of_lessAlarms h
@[simp] theorem Device.completeStd_startedHold : (d.completeStd).lnk.startedHold = d.lnk.startedHold := by
  obtain ⟨s, h⟩ := d.completeStd_lessAlarms; simpa using Device.startedHold_of_lessAlarms h
@[simp] theorem Device.completeStd_counts : (d.completeStd).lnk.counts = d.lnk.counts := by
  obtain ⟨s, h⟩ := d.completeStd_lessAlarms; simpa using Device.counts_of_lessAlarms h
@[simp] theorem Device.completeStd_baud : (d.completeStd).lnk.baud = d.lnk.baud := by
  obtain ⟨s, h⟩ := d.completeStd_lessAlarms; simpa using Device.baud_of_lessAlarms h

theorem Device.abandonStd_only : d.abandonStd = d.setStd d.abandonStd.std := by
  unfold Device.abandonStd; split <;> rfl
@[simp] theorem Device.abandonStd_clk : (d.abandonStd).clk = d.clk := (congrArg Device.clk (Device.abandonStd_only d) :)
@[simp] theorem Device.abandonStd_timeBase : (d.abandonStd).timeBase = d.timeBase := (congrArg Device.timeBase (Device.abandonStd_only d) :)
@[simp] theorem Device.abandonStd_stateChanged : (d.abandonStd).stateChanged = d.stateChanged := (congrArg Device.stateChanged (Device.abandonStd_only d) :)
@[simp] theorem Device.abandonStd_pins : (d.abandonStd).pins = d.pins := (congrArg Device.pins (Device.abandonStd_only d) :)
@[simp] theorem Device.abandonStd_trv : (d.abandonStd).trv = d.trv := (congrArg Device.trv (Device.abandonStd_only d) :)
@[simp] theorem Device.abandonStd_acq : (d.abandonStd).acq = d.acq := (congrArg Device.acq (Device.abandonStd_only d) :)
@[simp] theorem Device.abandonStd_cnv : (d.abandonStd).cnv = d.cnv := (congrArg Device.cnv (Device.abandonStd_only d) :)
@[simp] theorem Device.abandonStd_prf : (d.abandonStd).prf = d.prf := (congrArg Device.prf (Device.abandonStd_only d) :)
@[simp] theorem Device.abandonStd_win : (d.abandonStd).win = d.win := (congrArg Device.win (Device.abandonStd_only d) :)
@[simp] theorem Device.abandonStd_brk : (d.abandonStd).brk = d.brk := (congrArg Device.brk (Device.abandonStd_only d) :)
@[simp] theorem Device.abandonStd_alm : (d.abandonStd).alm = d.alm := (congrArg Device.alm (Device.abandonStd_only d) :)
@[simp] theorem Device.abandonStd_lnk : (d.abandonStd).lnk = d.lnk := (congrArg Device.lnk (Device.abandonStd_only d) :)

theorem Device.beginCollection_only : d.beginCollection = d.setStd d.beginCollection.std := by
  unfold Device.beginCollection; split <;> rfl
@[simp] theorem Device.beginCollection_clk : (d.beginCollection).clk = d.clk := (congrArg Device.clk (Device.beginCollection_only d) :)
@[simp] theorem Device.beginCollection_timeBase : (d.beginCollection).timeBase = d.timeBase := (congrArg Device.timeBase (Device.beginCollection_only d) :)
@[simp] theorem Device.beginCollection_stateChanged : (d.beginCollection).stateChanged = d.stateChanged := (congrArg Device.stateChanged (Device.beginCollection_only d) :)
@[simp] theorem Device.beginCollection_pins : (d.beginCollection).pins = d.pins := (congrArg Device.pins (Device.beginCollection_only d) :)
@[simp] theorem Device.beginCollection_trv : (d.beginCollection).trv = d.trv := (congrArg Device.trv (Device.beginCollection_only d) :)
@[simp] theorem Device.beginCollection_acq : (d.beginCollection).acq = d.acq := (congrArg Device.acq (Device.beginCollection_only d) :)
@[simp] theorem Device.beginCollection_cnv : (d.beginCollection).cnv = d.cnv := (congrArg Device.cnv (Device.beginCollection_only d) :)
@[simp] theorem Device.beginCollection_prf : (d.beginCollection).prf = d.prf := (congrArg Device.prf (Device.beginCollection_only d) :)
@[simp] theorem Device.beginCollection_win : (d.beginCollection).win = d.win := (congrArg Device.win (Device.beginCollection_only d) :)
@[simp] theorem Device.beginCollection_brk : (d.beginCollection).brk = d.brk := (congrArg Device.brk (Device.beginCollection_only d) :)
@[simp] theorem Device.beginCollection_alm : (d.beginCollection).alm = d.alm := (congrArg Device.alm (Device.beginCollection_only d) :)
@[simp] theorem Device.beginCollection_lnk : (d.beginCollection).lnk = d.lnk := (congrArg Device.lnk (Device.beginCollection_only d) :)

/-! ## Overtravel, the link state and the acknowledgement -/

theorem Device.riseOvertravel_lessAlarms : d.riseOvertravel.lessAlarms = d.lessAlarms := by simp [Device.riseOvertravel]
@[simp] theorem Device.riseOvertravel_clk : (d.riseOvertravel).clk = d.clk := (Device.clk_of_lessAlarms (Device.riseOvertravel_lessAlarms d) :)
@[simp] theorem Device.riseOvertravel_timeBase : (d.riseOvertravel).timeBase = d.timeBase := (Device.timeBase_of_lessAlarms (Device.riseOvertravel_lessAlarms d) :)
@[simp] theorem Device.riseOvertravel_stateChanged : (d.riseOvertravel).stateChanged = d.stateChanged := (Device.stateChanged_of_lessAlarms (Device.riseOvertravel_lessAlarms d) :)
@[simp] theorem Device.riseOvertravel_pins : (d.riseOvertravel).pins = d.pins := (Device.pins_of_lessAlarms (Device.riseOvertravel_lessAlarms d) :)
@[simp] theorem Device.riseOvertravel_trv : (d.riseOvertravel).trv = d.trv := (Device.trv_of_lessAlarms (Device.riseOvertravel_lessAlarms d) :)
@[simp] theorem Device.riseOvertravel_acq : (d.riseOvertravel).acq = d.acq := (Device.acq_of_lessAlarms (Device.riseOvertravel_lessAlarms d) :)
@[simp] theorem Device.riseOvertravel_std : (d.riseOvertravel).std = d.std := (Device.std_of_lessAlarms (Device.riseOvertravel_lessAlarms d) :)
@[simp] theorem Device.riseOvertravel_cnv : (d.riseOvertravel).cnv = d.cnv := (Device.cnv_of_lessAlarms (Device.riseOvertravel_lessAlarms d) :)
@[simp] theorem Device.riseOvertravel_prf : (d.riseOvertravel).prf = d.prf := (Device.prf_of_lessAlarms (Device.riseOvertravel_lessAlarms d) :)
@[simp] theorem Device.riseOvertravel_win : (d.riseOvertravel).win = d.win := (Device.win_of_lessAlarms (Device.riseOvertravel_lessAlarms d) :)
@[simp] theorem Device.riseOvertravel_brk : (d.riseOvertravel).brk = d.brk := (Device.brk_of_lessAlarms (Device.riseOvertravel_lessAlarms d) :)
@[simp] theorem Device.riseOvertravel_link : (d.riseOvertravel).lnk.link = d.lnk.link := (Device.link_of_lessAlarms (Device.riseOvertravel_lessAlarms d) :)
@[simp] theorem Device.riseOvertravel_tx : (d.riseOvertravel).lnk.tx = d.lnk.tx := (Device.tx_of_lessAlarms (Device.riseOvertravel_lessAlarms d) :)
@[simp] theorem Device.riseOvertravel_cmdQ : (d.riseOvertravel).lnk.cmdQ = d.lnk.cmdQ := (Device.cmdQ_of_lessAlarms (Device.riseOvertravel_lessAlarms d) :)
@[simp] theorem Device.riseOvertravel_replyQ : (d.riseOvertravel).lnk.replyQ = d.lnk.replyQ := (Device.replyQ_of_lessAlarms (Device.riseOvertravel_lessAlarms d) :)
@[simp] theorem Device.riseOvertravel_eventQ : (d.riseOvertravel).lnk.eventQ = d.lnk.eventQ := (Device.eventQ_of_lessAlarms (Device.riseOvertravel_lessAlarms d) :)
@[simp] theorem Device.riseOvertravel_overflow : (d.riseOvertravel).lnk.overflow = d.lnk.overflow := (Device.overflow_of_lessAlarms (Device.riseOvertravel_lessAlarms d) :)
@[simp] theorem Device.riseOvertravel_rdy : (d.riseOvertravel).lnk.rdy = d.lnk.rdy := (Device.rdy_of_lessAlarms (Device.riseOvertravel_lessAlarms d) :)
@[simp] theorem Device.riseOvertravel_rx : (d.riseOvertravel).lnk.rx = d.lnk.rx := (Device.rx_of_lessAlarms (Device.riseOvertravel_lessAlarms d) :)
@[simp] theorem Device.riseOvertravel_quality : (d.riseOvertravel).lnk.quality = d.lnk.quality := (Device.quality_of_lessAlarms (Device.riseOvertravel_lessAlarms d) :)
@[simp] theorem Device.riseOvertravel_startedHold : (d.riseOvertravel).lnk.startedHold = d.lnk.startedHold := (Device.startedHold_of_lessAlarms (Device.riseOvertravel_lessAlarms d) :)
@[simp] theorem Device.riseOvertravel_counts : (d.riseOvertravel).lnk.counts = d.lnk.counts := (Device.counts_of_lessAlarms (Device.riseOvertravel_lessAlarms d) :)
@[simp] theorem Device.riseOvertravel_baud : (d.riseOvertravel).lnk.baud = d.lnk.baud := (Device.baud_of_lessAlarms (Device.riseOvertravel_lessAlarms d) :)

theorem Device.relinked_lessAlarms : d.relinked.lessAlarms =
    ((d.setLnk { d.lnk with link := d.lnk.link.follow d.lnk.quality }).setChanged
      (d.stateChanged || decide (d.lnk.link.follow d.lnk.quality ≠ d.lnk.link))).lessAlarms := by
  unfold Device.relinked; dsimp only
  by_cases same : d.lnk.link.follow d.lnk.quality = d.lnk.link
  · simp only [same, if_true, ne_eq, not_true_eq_false, decide_false, Bool.or_false]; rfl
  · have moved : (d.stateChanged || decide (d.lnk.link.follow d.lnk.quality ≠ d.lnk.link)) = true := by simp [same]
    rw [if_neg same, moved]; split
    · exact Device.fallIfActive_lessAlarms _ _
    · exact Device.rise_lessAlarms _ _ _

@[simp] theorem Device.relinked_link : d.relinked.lnk.link = d.lnk.link.follow d.lnk.quality :=
  (congrArg (fun e : Device => e.lnk.link) (Device.relinked_lessAlarms d) :)
@[simp] theorem Device.relinked_clk : (d.relinked).clk = d.clk := (Device.clk_of_lessAlarms (Device.relinked_lessAlarms d) :)
@[simp] theorem Device.relinked_timeBase : (d.relinked).timeBase = d.timeBase := (Device.timeBase_of_lessAlarms (Device.relinked_lessAlarms d) :)
@[simp] theorem Device.relinked_pins : (d.relinked).pins = d.pins := (Device.pins_of_lessAlarms (Device.relinked_lessAlarms d) :)
@[simp] theorem Device.relinked_trv : (d.relinked).trv = d.trv := (Device.trv_of_lessAlarms (Device.relinked_lessAlarms d) :)
@[simp] theorem Device.relinked_acq : (d.relinked).acq = d.acq := (Device.acq_of_lessAlarms (Device.relinked_lessAlarms d) :)
@[simp] theorem Device.relinked_std : (d.relinked).std = d.std := (Device.std_of_lessAlarms (Device.relinked_lessAlarms d) :)
@[simp] theorem Device.relinked_cnv : (d.relinked).cnv = d.cnv := (Device.cnv_of_lessAlarms (Device.relinked_lessAlarms d) :)
@[simp] theorem Device.relinked_prf : (d.relinked).prf = d.prf := (Device.prf_of_lessAlarms (Device.relinked_lessAlarms d) :)
@[simp] theorem Device.relinked_win : (d.relinked).win = d.win := (Device.win_of_lessAlarms (Device.relinked_lessAlarms d) :)
@[simp] theorem Device.relinked_brk : (d.relinked).brk = d.brk := (Device.brk_of_lessAlarms (Device.relinked_lessAlarms d) :)
@[simp] theorem Device.relinked_tx : (d.relinked).lnk.tx = d.lnk.tx := (Device.tx_of_lessAlarms (Device.relinked_lessAlarms d) :)
@[simp] theorem Device.relinked_cmdQ : (d.relinked).lnk.cmdQ = d.lnk.cmdQ := (Device.cmdQ_of_lessAlarms (Device.relinked_lessAlarms d) :)
@[simp] theorem Device.relinked_replyQ : (d.relinked).lnk.replyQ = d.lnk.replyQ := (Device.replyQ_of_lessAlarms (Device.relinked_lessAlarms d) :)
@[simp] theorem Device.relinked_eventQ : (d.relinked).lnk.eventQ = d.lnk.eventQ := (Device.eventQ_of_lessAlarms (Device.relinked_lessAlarms d) :)
@[simp] theorem Device.relinked_overflow : (d.relinked).lnk.overflow = d.lnk.overflow := (Device.overflow_of_lessAlarms (Device.relinked_lessAlarms d) :)
@[simp] theorem Device.relinked_rdy : (d.relinked).lnk.rdy = d.lnk.rdy := (Device.rdy_of_lessAlarms (Device.relinked_lessAlarms d) :)
@[simp] theorem Device.relinked_rx : (d.relinked).lnk.rx = d.lnk.rx := (Device.rx_of_lessAlarms (Device.relinked_lessAlarms d) :)
@[simp] theorem Device.relinked_quality : (d.relinked).lnk.quality = d.lnk.quality := (Device.quality_of_lessAlarms (Device.relinked_lessAlarms d) :)
@[simp] theorem Device.relinked_startedHold : (d.relinked).lnk.startedHold = d.lnk.startedHold := (Device.startedHold_of_lessAlarms (Device.relinked_lessAlarms d) :)
@[simp] theorem Device.relinked_counts : (d.relinked).lnk.counts = d.lnk.counts := (Device.counts_of_lessAlarms (Device.relinked_lessAlarms d) :)
@[simp] theorem Device.relinked_baud : (d.relinked).lnk.baud = d.lnk.baud := (Device.baud_of_lessAlarms (Device.relinked_lessAlarms d) :)

/-! ## Changes of one block -/

theorem Device.startPeriod_only : d.startPeriod = d.setTrv (d.startPeriod).trv := rfl
@[simp] theorem Device.startPeriod_clk : (d.startPeriod).clk = d.clk := (congrArg Device.clk (Device.startPeriod_only d) :)
@[simp] theorem Device.startPeriod_timeBase : (d.startPeriod).timeBase = d.timeBase := (congrArg Device.timeBase (Device.startPeriod_only d) :)
@[simp] theorem Device.startPeriod_stateChanged : (d.startPeriod).stateChanged = d.stateChanged := (congrArg Device.stateChanged (Device.startPeriod_only d) :)
@[simp] theorem Device.startPeriod_pins : (d.startPeriod).pins = d.pins := (congrArg Device.pins (Device.startPeriod_only d) :)
@[simp] theorem Device.startPeriod_acq : (d.startPeriod).acq = d.acq := (congrArg Device.acq (Device.startPeriod_only d) :)
@[simp] theorem Device.startPeriod_std : (d.startPeriod).std = d.std := (congrArg Device.std (Device.startPeriod_only d) :)
@[simp] theorem Device.startPeriod_cnv : (d.startPeriod).cnv = d.cnv := (congrArg Device.cnv (Device.startPeriod_only d) :)
@[simp] theorem Device.startPeriod_prf : (d.startPeriod).prf = d.prf := (congrArg Device.prf (Device.startPeriod_only d) :)
@[simp] theorem Device.startPeriod_win : (d.startPeriod).win = d.win := (congrArg Device.win (Device.startPeriod_only d) :)
@[simp] theorem Device.startPeriod_brk : (d.startPeriod).brk = d.brk := (congrArg Device.brk (Device.startPeriod_only d) :)
@[simp] theorem Device.startPeriod_alm : (d.startPeriod).alm = d.alm := (congrArg Device.alm (Device.startPeriod_only d) :)
@[simp] theorem Device.startPeriod_lnk : (d.startPeriod).lnk = d.lnk := (congrArg Device.lnk (Device.startPeriod_only d) :)
theorem Device.countScan_only : d.countScan = d.setStd (d.countScan).std := rfl
@[simp] theorem Device.countScan_clk : (d.countScan).clk = d.clk := (congrArg Device.clk (Device.countScan_only d) :)
@[simp] theorem Device.countScan_timeBase : (d.countScan).timeBase = d.timeBase := (congrArg Device.timeBase (Device.countScan_only d) :)
@[simp] theorem Device.countScan_stateChanged : (d.countScan).stateChanged = d.stateChanged := (congrArg Device.stateChanged (Device.countScan_only d) :)
@[simp] theorem Device.countScan_pins : (d.countScan).pins = d.pins := (congrArg Device.pins (Device.countScan_only d) :)
@[simp] theorem Device.countScan_trv : (d.countScan).trv = d.trv := (congrArg Device.trv (Device.countScan_only d) :)
@[simp] theorem Device.countScan_acq : (d.countScan).acq = d.acq := (congrArg Device.acq (Device.countScan_only d) :)
@[simp] theorem Device.countScan_cnv : (d.countScan).cnv = d.cnv := (congrArg Device.cnv (Device.countScan_only d) :)
@[simp] theorem Device.countScan_prf : (d.countScan).prf = d.prf := (congrArg Device.prf (Device.countScan_only d) :)
@[simp] theorem Device.countScan_win : (d.countScan).win = d.win := (congrArg Device.win (Device.countScan_only d) :)
@[simp] theorem Device.countScan_brk : (d.countScan).brk = d.brk := (congrArg Device.brk (Device.countScan_only d) :)
@[simp] theorem Device.countScan_alm : (d.countScan).alm = d.alm := (congrArg Device.alm (Device.countScan_only d) :)
@[simp] theorem Device.countScan_lnk : (d.countScan).lnk = d.lnk := (congrArg Device.lnk (Device.countScan_only d) :)
theorem Device.takeNotice_only (f : Frame) : d.takeNotice f = d.setLnk (d.takeNotice f).lnk := rfl
@[simp] theorem Device.takeNotice_clk (f : Frame) : (d.takeNotice f).clk = d.clk := (congrArg Device.clk (Device.takeNotice_only d f) :)
@[simp] theorem Device.takeNotice_timeBase (f : Frame) : (d.takeNotice f).timeBase = d.timeBase := (congrArg Device.timeBase (Device.takeNotice_only d f) :)
@[simp] theorem Device.takeNotice_stateChanged (f : Frame) : (d.takeNotice f).stateChanged = d.stateChanged := (congrArg Device.stateChanged (Device.takeNotice_only d f) :)
@[simp] theorem Device.takeNotice_pins (f : Frame) : (d.takeNotice f).pins = d.pins := (congrArg Device.pins (Device.takeNotice_only d f) :)
@[simp] theorem Device.takeNotice_trv (f : Frame) : (d.takeNotice f).trv = d.trv := (congrArg Device.trv (Device.takeNotice_only d f) :)
@[simp] theorem Device.takeNotice_acq (f : Frame) : (d.takeNotice f).acq = d.acq := (congrArg Device.acq (Device.takeNotice_only d f) :)
@[simp] theorem Device.takeNotice_std (f : Frame) : (d.takeNotice f).std = d.std := (congrArg Device.std (Device.takeNotice_only d f) :)
@[simp] theorem Device.takeNotice_cnv (f : Frame) : (d.takeNotice f).cnv = d.cnv := (congrArg Device.cnv (Device.takeNotice_only d f) :)
@[simp] theorem Device.takeNotice_prf (f : Frame) : (d.takeNotice f).prf = d.prf := (congrArg Device.prf (Device.takeNotice_only d f) :)
@[simp] theorem Device.takeNotice_win (f : Frame) : (d.takeNotice f).win = d.win := (congrArg Device.win (Device.takeNotice_only d f) :)
@[simp] theorem Device.takeNotice_brk (f : Frame) : (d.takeNotice f).brk = d.brk := (congrArg Device.brk (Device.takeNotice_only d f) :)
@[simp] theorem Device.takeNotice_alm (f : Frame) : (d.takeNotice f).alm = d.alm := (congrArg Device.alm (Device.takeNotice_only d f) :)
theorem Device.placeOverflow_only : d.placeOverflow = d.setLnk (d.placeOverflow).lnk := by
  unfold Device.placeOverflow; repeat' split
  all_goals rfl
@[simp] theorem Device.placeOverflow_clk : (d.placeOverflow).clk = d.clk := (congrArg Device.clk (Device.placeOverflow_only d) :)
@[simp] theorem Device.placeOverflow_timeBase : (d.placeOverflow).timeBase = d.timeBase := (congrArg Device.timeBase (Device.placeOverflow_only d) :)
@[simp] theorem Device.placeOverflow_stateChanged : (d.placeOverflow).stateChanged = d.stateChanged := (congrArg Device.stateChanged (Device.placeOverflow_only d) :)
@[simp] theorem Device.placeOverflow_pins : (d.placeOverflow).pins = d.pins := (congrArg Device.pins (Device.placeOverflow_only d) :)
@[simp] theorem Device.placeOverflow_trv : (d.placeOverflow).trv = d.trv := (congrArg Device.trv (Device.placeOverflow_only d) :)
@[simp] theorem Device.placeOverflow_acq : (d.placeOverflow).acq = d.acq := (congrArg Device.acq (Device.placeOverflow_only d) :)
@[simp] theorem Device.placeOverflow_std : (d.placeOverflow).std = d.std := (congrArg Device.std (Device.placeOverflow_only d) :)
@[simp] theorem Device.placeOverflow_cnv : (d.placeOverflow).cnv = d.cnv := (congrArg Device.cnv (Device.placeOverflow_only d) :)
@[simp] theorem Device.placeOverflow_prf : (d.placeOverflow).prf = d.prf := (congrArg Device.prf (Device.placeOverflow_only d) :)
@[simp] theorem Device.placeOverflow_win : (d.placeOverflow).win = d.win := (congrArg Device.win (Device.placeOverflow_only d) :)
@[simp] theorem Device.placeOverflow_brk : (d.placeOverflow).brk = d.brk := (congrArg Device.brk (Device.placeOverflow_only d) :)
@[simp] theorem Device.placeOverflow_alm : (d.placeOverflow).alm = d.alm := (congrArg Device.alm (Device.placeOverflow_only d) :)
theorem Device.offer_only (f : Frame) : d.offer f = d.setLnk (d.offer f).lnk := by
  unfold Device.offer; repeat' split
  all_goals rfl
@[simp] theorem Device.offer_clk (f : Frame) : (d.offer f).clk = d.clk := (congrArg Device.clk (Device.offer_only d f) :)
@[simp] theorem Device.offer_timeBase (f : Frame) : (d.offer f).timeBase = d.timeBase := (congrArg Device.timeBase (Device.offer_only d f) :)
@[simp] theorem Device.offer_stateChanged (f : Frame) : (d.offer f).stateChanged = d.stateChanged := (congrArg Device.stateChanged (Device.offer_only d f) :)
@[simp] theorem Device.offer_pins (f : Frame) : (d.offer f).pins = d.pins := (congrArg Device.pins (Device.offer_only d f) :)
@[simp] theorem Device.offer_trv (f : Frame) : (d.offer f).trv = d.trv := (congrArg Device.trv (Device.offer_only d f) :)
@[simp] theorem Device.offer_acq (f : Frame) : (d.offer f).acq = d.acq := (congrArg Device.acq (Device.offer_only d f) :)
@[simp] theorem Device.offer_std (f : Frame) : (d.offer f).std = d.std := (congrArg Device.std (Device.offer_only d f) :)
@[simp] theorem Device.offer_cnv (f : Frame) : (d.offer f).cnv = d.cnv := (congrArg Device.cnv (Device.offer_only d f) :)
@[simp] theorem Device.offer_prf (f : Frame) : (d.offer f).prf = d.prf := (congrArg Device.prf (Device.offer_only d f) :)
@[simp] theorem Device.offer_win (f : Frame) : (d.offer f).win = d.win := (congrArg Device.win (Device.offer_only d f) :)
@[simp] theorem Device.offer_brk (f : Frame) : (d.offer f).brk = d.brk := (congrArg Device.brk (Device.offer_only d f) :)
@[simp] theorem Device.offer_alm (f : Frame) : (d.offer f).alm = d.alm := (congrArg Device.alm (Device.offer_only d f) :)
theorem Device.moveStationInput_only (n : Fin 8) (v : Bool) : d.moveStationInput n v = d.setPins (d.moveStationInput n v).pins := rfl
@[simp] theorem Device.moveStationInput_clk (n : Fin 8) (v : Bool) : (d.moveStationInput n v).clk = d.clk := (congrArg Device.clk (Device.moveStationInput_only d n v) :)
@[simp] theorem Device.moveStationInput_timeBase (n : Fin 8) (v : Bool) : (d.moveStationInput n v).timeBase = d.timeBase := (congrArg Device.timeBase (Device.moveStationInput_only d n v) :)
@[simp] theorem Device.moveStationInput_stateChanged (n : Fin 8) (v : Bool) : (d.moveStationInput n v).stateChanged = d.stateChanged := (congrArg Device.stateChanged (Device.moveStationInput_only d n v) :)
@[simp] theorem Device.moveStationInput_trv (n : Fin 8) (v : Bool) : (d.moveStationInput n v).trv = d.trv := (congrArg Device.trv (Device.moveStationInput_only d n v) :)
@[simp] theorem Device.moveStationInput_acq (n : Fin 8) (v : Bool) : (d.moveStationInput n v).acq = d.acq := (congrArg Device.acq (Device.moveStationInput_only d n v) :)
@[simp] theorem Device.moveStationInput_std (n : Fin 8) (v : Bool) : (d.moveStationInput n v).std = d.std := (congrArg Device.std (Device.moveStationInput_only d n v) :)
@[simp] theorem Device.moveStationInput_cnv (n : Fin 8) (v : Bool) : (d.moveStationInput n v).cnv = d.cnv := (congrArg Device.cnv (Device.moveStationInput_only d n v) :)
@[simp] theorem Device.moveStationInput_prf (n : Fin 8) (v : Bool) : (d.moveStationInput n v).prf = d.prf := (congrArg Device.prf (Device.moveStationInput_only d n v) :)
@[simp] theorem Device.moveStationInput_win (n : Fin 8) (v : Bool) : (d.moveStationInput n v).win = d.win := (congrArg Device.win (Device.moveStationInput_only d n v) :)
@[simp] theorem Device.moveStationInput_brk (n : Fin 8) (v : Bool) : (d.moveStationInput n v).brk = d.brk := (congrArg Device.brk (Device.moveStationInput_only d n v) :)
@[simp] theorem Device.moveStationInput_alm (n : Fin 8) (v : Bool) : (d.moveStationInput n v).alm = d.alm := (congrArg Device.alm (Device.moveStationInput_only d n v) :)
@[simp] theorem Device.moveStationInput_lnk (n : Fin 8) (v : Bool) : (d.moveStationInput n v).lnk = d.lnk := (congrArg Device.lnk (Device.moveStationInput_only d n v) :)
theorem Device.setLimit_only (s : Side) (v : Bool) : d.setLimit s v = d.setPins (d.setLimit s v).pins := by cases s <;> rfl
@[simp] theorem Device.setLimit_clk (s : Side) (v : Bool) : (d.setLimit s v).clk = d.clk := (congrArg Device.clk (Device.setLimit_only d s v) :)
@[simp] theorem Device.setLimit_timeBase (s : Side) (v : Bool) : (d.setLimit s v).timeBase = d.timeBase := (congrArg Device.timeBase (Device.setLimit_only d s v) :)
@[simp] theorem Device.setLimit_stateChanged (s : Side) (v : Bool) : (d.setLimit s v).stateChanged = d.stateChanged := (congrArg Device.stateChanged (Device.setLimit_only d s v) :)
@[simp] theorem Device.setLimit_trv (s : Side) (v : Bool) : (d.setLimit s v).trv = d.trv := (congrArg Device.trv (Device.setLimit_only d s v) :)
@[simp] theorem Device.setLimit_acq (s : Side) (v : Bool) : (d.setLimit s v).acq = d.acq := (congrArg Device.acq (Device.setLimit_only d s v) :)
@[simp] theorem Device.setLimit_std (s : Side) (v : Bool) : (d.setLimit s v).std = d.std := (congrArg Device.std (Device.setLimit_only d s v) :)
@[simp] theorem Device.setLimit_cnv (s : Side) (v : Bool) : (d.setLimit s v).cnv = d.cnv := (congrArg Device.cnv (Device.setLimit_only d s v) :)
@[simp] theorem Device.setLimit_prf (s : Side) (v : Bool) : (d.setLimit s v).prf = d.prf := (congrArg Device.prf (Device.setLimit_only d s v) :)
@[simp] theorem Device.setLimit_win (s : Side) (v : Bool) : (d.setLimit s v).win = d.win := (congrArg Device.win (Device.setLimit_only d s v) :)
@[simp] theorem Device.setLimit_brk (s : Side) (v : Bool) : (d.setLimit s v).brk = d.brk := (congrArg Device.brk (Device.setLimit_only d s v) :)
@[simp] theorem Device.setLimit_alm (s : Side) (v : Bool) : (d.setLimit s v).alm = d.alm := (congrArg Device.alm (Device.setLimit_only d s v) :)
@[simp] theorem Device.setLimit_lnk (s : Side) (v : Bool) : (d.setLimit s v).lnk = d.lnk := (congrArg Device.lnk (Device.setLimit_only d s v) :)
@[simp] theorem Device.setLimit_reset (s : Side) (v : Bool) : (d.setLimit s v).pins.reset = d.pins.reset := by cases s <;> rfl

/-! ## The arbiter's beginnings that start an examination, and two commands of the alarms and windows -/

@[simp] theorem Device.acknowledge_clk (s : Fin 24) : (d.acknowledge s).clk = d.clk := (Device.clk_of_lessAlarms (Device.acknowledge_lessAlarms d s) :)
@[simp] theorem Device.acknowledge_timeBase (s : Fin 24) : (d.acknowledge s).timeBase = d.timeBase := (Device.timeBase_of_lessAlarms (Device.acknowledge_lessAlarms d s) :)
@[simp] theorem Device.acknowledge_stateChanged (s : Fin 24) : (d.acknowledge s).stateChanged = d.stateChanged := (Device.stateChanged_of_lessAlarms (Device.acknowledge_lessAlarms d s) :)
@[simp] theorem Device.acknowledge_pins (s : Fin 24) : (d.acknowledge s).pins = d.pins := (Device.pins_of_lessAlarms (Device.acknowledge_lessAlarms d s) :)
@[simp] theorem Device.acknowledge_trv (s : Fin 24) : (d.acknowledge s).trv = d.trv := (Device.trv_of_lessAlarms (Device.acknowledge_lessAlarms d s) :)
@[simp] theorem Device.acknowledge_acq (s : Fin 24) : (d.acknowledge s).acq = d.acq := (Device.acq_of_lessAlarms (Device.acknowledge_lessAlarms d s) :)
@[simp] theorem Device.acknowledge_std (s : Fin 24) : (d.acknowledge s).std = d.std := (Device.std_of_lessAlarms (Device.acknowledge_lessAlarms d s) :)
@[simp] theorem Device.acknowledge_cnv (s : Fin 24) : (d.acknowledge s).cnv = d.cnv := (Device.cnv_of_lessAlarms (Device.acknowledge_lessAlarms d s) :)
@[simp] theorem Device.acknowledge_prf (s : Fin 24) : (d.acknowledge s).prf = d.prf := (Device.prf_of_lessAlarms (Device.acknowledge_lessAlarms d s) :)
@[simp] theorem Device.acknowledge_win (s : Fin 24) : (d.acknowledge s).win = d.win := (Device.win_of_lessAlarms (Device.acknowledge_lessAlarms d s) :)
@[simp] theorem Device.acknowledge_brk (s : Fin 24) : (d.acknowledge s).brk = d.brk := (Device.brk_of_lessAlarms (Device.acknowledge_lessAlarms d s) :)
@[simp] theorem Device.acknowledge_link (s : Fin 24) : (d.acknowledge s).lnk.link = d.lnk.link := (Device.link_of_lessAlarms (Device.acknowledge_lessAlarms d s) :)
@[simp] theorem Device.acknowledge_tx (s : Fin 24) : (d.acknowledge s).lnk.tx = d.lnk.tx := (Device.tx_of_lessAlarms (Device.acknowledge_lessAlarms d s) :)
@[simp] theorem Device.acknowledge_cmdQ (s : Fin 24) : (d.acknowledge s).lnk.cmdQ = d.lnk.cmdQ := (Device.cmdQ_of_lessAlarms (Device.acknowledge_lessAlarms d s) :)
@[simp] theorem Device.acknowledge_replyQ (s : Fin 24) : (d.acknowledge s).lnk.replyQ = d.lnk.replyQ := (Device.replyQ_of_lessAlarms (Device.acknowledge_lessAlarms d s) :)
@[simp] theorem Device.acknowledge_eventQ (s : Fin 24) : (d.acknowledge s).lnk.eventQ = d.lnk.eventQ := (Device.eventQ_of_lessAlarms (Device.acknowledge_lessAlarms d s) :)
@[simp] theorem Device.acknowledge_overflow (s : Fin 24) : (d.acknowledge s).lnk.overflow = d.lnk.overflow := (Device.overflow_of_lessAlarms (Device.acknowledge_lessAlarms d s) :)
@[simp] theorem Device.acknowledge_rdy (s : Fin 24) : (d.acknowledge s).lnk.rdy = d.lnk.rdy := (Device.rdy_of_lessAlarms (Device.acknowledge_lessAlarms d s) :)
@[simp] theorem Device.acknowledge_rx (s : Fin 24) : (d.acknowledge s).lnk.rx = d.lnk.rx := (Device.rx_of_lessAlarms (Device.acknowledge_lessAlarms d s) :)
@[simp] theorem Device.acknowledge_quality (s : Fin 24) : (d.acknowledge s).lnk.quality = d.lnk.quality := (Device.quality_of_lessAlarms (Device.acknowledge_lessAlarms d s) :)
@[simp] theorem Device.acknowledge_startedHold (s : Fin 24) : (d.acknowledge s).lnk.startedHold = d.lnk.startedHold := (Device.startedHold_of_lessAlarms (Device.acknowledge_lessAlarms d s) :)
@[simp] theorem Device.acknowledge_counts (s : Fin 24) : (d.acknowledge s).lnk.counts = d.lnk.counts := (Device.counts_of_lessAlarms (Device.acknowledge_lessAlarms d s) :)
@[simp] theorem Device.acknowledge_baud (s : Fin 24) : (d.acknowledge s).lnk.baud = d.lnk.baud := (Device.baud_of_lessAlarms (Device.acknowledge_lessAlarms d s) :)

theorem Device.beginAlarm_lessAlarms (f : Frame) : (d.beginAlarm f).lessAlarms = (d.begin f).lessAlarms := by
  unfold Device.beginAlarm; rw [Device.examine_lessAlarms]; rfl
@[simp] theorem Device.beginAlarm_clk (f : Frame) : (d.beginAlarm f).clk = d.clk := (Device.clk_of_lessAlarms (Device.beginAlarm_lessAlarms d f) :)
@[simp] theorem Device.beginAlarm_timeBase (f : Frame) : (d.beginAlarm f).timeBase = d.timeBase := (Device.timeBase_of_lessAlarms (Device.beginAlarm_lessAlarms d f) :)
@[simp] theorem Device.beginAlarm_stateChanged (f : Frame) : (d.beginAlarm f).stateChanged = d.stateChanged := (Device.stateChanged_of_lessAlarms (Device.beginAlarm_lessAlarms d f) :)
@[simp] theorem Device.beginAlarm_pins (f : Frame) : (d.beginAlarm f).pins = d.pins := (Device.pins_of_lessAlarms (Device.beginAlarm_lessAlarms d f) :)
@[simp] theorem Device.beginAlarm_trv (f : Frame) : (d.beginAlarm f).trv = d.trv := (Device.trv_of_lessAlarms (Device.beginAlarm_lessAlarms d f) :)
@[simp] theorem Device.beginAlarm_acq (f : Frame) : (d.beginAlarm f).acq = d.acq := (Device.acq_of_lessAlarms (Device.beginAlarm_lessAlarms d f) :)
@[simp] theorem Device.beginAlarm_std (f : Frame) : (d.beginAlarm f).std = d.std := (Device.std_of_lessAlarms (Device.beginAlarm_lessAlarms d f) :)
@[simp] theorem Device.beginAlarm_cnv (f : Frame) : (d.beginAlarm f).cnv = d.cnv := (Device.cnv_of_lessAlarms (Device.beginAlarm_lessAlarms d f) :)
@[simp] theorem Device.beginAlarm_prf (f : Frame) : (d.beginAlarm f).prf = d.prf := (Device.prf_of_lessAlarms (Device.beginAlarm_lessAlarms d f) :)
@[simp] theorem Device.beginAlarm_win (f : Frame) : (d.beginAlarm f).win = d.win := (Device.win_of_lessAlarms (Device.beginAlarm_lessAlarms d f) :)
@[simp] theorem Device.beginAlarm_brk (f : Frame) : (d.beginAlarm f).brk = d.brk := (Device.brk_of_lessAlarms (Device.beginAlarm_lessAlarms d f) :)

theorem Device.beginStarted_lessAlarms (f : Frame) : (d.beginStarted f).lessAlarms =
    ((d.takeNotice f).setLnk { (d.takeNotice f).lnk with startedHold := false }).lessAlarms := by
  unfold Device.beginStarted; dsimp only; rw [Device.examine_lessAlarms]; rfl
@[simp] theorem Device.beginStarted_clk (f : Frame) : (d.beginStarted f).clk = d.clk := (Device.clk_of_lessAlarms (Device.beginStarted_lessAlarms d f) :)
@[simp] theorem Device.beginStarted_timeBase (f : Frame) : (d.beginStarted f).timeBase = d.timeBase := (Device.timeBase_of_lessAlarms (Device.beginStarted_lessAlarms d f) :)
@[simp] theorem Device.beginStarted_stateChanged (f : Frame) : (d.beginStarted f).stateChanged = d.stateChanged := (Device.stateChanged_of_lessAlarms (Device.beginStarted_lessAlarms d f) :)
@[simp] theorem Device.beginStarted_pins (f : Frame) : (d.beginStarted f).pins = d.pins := (Device.pins_of_lessAlarms (Device.beginStarted_lessAlarms d f) :)
@[simp] theorem Device.beginStarted_trv (f : Frame) : (d.beginStarted f).trv = d.trv := (Device.trv_of_lessAlarms (Device.beginStarted_lessAlarms d f) :)
@[simp] theorem Device.beginStarted_acq (f : Frame) : (d.beginStarted f).acq = d.acq := (Device.acq_of_lessAlarms (Device.beginStarted_lessAlarms d f) :)
@[simp] theorem Device.beginStarted_std (f : Frame) : (d.beginStarted f).std = d.std := (Device.std_of_lessAlarms (Device.beginStarted_lessAlarms d f) :)
@[simp] theorem Device.beginStarted_cnv (f : Frame) : (d.beginStarted f).cnv = d.cnv := (Device.cnv_of_lessAlarms (Device.beginStarted_lessAlarms d f) :)
@[simp] theorem Device.beginStarted_prf (f : Frame) : (d.beginStarted f).prf = d.prf := (Device.prf_of_lessAlarms (Device.beginStarted_lessAlarms d f) :)
@[simp] theorem Device.beginStarted_win (f : Frame) : (d.beginStarted f).win = d.win := (Device.win_of_lessAlarms (Device.beginStarted_lessAlarms d f) :)
@[simp] theorem Device.beginStarted_brk (f : Frame) : (d.beginStarted f).brk = d.brk := (Device.brk_of_lessAlarms (Device.beginStarted_lessAlarms d f) :)

theorem Device.setWindow_lessAlarms (f : Frame) : (d.setWindow f).1.lessAlarms = (d.setWin (d.setWindow f).1.win).lessAlarms := by
  unfold Device.setWindow Device.setWindowAt; dsimp only; repeat' split
  all_goals rfl
@[simp] theorem Device.setWindow_clk (f : Frame) : (d.setWindow f).1.clk = d.clk := (Device.clk_of_lessAlarms (Device.setWindow_lessAlarms d f) :)
@[simp] theorem Device.setWindow_timeBase (f : Frame) : (d.setWindow f).1.timeBase = d.timeBase := (Device.timeBase_of_lessAlarms (Device.setWindow_lessAlarms d f) :)
@[simp] theorem Device.setWindow_stateChanged (f : Frame) : (d.setWindow f).1.stateChanged = d.stateChanged := (Device.stateChanged_of_lessAlarms (Device.setWindow_lessAlarms d f) :)
@[simp] theorem Device.setWindow_pins (f : Frame) : (d.setWindow f).1.pins = d.pins := (Device.pins_of_lessAlarms (Device.setWindow_lessAlarms d f) :)
@[simp] theorem Device.setWindow_trv (f : Frame) : (d.setWindow f).1.trv = d.trv := (Device.trv_of_lessAlarms (Device.setWindow_lessAlarms d f) :)
@[simp] theorem Device.setWindow_acq (f : Frame) : (d.setWindow f).1.acq = d.acq := (Device.acq_of_lessAlarms (Device.setWindow_lessAlarms d f) :)
@[simp] theorem Device.setWindow_std (f : Frame) : (d.setWindow f).1.std = d.std := (Device.std_of_lessAlarms (Device.setWindow_lessAlarms d f) :)
@[simp] theorem Device.setWindow_cnv (f : Frame) : (d.setWindow f).1.cnv = d.cnv := (Device.cnv_of_lessAlarms (Device.setWindow_lessAlarms d f) :)
@[simp] theorem Device.setWindow_prf (f : Frame) : (d.setWindow f).1.prf = d.prf := (Device.prf_of_lessAlarms (Device.setWindow_lessAlarms d f) :)
@[simp] theorem Device.setWindow_brk (f : Frame) : (d.setWindow f).1.brk = d.brk := (Device.brk_of_lessAlarms (Device.setWindow_lessAlarms d f) :)
@[simp] theorem Device.setWindow_link (f : Frame) : (d.setWindow f).1.lnk.link = d.lnk.link := (Device.link_of_lessAlarms (Device.setWindow_lessAlarms d f) :)
@[simp] theorem Device.setWindow_tx (f : Frame) : (d.setWindow f).1.lnk.tx = d.lnk.tx := (Device.tx_of_lessAlarms (Device.setWindow_lessAlarms d f) :)
@[simp] theorem Device.setWindow_cmdQ (f : Frame) : (d.setWindow f).1.lnk.cmdQ = d.lnk.cmdQ := (Device.cmdQ_of_lessAlarms (Device.setWindow_lessAlarms d f) :)
@[simp] theorem Device.setWindow_replyQ (f : Frame) : (d.setWindow f).1.lnk.replyQ = d.lnk.replyQ := (Device.replyQ_of_lessAlarms (Device.setWindow_lessAlarms d f) :)
@[simp] theorem Device.setWindow_eventQ (f : Frame) : (d.setWindow f).1.lnk.eventQ = d.lnk.eventQ := (Device.eventQ_of_lessAlarms (Device.setWindow_lessAlarms d f) :)
@[simp] theorem Device.setWindow_overflow (f : Frame) : (d.setWindow f).1.lnk.overflow = d.lnk.overflow := (Device.overflow_of_lessAlarms (Device.setWindow_lessAlarms d f) :)
@[simp] theorem Device.setWindow_rdy (f : Frame) : (d.setWindow f).1.lnk.rdy = d.lnk.rdy := (Device.rdy_of_lessAlarms (Device.setWindow_lessAlarms d f) :)
@[simp] theorem Device.setWindow_rx (f : Frame) : (d.setWindow f).1.lnk.rx = d.lnk.rx := (Device.rx_of_lessAlarms (Device.setWindow_lessAlarms d f) :)
@[simp] theorem Device.setWindow_quality (f : Frame) : (d.setWindow f).1.lnk.quality = d.lnk.quality := (Device.quality_of_lessAlarms (Device.setWindow_lessAlarms d f) :)
@[simp] theorem Device.setWindow_startedHold (f : Frame) : (d.setWindow f).1.lnk.startedHold = d.lnk.startedHold := (Device.startedHold_of_lessAlarms (Device.setWindow_lessAlarms d f) :)
@[simp] theorem Device.setWindow_counts (f : Frame) : (d.setWindow f).1.lnk.counts = d.lnk.counts := (Device.counts_of_lessAlarms (Device.setWindow_lessAlarms d f) :)
@[simp] theorem Device.setWindow_baud (f : Frame) : (d.setWindow f).1.lnk.baud = d.lnk.baud := (Device.baud_of_lessAlarms (Device.setWindow_lessAlarms d f) :)

/-! ## Starting -/

theorem Device.startUp_lessAlarms (cause : Nat) (tag : Byte) : (d.startUp cause tag).lessAlarms =
    (((d.setTimeBase d.clk).setLnk { d.lnk with eventQ := [d.started cause tag] }).setTrv
      { d.trv with mismatch := if d.shutterAgrees then none else d.after 500 }).lessAlarms := by
  have started : (d.setTimeBase d.clk).started cause tag = d.started cause tag := rfl
  unfold Device.startUp; dsimp only
  rw [started, Device.superviseShutter_lessAlarms]
  split
  · have same (e : Device) (t : Trv) : (e.riseOvertravel.setTrv t).lessAlarms = (e.setTrv t).lessAlarms :=
      (congrArg (fun x : Device => x.setTrv t) (Device.riseOvertravel_lessAlarms e) :)
    rw [same]; simp [Device.shutterAgrees, Device.after]
  · rfl

/-- The part without the Break Detector. -/
def Device.lessBreaks (d : Device) : Device := d.setBrk .reset

theorem Device.setBrk_lessBreaks (b : Brk) : (d.setBrk b).lessBreaks = d.lessBreaks := rfl

theorem Device.foldl_lessBreaks {f : Device → Fin 8 → Device} (keeps : ∀ e n, (f e n).lessBreaks = e.lessBreaks)
    (ns : List (Fin 8)) (e : Device) : (ns.foldl f e).lessBreaks = e.lessBreaks := by
  induction ns generalizing e with
  | nil => rfl
  | cons n ns ih => exact (ih _).trans (keeps e n)

theorem Device.restartBreaks_lessBreaks : d.restartBreaks.lessBreaks = d.lessBreaks := by
  unfold Device.restartBreaks; extract_lets
  rw [Device.setBrk_lessBreaks, Device.foldl_lessBreaks]
  · rfl
  · intro e n; split <;> rfl
@[simp] theorem Device.startUp_clk (cause : Nat) (tag : Byte) : (d.startUp cause tag).clk = d.clk := (Device.clk_of_lessAlarms (Device.startUp_lessAlarms d cause tag) :)
@[simp] theorem Device.startUp_stateChanged (cause : Nat) (tag : Byte) : (d.startUp cause tag).stateChanged = d.stateChanged := (Device.stateChanged_of_lessAlarms (Device.startUp_lessAlarms d cause tag) :)
@[simp] theorem Device.startUp_pins (cause : Nat) (tag : Byte) : (d.startUp cause tag).pins = d.pins := (Device.pins_of_lessAlarms (Device.startUp_lessAlarms d cause tag) :)
@[simp] theorem Device.startUp_acq (cause : Nat) (tag : Byte) : (d.startUp cause tag).acq = d.acq := (Device.acq_of_lessAlarms (Device.startUp_lessAlarms d cause tag) :)
@[simp] theorem Device.startUp_std (cause : Nat) (tag : Byte) : (d.startUp cause tag).std = d.std := (Device.std_of_lessAlarms (Device.startUp_lessAlarms d cause tag) :)
@[simp] theorem Device.startUp_cnv (cause : Nat) (tag : Byte) : (d.startUp cause tag).cnv = d.cnv := (Device.cnv_of_lessAlarms (Device.startUp_lessAlarms d cause tag) :)
@[simp] theorem Device.startUp_prf (cause : Nat) (tag : Byte) : (d.startUp cause tag).prf = d.prf := (Device.prf_of_lessAlarms (Device.startUp_lessAlarms d cause tag) :)
@[simp] theorem Device.startUp_win (cause : Nat) (tag : Byte) : (d.startUp cause tag).win = d.win := (Device.win_of_lessAlarms (Device.startUp_lessAlarms d cause tag) :)
@[simp] theorem Device.startUp_brk (cause : Nat) (tag : Byte) : (d.startUp cause tag).brk = d.brk := (Device.brk_of_lessAlarms (Device.startUp_lessAlarms d cause tag) :)
@[simp] theorem Device.startUp_link (cause : Nat) (tag : Byte) : (d.startUp cause tag).lnk.link = d.lnk.link := (Device.link_of_lessAlarms (Device.startUp_lessAlarms d cause tag) :)
@[simp] theorem Device.startUp_tx (cause : Nat) (tag : Byte) : (d.startUp cause tag).lnk.tx = d.lnk.tx := (Device.tx_of_lessAlarms (Device.startUp_lessAlarms d cause tag) :)
@[simp] theorem Device.startUp_cmdQ (cause : Nat) (tag : Byte) : (d.startUp cause tag).lnk.cmdQ = d.lnk.cmdQ := (Device.cmdQ_of_lessAlarms (Device.startUp_lessAlarms d cause tag) :)
@[simp] theorem Device.startUp_replyQ (cause : Nat) (tag : Byte) : (d.startUp cause tag).lnk.replyQ = d.lnk.replyQ := (Device.replyQ_of_lessAlarms (Device.startUp_lessAlarms d cause tag) :)
@[simp] theorem Device.startUp_overflow (cause : Nat) (tag : Byte) : (d.startUp cause tag).lnk.overflow = d.lnk.overflow := (Device.overflow_of_lessAlarms (Device.startUp_lessAlarms d cause tag) :)
@[simp] theorem Device.startUp_rdy (cause : Nat) (tag : Byte) : (d.startUp cause tag).lnk.rdy = d.lnk.rdy := (Device.rdy_of_lessAlarms (Device.startUp_lessAlarms d cause tag) :)
@[simp] theorem Device.startUp_rx (cause : Nat) (tag : Byte) : (d.startUp cause tag).lnk.rx = d.lnk.rx := (Device.rx_of_lessAlarms (Device.startUp_lessAlarms d cause tag) :)
@[simp] theorem Device.startUp_quality (cause : Nat) (tag : Byte) : (d.startUp cause tag).lnk.quality = d.lnk.quality := (Device.quality_of_lessAlarms (Device.startUp_lessAlarms d cause tag) :)
@[simp] theorem Device.startUp_startedHold (cause : Nat) (tag : Byte) : (d.startUp cause tag).lnk.startedHold = d.lnk.startedHold := (Device.startedHold_of_lessAlarms (Device.startUp_lessAlarms d cause tag) :)
@[simp] theorem Device.startUp_counts (cause : Nat) (tag : Byte) : (d.startUp cause tag).lnk.counts = d.lnk.counts := (Device.counts_of_lessAlarms (Device.startUp_lessAlarms d cause tag) :)
@[simp] theorem Device.startUp_baud (cause : Nat) (tag : Byte) : (d.startUp cause tag).lnk.baud = d.lnk.baud := (Device.baud_of_lessAlarms (Device.startUp_lessAlarms d cause tag) :)
theorem Device.clk_of_lessBreaks {d e : Device} (h : e.lessBreaks = d.lessBreaks) : e.clk = d.clk := (congrArg Device.clk h :)
theorem Device.timeBase_of_lessBreaks {d e : Device} (h : e.lessBreaks = d.lessBreaks) : e.timeBase = d.timeBase := (congrArg Device.timeBase h :)
theorem Device.stateChanged_of_lessBreaks {d e : Device} (h : e.lessBreaks = d.lessBreaks) : e.stateChanged = d.stateChanged := (congrArg Device.stateChanged h :)
theorem Device.pins_of_lessBreaks {d e : Device} (h : e.lessBreaks = d.lessBreaks) : e.pins = d.pins := (congrArg Device.pins h :)
theorem Device.trv_of_lessBreaks {d e : Device} (h : e.lessBreaks = d.lessBreaks) : e.trv = d.trv := (congrArg Device.trv h :)
theorem Device.acq_of_lessBreaks {d e : Device} (h : e.lessBreaks = d.lessBreaks) : e.acq = d.acq := (congrArg Device.acq h :)
theorem Device.std_of_lessBreaks {d e : Device} (h : e.lessBreaks = d.lessBreaks) : e.std = d.std := (congrArg Device.std h :)
theorem Device.cnv_of_lessBreaks {d e : Device} (h : e.lessBreaks = d.lessBreaks) : e.cnv = d.cnv := (congrArg Device.cnv h :)
theorem Device.prf_of_lessBreaks {d e : Device} (h : e.lessBreaks = d.lessBreaks) : e.prf = d.prf := (congrArg Device.prf h :)
theorem Device.win_of_lessBreaks {d e : Device} (h : e.lessBreaks = d.lessBreaks) : e.win = d.win := (congrArg Device.win h :)
theorem Device.alm_of_lessBreaks {d e : Device} (h : e.lessBreaks = d.lessBreaks) : e.alm = d.alm := (congrArg Device.alm h :)
theorem Device.lnk_of_lessBreaks {d e : Device} (h : e.lessBreaks = d.lessBreaks) : e.lnk = d.lnk := (congrArg Device.lnk h :)
@[simp] theorem Device.restartBreaks_clk : d.restartBreaks.clk = d.clk := Device.clk_of_lessBreaks d.restartBreaks_lessBreaks
@[simp] theorem Device.restartBreaks_timeBase : d.restartBreaks.timeBase = d.timeBase := Device.timeBase_of_lessBreaks d.restartBreaks_lessBreaks
@[simp] theorem Device.restartBreaks_stateChanged : d.restartBreaks.stateChanged = d.stateChanged := Device.stateChanged_of_lessBreaks d.restartBreaks_lessBreaks
@[simp] theorem Device.restartBreaks_pins : d.restartBreaks.pins = d.pins := Device.pins_of_lessBreaks d.restartBreaks_lessBreaks
@[simp] theorem Device.restartBreaks_trv : d.restartBreaks.trv = d.trv := Device.trv_of_lessBreaks d.restartBreaks_lessBreaks
@[simp] theorem Device.restartBreaks_acq : d.restartBreaks.acq = d.acq := Device.acq_of_lessBreaks d.restartBreaks_lessBreaks
@[simp] theorem Device.restartBreaks_std : d.restartBreaks.std = d.std := Device.std_of_lessBreaks d.restartBreaks_lessBreaks
@[simp] theorem Device.restartBreaks_cnv : d.restartBreaks.cnv = d.cnv := Device.cnv_of_lessBreaks d.restartBreaks_lessBreaks
@[simp] theorem Device.restartBreaks_prf : d.restartBreaks.prf = d.prf := Device.prf_of_lessBreaks d.restartBreaks_lessBreaks
@[simp] theorem Device.restartBreaks_win : d.restartBreaks.win = d.win := Device.win_of_lessBreaks d.restartBreaks_lessBreaks
@[simp] theorem Device.restartBreaks_alm : d.restartBreaks.alm = d.alm := Device.alm_of_lessBreaks d.restartBreaks_lessBreaks
@[simp] theorem Device.restartBreaks_lnk : d.restartBreaks.lnk = d.lnk := Device.lnk_of_lessBreaks d.restartBreaks_lessBreaks

end

end Sys2Proof.Machine
end

section
/-! PROOFS. Properties of one block: what their own block's changes keep, every elementary change keeps; two kept properties are kept
together. -/

namespace Sys2Proof.Machine

/-- Two kept properties are kept together. -/
theorem FieldKeeps.and {P Q : Device → Prop} (K : FieldKeeps P) (M : FieldKeeps Q) : FieldKeeps (fun d => P d ∧ Q d) where
  changed b h := ⟨K.changed b h.1, M.changed b h.2⟩
  trv t p0 p1 h := ⟨K.trv t p0 p1 h.1, M.trv t p0 p1 h.2⟩
  goTo st h := ⟨K.goTo st h.1, M.goTo st h.2⟩
  dropEnable h := ⟨K.dropEnable h.1, M.dropEnable h.2⟩
  raiseEnable h := ⟨K.raiseEnable h.1, M.raiseEnable h.2⟩
  ramp p0 h := ⟨K.ramp p0 h.1, M.ramp p0 h.2⟩
  stall i p0 h := ⟨K.stall i p0 h.1, M.stall i p0 h.2⟩
  plan a r n p0 h := ⟨K.plan a r n p0 h.1, M.plan a r n p0 h.2⟩
  step up x h := ⟨K.step up x h.1, M.step up x h.2⟩
  homed h := ⟨K.homed h.1, M.homed h.2⟩
  lost v h := ⟨K.lost v h.1, M.lost v h.2⟩
  frame f p0 h := ⟨K.frame f p0 h.1, M.frame f p0 h.2⟩
  feedback c h := ⟨K.feedback c h.1, M.feedback c h.2⟩
  mismatched v p0 h := ⟨K.mismatched v p0 h.1, M.mismatched v p0 h.2⟩
  limitCloses s h := ⟨K.limitCloses s h.1, M.limitCloses s h.2⟩
  limitOpens s p0 h := ⟨K.limitOpens s p0 h.1, M.limitOpens s p0 h.2⟩
  stationWire n v h := ⟨K.stationWire n v h.1, M.stationWire n v h.2⟩
  driveFaultRises v h := ⟨K.driveFaultRises v h.1, M.driveFaultRises v h.2⟩
  driveFaultFalls h := ⟨K.driveFaultFalls h.1, M.driveFaultFalls h.2⟩
  overtravel s p0 h := ⟨K.overtravel s p0 h.1, M.overtravel s p0 h.2⟩
  breakRises n v h := ⟨K.breakRises n v h.1, M.breakRises n v h.2⟩
  breakFalls n h := ⟨K.breakFalls n h.1, M.breakFalls n h.2⟩
  acq a p0 h := ⟨K.acq a p0 h.1, M.acq a p0 h.2⟩
  channels s h := ⟨K.channels s h.1, M.channels s h.2⟩
  cnv c h := ⟨K.cnv c h.1, M.cnv c h.2⟩
  prf p p0 h := ⟨K.prf p p0 h.1, M.prf p p0 h.2⟩
  window scan n h := ⟨K.window scan n h.1, M.window scan n h.2⟩
  countScan h := ⟨K.countScan h.1, M.countScan h.2⟩
  std s p0 p1 h := ⟨K.std s p0 p1 h.1, M.std s p0 p1 h.2⟩
  failStd l v p0 h := ⟨K.failStd l v p0 h.1, M.failStd l v p0 h.2⟩
  abandonStd h := ⟨K.abandonStd h.1, M.abandonStd h.2⟩
  completeStd h := ⟨K.completeStd h.1, M.completeStd h.2⟩
  brk b h := ⟨K.brk b h.1, M.brk b h.2⟩
  noticePlaced r p0 h := ⟨K.noticePlaced r p0 h.1, M.noticePlaced r p0 h.2⟩
  offer f p0 h := ⟨K.offer f p0 h.1, M.offer f p0 h.2⟩
  offerState h := ⟨K.offerState h.1, M.offerState h.2⟩
  replyBegun f h := ⟨K.replyBegun f h.1, M.replyBegun f h.2⟩
  alarmBegun f h := ⟨K.alarmBegun f h.1, M.alarmBegun f h.2⟩
  noticeTaken f h := ⟨K.noticeTaken f h.1, M.noticeTaken f h.2⟩
  startedBegun f h := ⟨K.startedBegun f h.1, M.startedBegun f h.2⟩
  begin f h := ⟨K.begin f h.1, M.begin f h.2⟩
  commandDropped p0 h := ⟨K.commandDropped p0 h.1, M.commandDropped p0 h.2⟩
  commandAppended f p0 h := ⟨K.commandAppended f p0 h.1, M.commandAppended f p0 h.2⟩
  replyPushed f p0 h := ⟨K.replyPushed f p0 h.1, M.replyPushed f p0 h.2⟩
  receiver r h := ⟨K.receiver r h.1, M.receiver r h.2⟩
  breakCounted r n h := ⟨K.breakCounted r n h.1, M.breakCounted r n h.2⟩
  overflowPlaced h := ⟨K.overflowPlaced h.1, M.overflowPlaced h.2⟩
  quality c q p0 h := ⟨K.quality c q p0 h.1, M.quality c q p0 h.2⟩
  acknowledged s p0 h := ⟨K.acknowledged s p0 h.1, M.acknowledged s p0 h.2⟩
  modeSet r l m a k h := ⟨K.modeSet r l m a k h.1, M.modeSet r l m a k h.2⟩
  setWindow f h := ⟨K.setWindow f h.1, M.setWindow f h.2⟩
  restarted tag h := ⟨K.restarted tag h.1, M.restarted tag h.2⟩

/-- The elementary changes leave the RESET pin. -/
theorem FieldKeeps.awake : FieldKeeps (fun d => d.pins.reset = false) where
  changed _ h := by simpa using h
  trv _ _ _ h := by simpa using h
  goTo _ h := by simpa using h
  dropEnable h := by simpa using h
  raiseEnable h := by simpa using h
  ramp _ h := by simpa using h
  stall _ _ h := by simpa using h
  plan _ _ _ _ h := by simpa using h
  step _ _ h := by simpa using h
  homed h := by simpa using h
  lost _ h := by simpa using h
  frame _ _ h := by simpa using h
  feedback _ h := by simpa using h
  mismatched _ _ h := by simpa using h
  limitCloses _ h := by simpa using h
  limitOpens _ _ h := keeps_ite (L := fun d => d.pins.reset = false) (fun _ => by simpa using h) (fun _ => by simpa using h)
  stationWire _ _ h := h
  driveFaultRises _ h := by simpa using h
  driveFaultFalls h := by simpa using h
  overtravel _ _ h := by simpa using h
  breakRises _ _ h := by simpa using h
  breakFalls _ h := by simpa using h
  acq _ _ h := by simpa using h
  channels _ h := by simpa using h
  cnv _ h := by simpa using h
  prf _ _ h := by simpa using h
  window _ _ h := by simpa using h
  countScan h := by simpa using h
  std _ _ _ h := by simpa using h
  failStd _ _ _ h := by simpa using h
  abandonStd h := by simpa using h
  completeStd h := by simpa using h
  brk _ h := by simpa using h
  noticePlaced _ _ h := by simpa using h
  offer _ _ h := by simpa using h
  offerState h := by simpa using h
  replyBegun _ h := by simpa using h
  alarmBegun _ h := by simpa using h
  noticeTaken _ h := by simpa using h
  startedBegun _ h := by simpa using h
  begin _ h := by simpa using h
  commandDropped _ h := by simpa using h
  commandAppended _ _ h := by simpa using h
  replyPushed _ _ h := by simpa using h
  receiver _ h := by simpa using h
  breakCounted _ _ h := by simpa using h
  overflowPlaced h := by simpa using h
  quality _ _ _ h := by simpa using h
  acknowledged _ _ h := by simpa using h
  modeSet _ _ _ _ _ h := by simpa using h
  setWindow _ h := by simpa using h
  restarted _ h := by simpa [Device.restartBlocks] using h

/-- A property of TRV is kept by each elementary change of TRV. -/
structure TrvKeeps (Q : Trv → Prop) : Prop where
  quiet {t : Trv} (t' : Trv) : t'.keyed = t.keyed → (t'.homed = true → t.homed = true) → Q t → Q t'
  entered {t : Trv} (st : TravState) (m : Timer) : Q t → Q { t with state := st, openCmd := st.opens, mismatch := m }
  dropped {d : Device} : Q d.trv → Q d.dropEnable.trv
  raised {d : Device} : Q d.trv → Q d.raiseEnable.trv
  ramped {d : Device} : d.trv.periodDue.isSome = true → Q d.trv → Q d.rampStep.startPeriod.trv
  stalled {t : Trv} (i : StallInterval) : t.stall.isSome = true → Q t → Q { t with stall := some i }
  planned {t : Trv} (a : Option ScanSettings) (r : Option EffRange) (n : Nat) :
    (t.planCount ≤ planBaseOf t.active → n ≤ planBaseOf a) → Q t → Q { t with active := a, range := r, planCount := n }
  stepped {t : Trv} (up : Bool) (x : Timer) : Q t → Q { t with counter := stepCounter up t.counter, restTimer := x }
  homed {d : Device} : Q d.trv → Q { d.trv with counter := d.frameField FrameRecord.homeOffset, faultCount := 0, homed := true }
  framed {t : Trv} (f : FrameRecord) : f.homeOffset ≤ 262143 → Q t → Q { t with frame := some f }
  mismatch {t : Trv} (m : Timer) : Q t → Q { t with mismatch := m }
  restarted {t : Trv} (m : Timer) : Q t → Q { Trv.reset with frame := t.frame, active := t.active, range := t.range, mismatch := m }

@[simp] theorem Device.superviseShutter_trv (d : Device) : d.superviseShutter.trv =
    { d.trv with mismatch := if d.shutterAgrees then none else d.after 500 } :=
  (Device.trv_of_lessAlarms d.superviseShutter_lessAlarms :)

@[simp] theorem Device.startUp_trv (d : Device) (cause : Nat) (tag : Byte) : (d.startUp cause tag).trv =
    { d.trv with mismatch := if d.shutterAgrees then none else d.after 500 } :=
  (Device.trv_of_lessAlarms (d.startUp_lessAlarms cause tag) :)

/-- TRV at RESTART (R197). -/
@[simp] theorem Device.restartBlocks_trv (d : Device) : d.restartBlocks.trv =
    { Trv.reset with frame := d.trv.frame, active := d.trv.active, range := d.trv.range } := by
  unfold Device.restartBlocks; dsimp only; rw [Device.restartBreaks_trv]

/-- What the changes of TRV keep, every elementary change keeps. -/
theorem TrvKeeps.toFieldKeeps {Q : Trv → Prop} (K : TrvKeeps Q) : FieldKeeps (fun d => Q d.trv) where
  changed _ h := by simpa using h
  trv t p q h := K.quiet t p q h
  goTo {d} st h := by
    rw [Device.goTo_trv]
    exact K.quiet (t := { d.trv with state := st, openCmd := st.opens, mismatch := d.mismatchAt st.opens }) _ rfl id (K.entered st _ h)
  dropEnable h := K.dropped h
  raiseEnable h := K.raised h
  ramp p h := K.ramped p h
  stall i p h := K.stalled i p h
  plan a r n p h := K.planned a r n p h
  step up x h := K.stepped up x h
  homed h := by rw [Device.fallIfActive_trv]; exact K.homed h
  lost {d} v h := by rw [Device.rise_trv]; exact K.quiet (t := d.trv) _ rfl (by simp) h
  frame f p h := K.framed f p h
  feedback c h := by rw [Device.superviseShutter_trv]; exact K.mismatch _ h
  mismatched v _ h := by rw [Device.rise_trv]; exact K.mismatch none h
  limitCloses _ h := by simpa using h
  limitOpens s _ h := keeps_ite (L := fun d => Q d.trv) (fun _ => by simpa using h) (fun _ => by simpa using h)
  stationWire _ _ h := by simpa using h
  driveFaultRises _ h := by simpa using h
  driveFaultFalls h := by simpa using h
  overtravel _ _ h := by simpa using h
  breakRises _ _ h := by simpa using h
  breakFalls _ h := by simpa using h
  acq _ _ h := by simpa using h
  channels _ h := by simpa using h
  cnv _ h := by simpa using h
  prf _ _ h := by simpa using h
  window _ _ h := by simpa using h
  countScan h := by simpa using h
  std _ _ _ h := by simpa using h
  failStd _ _ _ h := by simpa using h
  abandonStd h := by simpa using h
  completeStd h := by simpa using h
  brk _ h := by simpa using h
  noticePlaced _ _ h := by simpa using h
  offer _ _ h := by simpa using h
  offerState h := by simpa using h
  replyBegun _ h := by simpa using h
  alarmBegun _ h := by simpa using h
  noticeTaken _ h := by simpa using h
  startedBegun _ h := by simpa using h
  begin _ h := by simpa using h
  commandDropped _ h := by simpa using h
  commandAppended _ _ h := by simpa using h
  replyPushed _ _ h := by simpa using h
  receiver _ h := by simpa using h
  breakCounted _ _ h := by simpa using h
  overflowPlaced h := by simpa using h
  quality _ _ _ h := by simpa using h
  acknowledged _ _ h := by simpa using h
  modeSet _ _ _ _ _ h := by simpa using h
  setWindow _ h := by simpa using h
  restarted {d} tag h := by rw [Device.startUp_trv, Device.restartBlocks_trv]; exact K.restarted (t := d.trv) _ h

@[simp] theorem Device.restartBlocks_std (d : Device) : d.restartBlocks.std =
    { Std.reset with settings := d.std.settings, calRbw := d.std.calRbw, calM := d.std.calM, calD0 := d.std.calD0 } := by
  unfold Device.restartBlocks; dsimp only; rw [Device.restartBreaks_std]

/-- A property of STD is kept by each elementary change of STD. -/
structure StdKeeps (Q : Std → Prop) : Prop where
  quiet {s : Std} (s' : Std) : s'.ref = s.ref → Q s → Q s'
  counted {s : Std} : Q s → Q { s with ref := s.ref.map (fun r => { r with scansSince := sat32 (r.scansSince + 1) }) }
  completed {d : Device} : Q d.std → Q d.completeStd.std
  none {s : Std} : s.ref = none → Q s

/-- What the changes of STD keep, every elementary change keeps. -/
theorem StdKeeps.toFieldKeeps {Q : Std → Prop} (K : StdKeeps Q) : FieldKeeps (fun d => Q d.std) where
  changed _ h := by simpa using h
  trv _ _ _ h := by simpa using h
  goTo _ h := by simpa using h
  dropEnable h := by simpa using h
  raiseEnable h := by simpa using h
  ramp _ h := by simpa using h
  stall _ _ h := by simpa using h
  plan _ _ _ _ h := by simpa using h
  step _ _ h := by simpa using h
  homed h := by simpa using h
  lost _ h := by simpa using h
  frame _ _ h := by simpa using h
  feedback _ h := by simpa using h
  mismatched _ _ h := by simpa using h
  limitCloses _ h := by simpa using h
  limitOpens s _ h := keeps_ite (L := fun d => Q d.std) (fun _ => by simpa using h) (fun _ => by simpa using h)
  stationWire _ _ h := by simpa using h
  driveFaultRises _ h := by simpa using h
  driveFaultFalls h := by simpa using h
  overtravel _ _ h := by simpa using h
  breakRises _ _ h := by simpa using h
  breakFalls _ h := by simpa using h
  acq _ _ h := by simpa using h
  channels _ h := by simpa using h
  cnv _ h := by simpa using h
  prf _ _ h := by simpa using h
  window _ _ h := by simpa using h
  countScan h := K.counted h
  std s p _ h := K.quiet s p h
  failStd l v _ h := by rw [Device.failStd_std]; exact K.quiet (s := Device.std _) _ rfl h
  abandonStd {d} h := by
    unfold Device.abandonStd; split
    · exact h
    · exact K.quiet (s := d.std) _ rfl h
  completeStd h := K.completed h
  brk _ h := by simpa using h
  noticePlaced _ _ h := by simpa using h
  offer _ _ h := by simpa using h
  offerState h := by simpa using h
  replyBegun _ h := by simpa using h
  alarmBegun _ h := by simpa using h
  noticeTaken _ h := by simpa using h
  startedBegun _ h := by simpa using h
  begin _ h := by simpa using h
  commandDropped _ h := by simpa using h
  commandAppended _ _ h := by simpa using h
  replyPushed _ _ h := by simpa using h
  receiver _ h := by simpa using h
  breakCounted _ _ h := by simpa using h
  overflowPlaced h := by simpa using h
  quality _ _ _ h := by simpa using h
  acknowledged _ _ h := by simpa using h
  modeSet _ _ _ _ _ h := by simpa using h
  setWindow _ h := by simpa using h
  restarted tag h := by rw [Device.startUp_std, Device.restartBlocks_std]; exact K.none rfl

@[simp] theorem Device.restartBlocks_prf (d : Device) : d.restartBlocks.prf = Prf.reset := rfl

/-- The point ring holds at most 64 entries through every elementary change (R110). -/
theorem FieldKeeps.ring : FieldKeeps (fun d => d.prf.ring.length ≤ 64) where
  changed _ h := by simpa using h
  trv _ _ _ h := by simpa using h
  goTo _ h := by simpa using h
  dropEnable h := by simpa using h
  raiseEnable h := by simpa using h
  ramp _ h := by simpa using h
  stall _ _ h := by simpa using h
  plan _ _ _ _ h := by simpa using h
  step _ _ h := by simpa using h
  homed h := by simpa using h
  lost _ h := by simpa using h
  frame _ _ h := by simpa using h
  feedback _ h := by simpa using h
  mismatched _ _ h := by simpa using h
  limitCloses _ h := by simpa using h
  limitOpens s _ h := keeps_ite (L := fun d => d.prf.ring.length ≤ 64) (fun _ => by simpa using h) (fun _ => by simpa using h)
  stationWire _ _ h := by simpa using h
  driveFaultRises _ h := by simpa using h
  driveFaultFalls h := by simpa using h
  overtravel _ _ h := by simpa using h
  breakRises _ _ h := by simpa using h
  breakFalls _ h := by simpa using h
  acq _ _ h := by simpa using h
  channels _ h := by simpa using h
  cnv _ h := by simpa using h
  prf p q h := q.elim (fun same => same ▸ h) id
  window _ _ h := by simpa using h
  countScan h := by simpa using h
  std _ _ _ h := by simpa using h
  failStd _ _ _ h := by simpa using h
  abandonStd h := by simpa using h
  completeStd h := by simpa using h
  brk _ h := by simpa using h
  noticePlaced _ _ h := by simpa using h
  offer _ _ h := by simpa using h
  offerState h := by simpa using h
  replyBegun _ h := by simpa using h
  alarmBegun _ h := by simpa using h
  noticeTaken _ h := by simpa using h
  startedBegun _ h := by simpa using h
  begin _ h := by simpa using h
  commandDropped _ h := by simpa using h
  commandAppended _ _ h := by simpa using h
  replyPushed _ _ h := by simpa using h
  receiver _ h := by simpa using h
  breakCounted _ _ h := by simpa using h
  overflowPlaced h := by simpa using h
  quality _ _ _ h := by simpa using h
  acknowledged _ _ h := by simpa using h
  modeSet _ _ _ _ _ h := by simpa using h
  setWindow _ h := by simpa using h
  restarted tag _ := by rw [Device.startUp_prf, Device.restartBlocks_prf]; exact Nat.zero_le _

/-! ## From elementary changes to rows -/

/-- What the operations of a waking part, the wires, the clock and the resets keep, every row keeps. -/
theorem LiveKeeps.toRowKeeps {P : Device → Prop} (K : LiveKeeps (Device.Live P))
    (time : ∀ {d : Device} (t : Nat), P d → P (d.setClk t))
    (pins : ∀ {d : Device} (p : Pins), d.pins.reset = true ∧ p.reset = true ∨ p.limitTs = d.pins.limitTs ∧
      p.limitDs = d.pins.limitDs ∧ p.closed = d.pins.closed ∧ p.reset = d.pins.reset → P d → P (d.setPins p))
    (held : ∀ d : Device, P d.held) (coldStarted : ∀ (d : Device) (cause : Nat) (strap : Bool), P (d.coldStart cause strap))
    (acq : ∀ {d : Device} (a : Acq), a.flagged = d.acq.flagged → P d → P (d.setAcq a))
    (output : ∀ {d : Device}, P d → P (d.setTrv { d.trv with speedRef := false, highDue := none }))
    (lineFreed : ∀ {d : Device}, P d → P (d.setLnk { d.lnk with tx := none })) : RowKeeps P where
  live := K
  time := time
  wires p asleep still h := pins p (.inl ⟨asleep, still⟩) h
  wire p a b c e h := pins p (.inr ⟨a, b, c, e⟩) h
  held := held
  coldStarted := coldStarted
  highTimeEnded := output
  counted _ h := acq _ rfl h
  calState _ _ _ h := acq _ rfl h
  tach _ _ _ _ h := acq _ rfl h
  lineFreed := lineFreed

theorem FieldKeeps.toRowKeeps {P : Device → Prop} (K : FieldKeeps (Device.Live P)) (time : ∀ {d : Device} (t : Nat), P d → P (d.setClk t))
    (pins : ∀ {d : Device} (p : Pins), d.pins.reset = true ∧ p.reset = true ∨ p.limitTs = d.pins.limitTs ∧
      p.limitDs = d.pins.limitDs ∧ p.closed = d.pins.closed ∧ p.reset = d.pins.reset → P d → P (d.setPins p))
    (held : ∀ d : Device, P d.held) (coldStarted : ∀ (d : Device) (cause : Nat) (strap : Bool), P (d.coldStart cause strap))
    (acq : ∀ {d : Device} (a : Acq), a.flagged = d.acq.flagged → P d → P (d.setAcq a))
    (output : ∀ {d : Device}, P d → P (d.setTrv { d.trv with speedRef := false, highDue := none }))
    (lineFreed : ∀ {d : Device}, P d → P (d.setLnk { d.lnk with tx := none })) : RowKeeps P :=
  K.toLiveKeeps.toRowKeeps time pins held coldStarted acq output lineFreed

end Sys2Proof.Machine
end

section
/-! PROOFS. The shutter with the traverse state, the drive dead without ENABLE (R10, R12, R14, R17); the counts in their ranges (R4, R29,
R110); the reference set that conversion can divide by (R65 to R67). -/

namespace Sys2Proof.Machine

/-! ## TRV after a ramp step -/

/-- Stall supervision by ENABLE and a commanded speed (R14). -/
def Device.stallAt (d : Device) (c : Int) : Option StallInterval :=
  if d.trv.enable && stallSpeed c then some (d.trv.stall.getD ⟨d.trv.counter, d.clk + 500000⟩) else none

theorem Device.superviseStall_trv (d : Device) : d.superviseStall.trv = { d.trv with stall := d.stallAt d.trv.commanded } := by
  unfold Device.superviseStall Device.stallAt
  split
  · cases running : d.trv.stall with
    | none => rfl
    | some i => exact congrArg (fun x => { d.trv with stall := x }) running
  · rfl

/-- The commanded speed after a ramp step (R11): unchanged while the target lies toward a closed limit switch (log 35). -/
def Device.rampedSpeed (d : Device) : Int :=
  if d.inhibited d.stepTarget then d.trv.commanded
  else rampTo d.trv.commanded d.stepTarget (d.frameField FrameRecord.accel / 5)

theorem Device.rampStep_trv (d : Device) : d.rampStep.trv =
    { d.trv with target := d.stepTarget, commanded := d.rampedSpeed,
                 direction := if 0 < d.rampedSpeed then true else if d.rampedSpeed < 0 then false else d.trv.direction,
                 stall := d.stallAt d.rampedSpeed } := by
  unfold Device.rampStep; dsimp only; rw [Device.superviseStall_trv]; rfl

/-- A new period's times (R12). -/
theorem Device.startPeriod_trv (d : Device) : d.startPeriod.trv =
    { d.trv with highTime := 2 * min 1000 (d.trv.commanded.natAbs / 100), lowTime := 2000 - 2 * min 1000 (d.trv.commanded.natAbs / 100),
                 speedRef := decide (0 < min 1000 (d.trv.commanded.natAbs / 100)), periodDue := some (d.clk + 2000),
                 highDue := if 0 < min 1000 (d.trv.commanded.natAbs / 100) ∧ min 1000 (d.trv.commanded.natAbs / 100) < 1000
                   then some (d.clk + 2 * min 1000 (d.trv.commanded.natAbs / 100)) else none } := rfl

/-! ## TRV after every reset -/

@[simp] theorem Device.held_trv (d : Device) : d.held.trv = .reset := rfl

@[simp] theorem Device.coldStart_trv (d : Device) (cause : Nat) (strap : Bool) : (d.coldStart cause strap).trv =
    { Trv.reset with mismatch := if d.pins.closed then none else some (d.clk + 500000) } := by
  unfold Device.coldStart; rw [Device.startUp_trv]
  cases h : d.pins.closed <;> simp [Device.shutterAgrees, Device.blank, Device.after, Trv.reset, h]

@[simp] theorem Device.coldStart_std (d : Device) (cause : Nat) (strap : Bool) : (d.coldStart cause strap).std = .reset := by
  unfold Device.coldStart; rw [Device.startUp_std]; rfl

@[simp] theorem Device.coldStart_prf (d : Device) (cause : Nat) (strap : Bool) : (d.coldStart cause strap).prf = .reset := by
  unfold Device.coldStart; rw [Device.startUp_prf]; rfl

/-! ## A property of TRV through every row -/

/-- A property that TRV alone decides and that its changes keep is kept by every row. -/
theorem TrvKeeps.toRowKeeps {Q : Trv → Prop} (K : TrvKeeps Q) (reset : ∀ m : Timer, Q { Trv.reset with mismatch := m })
    (output : ∀ {t : Trv}, Q t → Q { t with speedRef := false, highDue := none }) : RowKeeps (fun d => Q d.trv) :=
  (FieldKeeps.awake.and K.toFieldKeeps).toRowKeeps (fun _ h => h) (fun _ _ h => h) (fun _ => reset none)
    (fun _ _ _ => by rw [Device.coldStart_trv]; exact reset _) (fun _ _ h => h) output (fun h => h)

section
variable {t t' : Trv} (same : t'.keyed = t.keyed)
include same
theorem Trv.keyed_state : t'.state = t.state := (congrArg Trv.state same :)
theorem Trv.keyed_openCmd : t'.openCmd = t.openCmd := (congrArg Trv.openCmd same :)
theorem Trv.keyed_enable : t'.enable = t.enable := (congrArg Trv.enable same :)
theorem Trv.keyed_commanded : t'.commanded = t.commanded := (congrArg Trv.commanded same :)
theorem Trv.keyed_speedRef : t'.speedRef = t.speedRef := (congrArg Trv.speedRef same :)
theorem Trv.keyed_periodDue : t'.periodDue = t.periodDue := (congrArg Trv.periodDue same :)
theorem Trv.keyed_highDue : t'.highDue = t.highDue := (congrArg Trv.highDue same :)
theorem Trv.keyed_stall : t'.stall = t.stall := (congrArg Trv.stall same :)
theorem Trv.keyed_counter : t'.counter = t.counter := (congrArg Trv.counter same :)
theorem Trv.keyed_frame : t'.frame = t.frame := (congrArg Trv.frame same :)
theorem Trv.keyed_active : t'.active = t.active := (congrArg Trv.active same :)
theorem Trv.keyed_planCount : t'.planCount = t.planCount := (congrArg Trv.planCount same :)
theorem Trv.keyed_mismatch : t'.mismatch = t.mismatch := (congrArg Trv.mismatch same :)
end

/-! ## The shutter (R17) -/

/-- OPEN as the traverse state has it. -/
def Trv.shutterFollows (t : Trv) : Prop := t.openCmd = t.state.opens

theorem Trv.shutterFollows_keeps : TrvKeeps Trv.shutterFollows where
  quiet _ same _ h := (Trv.keyed_openCmd same).trans (h.trans (congrArg _ (Trv.keyed_state same).symm))
  entered _ _ _ := rfl
  dropped h := by simpa [Trv.shutterFollows] using h
  raised h := by simpa [Trv.shutterFollows] using h
  ramped _ h := by rw [Device.startPeriod_trv, Device.rampStep_trv]; exact h
  stalled _ _ h := h
  planned _ _ _ _ h := h
  stepped _ _ h := h
  homed h := h
  framed _ _ h := h
  mismatch _ h := h
  restarted _ _ := rfl

/-! ## The drive (R10, R12, R14) -/

/-- The drive without ENABLE: speed zero, output low, no period and no stall interval. -/
def Trv.driveDead (t : Trv) : Prop :=
  t.enable = false → t.commanded = 0 ∧ t.speedRef = false ∧ t.periodDue = none ∧ t.highDue = none ∧ t.stall = none

/-- With a period or a stall interval in progress ENABLE is asserted. -/
theorem Trv.driveDead.enabled {t : Trv} (h : t.driveDead) (runs : t.periodDue.isSome = true ∨ t.stall.isSome = true) :
    t.enable = true := by
  by_contra low
  obtain ⟨_, _, period, _, stall⟩ := h (by simpa using low)
  simp [period, stall] at runs

theorem Trv.driveDead_keeps : TrvKeeps Trv.driveDead where
  quiet _ same _ h := by
    unfold Trv.driveDead
    rw [Trv.keyed_enable same, Trv.keyed_commanded same, Trv.keyed_speedRef same, Trv.keyed_periodDue same, Trv.keyed_highDue same,
      Trv.keyed_stall same]
    exact h
  entered _ _ h := h
  dropped {d} h _ := by
    cases on : d.trv.enable with
    | true => simp [Device.dropEnable, on]
    | false =>
      obtain ⟨_, output, period, high, stall⟩ := h on
      simp [Device.dropEnable, on, output, period, high, stall]
  raised _ low := by simp at low
  ramped due h low := by
    rw [Device.startPeriod_trv, Device.rampStep_trv] at low
    have on := h.enabled (.inl due)
    rw [show Trv.enable _ = false from low] at on
    cases on
  stalled _ runs h low := by
    have on := h.enabled (.inr runs)
    rw [show Trv.enable _ = false from low] at on
    cases on
  planned _ _ _ _ h := h
  stepped _ _ h := h
  homed h := h
  framed _ _ h := h
  mismatch _ h := h
  restarted _ _ _ := ⟨rfl, rfl, rfl, rfl, rfl⟩

/-- Settles O54: OPEN and the drive are kept by each elementary change of TRV. -/
theorem stepKeepsShutterAndDrive : Obligations.StepKeepsShutterAndDrive := by
  unfold Obligations.StepKeepsShutterAndDrive
  intro s t run
  have shutter := Trv.shutterFollows_keeps.toRowKeeps (fun _ => rfl) (fun h => h)
  have drive := Trv.driveDead_keeps.toRowKeeps (fun _ _ => ⟨rfl, rfl, rfl, rfl, rfl⟩) (fun {_} h low => by
    obtain ⟨commanded, _, period, _, stall⟩ := h low
    exact ⟨commanded, rfl, period, rfl, stall⟩)
  exact ⟨shutter.step run, drive.step run⟩

/-! ## The counts (R1, R4, R29, R110) -/

/-- TRV's counts in their ranges. -/
def Trv.countsInRange (t : Trv) : Prop :=
  t.counter ≤ 262143 ∧ (∀ f ∈ t.frame, f.homeOffset ≤ 262143) ∧ t.planCount ≤ planBaseOf t.active

theorem stepCounter_le (up : Bool) (c : Nat) : stepCounter up c ≤ 262143 := by
  unfold stepCounter; split <;> omega

theorem Device.frameField_le {d : Device} {n : Nat} {p : FrameRecord → Nat} (h : ∀ f ∈ d.trv.frame, p f ≤ n) :
    d.frameField p ≤ n := by
  unfold Device.frameField
  cases found : d.trv.frame with
  | none => exact Nat.zero_le _
  | some f => exact h f found

theorem Trv.countsInRange_keeps : TrvKeeps Trv.countsInRange where
  quiet _ same _ h := by
    unfold Trv.countsInRange
    rw [Trv.keyed_counter same, Trv.keyed_frame same, Trv.keyed_planCount same, Trv.keyed_active same]
    exact h
  entered _ _ h := h
  dropped h := by simpa [Trv.countsInRange] using h
  raised h := by simpa [Trv.countsInRange] using h
  ramped _ h := by rw [Device.startPeriod_trv, Device.rampStep_trv]; exact h
  stalled _ _ h := h
  planned _ _ _ bound h := ⟨h.1, h.2.1, bound h.2.2⟩
  stepped _ _ h := ⟨stepCounter_le _ _, h.2⟩
  homed h := ⟨Device.frameField_le h.2.1, h.2⟩
  framed f offset h := ⟨h.1, by rintro _ ⟨⟩; exact offset, h.2.2⟩
  mismatch _ h := h
  restarted _ h := ⟨Nat.zero_le _, h.2.1, Nat.zero_le _⟩

theorem Device.countsInRange_iff (d : Device) : d.countsInRange ↔ d.trv.countsInRange ∧ d.prf.ring.length ≤ 64 := by
  unfold Device.countsInRange Trv.countsInRange planBaseOf
  cases d.trv.frame <;> simp [and_assoc]

/-- Two properties that every row keeps are kept together. -/
theorem step_keeps_and {P Q : Device → Prop} (K : RowKeeps P) (M : RowKeeps Q) {s t : State} (run : step s = .next t)
    (h : P s.dev ∧ Q s.dev) : P t.dev ∧ Q t.dev := ⟨K.step run h.1, M.step run h.2⟩

/-- The point ring through every row (R110). -/
theorem ring_keeps : RowKeeps (fun d => d.prf.ring.length ≤ 64) :=
  (FieldKeeps.awake.and FieldKeeps.ring).toRowKeeps (fun _ h => h) (fun _ _ h => h) (fun _ => Nat.zero_le _)
    (fun _ _ _ => by rw [Device.coldStart_prf]; exact Nat.zero_le _) (fun _ _ h => h) (fun h => h) (fun h => h)

theorem step_keeps_countsInRange {s t : State} (run : step s = .next t) (h : s.dev.countsInRange) : t.dev.countsInRange := by
  rw [Device.countsInRange_iff] at h ⊢
  have counts := Trv.countsInRange_keeps.toRowKeeps (fun _ => ⟨Nat.zero_le _, by simp [Trv.reset], Nat.zero_le _⟩) (fun h => h)
  exact step_keeps_and counts ring_keeps run h

/-! ## The reference set (R65 to R67) -/

/-- The reference set, where there is one, can be divided by and drifted no further than the limit of its adoption. -/
def Std.referenceSound (s : Std) : Prop :=
  ∀ r ∈ s.ref, 0 < r.rBw ∧ 0 < r.m ∧ ∀ v, r.driftBw = some v ∨ r.driftM = some v ∨ r.driftD0 = some v → v ≤ r.rejectAt

/-- One item against the largest so far (R66, R70). -/
def larger (best : Option (Nat × Nat)) (e : Nat × Option Nat) : Option (Nat × Nat) :=
  match e.2, best with
  | none, b => b
  | some v, none => some (e.1, v)
  | some v, some b => if b.2 < v then some (e.1, v) else some b

@[simp] theorem larger_none (best : Option (Nat × Nat)) (i : Nat) : larger best (i, none) = best := by cases best <;> rfl
@[simp] theorem larger_first (i v : Nat) : larger none (i, some v) = some (i, v) := rfl
@[simp] theorem larger_next (b : Nat × Nat) (i v : Nat) : larger (some b) (i, some v) = if b.2 < v then some (i, v) else some b := rfl

theorem largestDrift_eq (bw m d0 : Option Nat) : largestDrift bw m d0 = larger (larger (larger none (1, bw)) (2, m)) (3, d0) := rfl

/-- What is largest so far is never lowered. -/
theorem le_larger (b : Nat × Nat) (e : Nat × Option Nat) : ∃ c, larger (some b) e = some c ∧ b.2 ≤ c.2 := by
  obtain ⟨i, _ | v⟩ := e
  · exact ⟨b, rfl, le_rfl⟩
  · rw [larger_next]; split
    · exact ⟨_, rfl, by dsimp only; omega⟩
    · exact ⟨_, rfl, le_rfl⟩

/-- An item that is present is at most the largest then. -/
theorem item_le_larger (best : Option (Nat × Nat)) (i v : Nat) : ∃ c, larger best (i, some v) = some c ∧ v ≤ c.2 := by
  cases best with
  | none => exact ⟨_, rfl, le_rfl⟩
  | some b =>
    rw [larger_next]; split
    · exact ⟨_, rfl, le_rfl⟩
    · exact ⟨_, rfl, by omega⟩

/-- Each present drift is at most the largest one (R66). -/
theorem le_largestDrift {bw m d0 : Option Nat} {v : Nat} (h : bw = some v ∨ m = some v ∨ d0 = some v) :
    ∃ e, largestDrift bw m d0 = some e ∧ v ≤ e.2 := by
  rw [largestDrift_eq]
  obtain rfl | rfl | rfl := h
  · obtain ⟨b, first, le⟩ := item_le_larger none 1 v
    obtain ⟨c, second, le'⟩ := le_larger b (2, m)
    obtain ⟨e, third, le''⟩ := le_larger c (3, d0)
    exact ⟨e, by rw [first, second, third], by omega⟩
  · obtain ⟨c, second, le⟩ := item_le_larger (larger none (1, bw)) 2 v
    obtain ⟨e, third, le'⟩ := le_larger c (3, d0)
    exact ⟨e, by rw [second, third], by omega⟩
  · exact item_le_larger _ 3 v

/-- A collection that is adopted drifted no further than the reject limit (R66, R67). -/
theorem Std.drift_le_reject {s : Std} (passes : s.mask = 0) (adopted : s.verdict ≠ .drift) {v : Nat}
    (h : s.drifts.bw = some v ∨ s.drifts.m = some v ∨ s.drifts.d0 = some v) : v ≤ s.snapshot.reject := by
  obtain ⟨e, largest, le⟩ := le_largestDrift h
  refine le.trans ?_
  by_contra above
  refine adopted ?_
  unfold Std.verdict
  rw [if_neg (not_not.mpr passes), show s.drifts.largest = some e from largest]
  exact if_pos (by omega)

/-- A collection that passes the channel check gives a set that conversion can divide by (R65). -/
theorem Std.candidates_of_mask {s : Std} (passes : s.mask = 0) : 0 < s.sums.candidates.rBw ∧ 0 < s.sums.candidates.m.getD 0 := by
  unfold Std.mask channelMask at passes
  constructor
  · by_contra zero
    rw [if_pos (.inl (by omega))] at passes
    omega
  · cases found : s.sums.candidates.m with
    | none => simp [found] at passes
    | some m =>
      by_contra zero
      have : m = 0 := by simpa using zero
      simp [found, this] at passes

theorem Device.completeStd_of_channel {d : Device} (h : d.std.verdict = .channel) :
    d.completeStd = d.failStd (d.std.lastOf d.now ⟨none, none, none⟩) d.std.mask := if_pos h

theorem Device.completeStd_of_drift {d : Device} (h : d.std.verdict = .drift) :
    d.completeStd = d.failStd (d.std.lastOf d.now d.std.drifts) (sat16 ((d.std.drifts.largest.map Prod.snd).getD 0)) := by
  unfold Device.completeStd; dsimp only
  rw [if_neg (by rw [h]; decide), if_pos h]

theorem Device.completeStd_of_adopted {d : Device} (channel : d.std.verdict ≠ .channel) (drift : d.std.verdict ≠ .drift) :
    d.completeStd = d.adopt (adoptedRef d.std.sums.candidates d.now d.std.snapshot.reject d.std.drifts.bw d.std.drifts.m d.std.drifts.d0)
      (d.std.lastOf d.now d.std.drifts) d.std.drifts.largest := by
  unfold Device.completeStd; dsimp only
  rw [if_neg channel, if_neg drift]

/-- A completed collection keeps the old set or adopts a sound one. -/
theorem Device.completeStd_referenceSound {d : Device} (h : d.std.referenceSound) : d.completeStd.std.referenceSound := by
  by_cases channel : d.std.verdict = .channel
  · rw [Device.completeStd_of_channel channel, Device.failStd_std]; exact h
  by_cases drift : d.std.verdict = .drift
  · rw [Device.completeStd_of_drift drift, Device.failStd_std]; exact h
  rw [Device.completeStd_of_adopted channel drift, Device.adopt_std]
  have passes : d.std.mask = 0 := by
    by_contra fails
    exact channel (if_pos fails)
  intro r found
  obtain rfl : adoptedRef d.std.sums.candidates d.now d.std.snapshot.reject d.std.drifts.bw d.std.drifts.m d.std.drifts.d0 = r :=
    Option.some.inj found
  obtain ⟨rate, ratio⟩ := Std.candidates_of_mask passes
  refine ⟨rate, ratio, fun v recorded => ?_⟩
  obtain ⟨w, present, rfl⟩ : ∃ w, (d.std.drifts.bw = some w ∨ d.std.drifts.m = some w ∨ d.std.drifts.d0 = some w) ∧ sat16 w = v := by
    simp only [adoptedRef, Option.map_eq_some_iff] at recorded
    obtain ⟨w, h, e⟩ | ⟨w, h, e⟩ | ⟨w, h, e⟩ := recorded
    exacts [⟨w, .inl h, e⟩, ⟨w, .inr (.inl h), e⟩, ⟨w, .inr (.inr h), e⟩]
  exact (min_le_left w _).trans (Std.drift_le_reject passes drift present)

theorem Std.referenceSound_keeps : StdKeeps Std.referenceSound where
  quiet _ same h := by unfold Std.referenceSound; rw [same]; exact h
  counted {s} h r found := by
    obtain ⟨q, ref, rfl⟩ : ∃ q, s.ref = some q ∧ { q with scansSince := sat32 (q.scansSince + 1) } = r := by simpa using found
    exact h q ref
  completed h := Device.completeStd_referenceSound h
  none empty r found := by rw [empty] at found; cases found

theorem step_keeps_referenceSound {s t : State} (run : step s = .next t) (h : s.dev.referenceSound) : t.dev.referenceSound := by
  have keeps : RowKeeps (fun d => d.std.referenceSound) :=
    (FieldKeeps.awake.and Std.referenceSound_keeps.toFieldKeeps).toRowKeeps (fun _ h => h) (fun _ _ h => h)
      (fun _ => Std.referenceSound_keeps.none rfl)
      (fun _ _ _ => by rw [Device.coldStart_std]; exact Std.referenceSound_keeps.none rfl) (fun _ _ h => h) (fun h => h) (fun h => h)
  exact keeps.step run h

end Sys2Proof.Machine
end

section
/-! PROOFS. The Alarm Controller: entries, candidates, examinations, rises and falls (R153 to R171). -/

namespace Sys2Proof.Machine

/-! ## Entries -/

section
variable (d : Device) (s t : Fin 24)

theorem Device.setEntry_entry (e : AlarmEntry) : (d.setEntry s e).entry t = if t = s then e else d.entry t := by
  simp only [Device.entry, Device.setEntry, Alm.entry, Device.setAlm, Fin.getElem_fin, Vector.getElem_set, Fin.ext_iff, eq_comm]

@[simp] theorem Device.setEntry_entry_self (e : AlarmEntry) : (d.setEntry s e).entry s = e := by simp [Device.setEntry_entry]

theorem Device.setEntry_entry_of_ne {s t : Fin 24} (h : t ≠ s) (e : AlarmEntry) : (d.setEntry s e).entry t = d.entry t := by
  simp [Device.setEntry_entry, h]

@[simp] theorem Device.setEntry_rotating (e : AlarmEntry) : (d.setEntry s e).alm.rotating = d.alm.rotating := rfl
@[simp] theorem Device.setEntry_autoAck (e : AlarmEntry) : (d.setEntry s e).alm.autoAck = d.alm.autoAck := rfl

theorem Device.entry_congr {d e : Device} (h : e.alm = d.alm) : e.entry t = d.entry t := by simp [Device.entry, h]

theorem Device.cond_congr {d e : Device} (h : e.alm = d.alm) : e.cond t = d.cond t := by simp [Device.cond, Device.entry, h]
end

/-! ## Ranks (R157) -/

theorem Alm.rank_atRank (a : Alm) (r : Fin 24) : a.rank (a.atRank r) = r := by
  unfold Alm.rank Alm.atRank
  simp only [Fin.ext_iff, Fin.sub_def, Fin.add_def]
  omega

theorem Alm.atRank_rank (a : Alm) (s : Fin 24) : a.atRank (a.rank s) = s := by
  unfold Alm.rank Alm.atRank
  simp only [Fin.ext_iff, Fin.sub_def, Fin.add_def]
  omega

theorem Alm.rank_val (a : Alm) (s : Fin 24) : (a.rank s).val = (s.val + 24 - a.lowest.val + 23) % 24 := by
  unfold Alm.rank
  simp only [Fin.sub_def]
  omega

/-- The first source in a sorted list that meets a test is the smallest. -/
theorem find?_sorted {q : Fin 24 → Bool} {l : List (Fin 24)} (sorted : l.Pairwise (· < ·)) (r : Fin 24) :
    l.find? q = some r ↔ r ∈ l ∧ q r = true ∧ ∀ x ∈ l, q x = true → r ≤ x := by
  induction l with
  | nil => simp
  | cons a l ih =>
    obtain ⟨first, rest⟩ := List.pairwise_cons.mp sorted
    by_cases hit : q a = true
    · rw [List.find?_cons_of_pos hit, Option.some.injEq]
      constructor
      · rintro rfl
        exact ⟨List.mem_cons_self, hit, fun x mem _ => (List.mem_cons.mp mem).elim (fun e => e ▸ le_rfl) (fun m => (first x m).le)⟩
      · rintro ⟨mem, _, least⟩
        rcases List.mem_cons.mp mem with rfl | mem
        · rfl
        · exact absurd (least a List.mem_cons_self hit) (not_le.mpr (first r mem))
    · rw [List.find?_cons_of_neg hit, ih rest]
      constructor
      · rintro ⟨mem, good, least⟩
        exact ⟨List.mem_cons_of_mem _ mem, good, fun x m g => (List.mem_cons.mp m).elim (fun e => absurd (e ▸ g) hit) (least x · g)⟩
      · rintro ⟨mem, good, least⟩
        refine ⟨(List.mem_cons.mp mem).elim (fun e => absurd (e ▸ good) hit) id, good, fun x m g => least x (List.mem_cons_of_mem _ m) g⟩

theorem allSources_sorted : allSources.Pairwise (· < ·) := by decide

theorem mem_allSources (s : Fin 24) : s ∈ allSources := by revert s; decide

/-- The source of highest priority that meets a test (R157). -/
theorem Alm.find?_order (a : Alm) (p : Fin 24 → Bool) (s : Fin 24) :
    a.order.find? p = some s ↔ p s = true ∧ ∀ b, p b = true → a.rank s ≤ a.rank b := by
  have turn : a.order.find? p = some s ↔ allSources.find? (p ∘ a.atRank) = some (a.rank s) := by
    unfold Alm.order
    rw [List.find?_map]
    constructor
    · intro h
      obtain ⟨r, found, rfl⟩ := Option.map_eq_some_iff.mp h
      rw [found, Alm.rank_atRank]
    · intro h
      rw [h, Option.map_some, Alm.atRank_rank]
  rw [turn, find?_sorted allSources_sorted]
  simp only [mem_allSources, true_and, Function.comp, Alm.atRank_rank, forall_const]
  refine and_congr_right fun _ => ⟨fun least b hit => least _ (by rwa [Alm.atRank_rank]), fun least x hit => ?_⟩
  simpa [Alm.rank_atRank] using least _ hit

theorem Alm.candidate_iff (a : Alm) (s : Fin 24) : a.candidate = some s ↔
    (a.entry s).state = .requested ∧ a.masked s = false ∧
      ∀ b, (a.entry b).state = .requested → a.masked b = false → a.rank s ≤ a.rank b := by
  unfold Alm.candidate
  simp [Alm.find?_order, and_assoc]

theorem Alm.topInService_iff (a : Alm) (s : Fin 24) : a.topInService = some s ↔
    (a.entry s).state = .inService ∧ ∀ b, (a.entry b).state = .inService → a.rank s ≤ a.rank b := by
  unfold Alm.topInService
  simp [Alm.find?_order]

theorem Alm.topInService_none (a : Alm) : a.topInService = none ↔ ∀ b, (a.entry b).state ≠ .inService := by
  unfold Alm.topInService
  rw [List.find?_eq_none]
  constructor
  · intro h b serving
    exact h b (List.mem_map.mpr ⟨a.rank b, mem_allSources _, a.atRank_rank b⟩) (decide_eq_true serving)
  · intro h b _ serving
    exact h b (of_decide_eq_true serving)

/-- The candidate's test (R161, R162). -/
theorem Alm.passes_iff (a : Alm) (s : Fin 24) : a.passes s = true ↔
    a.specialMask = true ∨ ∀ b, (a.entry b).state = .inService → a.rank s < a.rank b := by
  unfold Alm.passes Alm.outranksService
  rw [Bool.or_eq_true]
  refine or_congr_right ?_
  cases top : a.topInService with
  | none => simpa using fun b serving => absurd serving ((a.topInService_none).mp top b)
  | some t =>
    obtain ⟨serving, least⟩ := (a.topInService_iff t).mp top
    simp only [decide_eq_true_eq]
    exact ⟨fun lt b h => lt.trans_le (least b h), fun h => h t serving⟩

/-! ## Placements (R159, R160, R164) -/

/-- The candidate's entry after its placement: in service, or past it with auto-acknowledge on (R160, R164). -/
def Alm.placedState (a : Alm) (s : Fin 24) : AlarmState :=
  if a.autoAck then (if (a.entry s).live then .standing else .idle) else .inService

/-- An acknowledged entry leaves service, and in rotating mode its source becomes L (R158, R166). -/
theorem Device.acknowledge_eq (d : Device) (s : Fin 24) : d.acknowledge s = d.setAlm { d.alm with
    entries := d.alm.entries.set s { d.entry s with state := if (d.entry s).live then .standing else .idle },
    lowest := if d.alm.rotating then s else d.alm.lowest } := by
  unfold Device.acknowledge; dsimp only
  rw [Device.setEntry_rotating]
  by_cases rotates : d.alm.rotating = true
  · rw [if_pos rotates, if_pos rotates]; rfl
  · rw [if_neg rotates, if_neg rotates]; rfl

theorem Device.placeAlarm_eq (d : Device) (s : Fin 24) : d.placeAlarm s =
    (d.setLnk { d.lnk with alarmQ := d.lnk.alarmQ ++ [d.alm.notice s] }).setAlm { d.alm with
      entries := d.alm.entries.set s { d.entry s with state := d.alm.placedState s },
      lowest := if d.alm.autoAck && d.alm.rotating then s else d.alm.lowest } := by
  unfold Device.placeAlarm Alm.placedState; dsimp only
  rw [Device.setEntry_autoAck, Device.acknowledge_eq, Device.setEntry_entry_self]
  cases auto : d.alm.autoAck with
  | false => simp [auto, Device.setEntry]; rfl
  | true =>
    simp only [auto, Device.setEntry, Device.setAlm, Device.setLnk, Vector.set_set, Bool.true_and, if_true]
    rfl

theorem Device.placeAlarm_entry (d : Device) (s b : Fin 24) :
    (d.placeAlarm s).entry b = if b = s then { d.entry s with state := d.alm.placedState s } else d.entry b := by
  rw [Device.placeAlarm_eq]
  exact Device.setEntry_entry d s b _

/-! ## Examinations (R160, R171) -/

/-- What each placement of an examination keeps, the examination keeps. -/
theorem Device.examineLoop_induction {P : Device → Prop} {d : Device} (k : Nat) (start : P d)
    (placed : ∀ e s, P e → e.alm.candidate = some s → e.alm.passes s = true → e.lnk.alarmQ.length < 8 → P (e.placeAlarm s)) :
    P (d.examineLoop k) := by
  induction k generalizing d with
  | zero => exact start
  | succ k ih =>
    unfold Device.examineLoop
    split
    · exact start
    · rename_i s chosen
      split
      · rename_i fits
        exact ih (placed d s start chosen fits.1 fits.2)
      · exact start

theorem Device.examine_induction {P : Device → Prop} {d : Device} (start : P d)
    (placed : ∀ e s, P e → e.alm.candidate = some s → e.alm.passes s = true → e.lnk.alarmQ.length < 8 → P (e.placeAlarm s)) :
    P d.examine := by
  unfold Device.examine; split
  · exact start
  · exact Device.examineLoop_induction 8 start placed

theorem Device.examine_of_hold {d : Device} (h : d.alm.hold = true) : d.examine = d := if_pos h

/-- Nothing is placed with no candidate, with one that is held back, or with a full queue. -/
theorem Device.examineLoop_of_served {d : Device} (h : ∀ s, d.alm.candidate = some s → d.alm.passes s = false ∨ 8 ≤ d.lnk.alarmQ.length)
    (k : Nat) : d.examineLoop k = d := by
  cases k with
  | zero => rfl
  | succ k =>
    unfold Device.examineLoop; split
    · rfl
    · rename_i s chosen
      rw [if_neg]
      rintro ⟨passes, room⟩
      rcases h s chosen with held | full
      · rw [held] at passes; cases passes
      · omega

theorem Device.examine_of_served {d : Device} (h : d.alarmsServed) : d.examine = d := by
  by_cases held : d.alm.hold = true
  · exact Device.examine_of_hold held
  · unfold Device.examine
    rw [if_neg held]
    exact Device.examineLoop_of_served (fun s chosen => (h s chosen).resolve_left held) 8

theorem Device.placeAlarm_alarmQ (d : Device) (s : Fin 24) : (d.placeAlarm s).lnk.alarmQ = d.lnk.alarmQ ++ [d.alm.notice s] := by
  rw [Device.placeAlarm_eq]; rfl

@[simp] theorem Device.placeAlarm_hold (d : Device) (s : Fin 24) : (d.placeAlarm s).alm.hold = d.alm.hold := by
  rw [Device.placeAlarm_eq]; rfl

/-- As many choices as the queue has places serve every deliverable request. -/
theorem Device.examineLoop_served {k : Nat} {d : Device} (room : 8 ≤ k + d.lnk.alarmQ.length) : (d.examineLoop k).alarmsServed := by
  induction k generalizing d with
  | zero => exact fun _ _ => .inr (.inr (by simpa [Device.examineLoop] using room))
  | succ k ih =>
    unfold Device.examineLoop; split
    · rename_i none
      intro s chosen
      rw [none] at chosen; cases chosen
    · rename_i s chosen
      split
      · refine ih ?_
        rw [Device.placeAlarm_alarmQ, List.length_append, List.length_singleton]
        omega
      · rename_i stays
        intro t other
        obtain rfl : s = t := Option.some.inj (chosen.symm.trans other)
        rw [not_and_or, Bool.not_eq_true, not_lt] at stays
        exact .inr stays

/-- After an examination no deliverable request waits (R160). -/
theorem Device.examine_served (d : Device) : d.examine.alarmsServed := by
  unfold Device.examine; split
  · rename_i held
    exact fun _ _ => .inl held
  · exact Device.examineLoop_served (Nat.le_add_right _ _)

/-- A choice more than the queue has places makes no difference. -/
theorem Device.examineLoop_succ {k : Nat} {d : Device} (room : 8 ≤ k + d.lnk.alarmQ.length) : d.examineLoop (k + 1) = d.examineLoop k := by
  induction k generalizing d with
  | zero => exact Device.examineLoop_of_served (fun _ _ => .inr (by omega)) _
  | succ k ih =>
    rw [Device.examineLoop, Device.examineLoop]; split
    · rfl
    · split
      · refine ih ?_
        rw [Device.placeAlarm_alarmQ, List.length_append, List.length_singleton]
        omega
      · rfl

/-- An examination goes on after its first placement (R160). -/
theorem Device.examine_of_placed {d : Device} {s : Fin 24} (free : d.alm.hold = false) (chosen : d.alm.candidate = some s)
    (passes : d.alm.passes s = true) (room : d.lnk.alarmQ.length < 8) : d.examine = (d.placeAlarm s).examine := by
  unfold Device.examine
  rw [Device.placeAlarm_hold, if_neg (by simp [free]), if_neg (by simp [free]), Device.examineLoop_succ (k := 7) (d := d.placeAlarm s)]
  · rw [Device.examineLoop, chosen]
    exact if_pos ⟨passes, room⟩
  · rw [Device.placeAlarm_alarmQ, List.length_append, List.length_singleton]
    omega

/-- An entry but for its state: the live condition, the repeats, the times and the value. -/
def AlarmEntry.content (e : AlarmEntry) : AlarmEntry := { e with state := .idle }

/-- An examination changes states of entries alone. -/
theorem Device.examine_content (d : Device) (b : Fin 24) : (d.examine.entry b).content = (d.entry b).content := by
  refine Device.examine_induction (P := fun e => (e.entry b).content = (d.entry b).content) rfl fun e s kept _ _ _ => ?_
  rw [Device.placeAlarm_entry]
  split
  · rename_i same
    subst same
    exact kept
  · exact kept

section
variable (d : Device) (s t : Fin 24) (v : Nat)

@[simp] theorem Device.examine_cond : d.examine.cond t = d.cond t := (congrArg AlarmEntry.live (d.examine_content t) :)
theorem Device.examine_value : (d.examine.entry t).value = (d.entry t).value := (congrArg AlarmEntry.value (d.examine_content t) :)
theorem Device.examine_repeats : (d.examine.entry t).repeats = (d.entry t).repeats :=
  (congrArg AlarmEntry.repeats (d.examine_content t) :)
theorem Device.examine_first : (d.examine.entry t).first = (d.entry t).first := (congrArg AlarmEntry.first (d.examine_content t) :)
theorem Device.examine_last : (d.examine.entry t).last = (d.entry t).last := (congrArg AlarmEntry.last (d.examine_content t) :)

/-! ## Rises and falls (R153 to R155) -/

/-- A rise but for the states of entries. -/
theorem Device.rise_content : ((d.rise s v).entry t).content =
    if t = s then ((d.entry s).afterRise d.now v).content else (d.entry t).content := by
  unfold Device.rise
  rw [Device.examine_content, Device.setEntry_entry]
  split <;> rfl

@[simp] theorem AlarmEntry.afterRise_live (e : AlarmEntry) (now v : Nat) : (e.afterRise now v).live = true := by
  unfold AlarmEntry.afterRise; split <;> rfl

@[simp] theorem Device.rise_cond_self : (d.rise s v).cond s = true := by
  refine (congrArg AlarmEntry.live (d.rise_content s s v) :).trans ?_
  rw [if_pos rfl]
  exact AlarmEntry.afterRise_live _ _ _

variable {s t}

theorem Device.rise_content_of_ne (h : t ≠ s) : ((d.rise s v).entry t).content = (d.entry t).content :=
  (d.rise_content s t v).trans (if_neg h)

theorem Device.rise_cond_of_ne (h : t ≠ s) : (d.rise s v).cond t = d.cond t :=
  (congrArg AlarmEntry.live (d.rise_content_of_ne v h) :)

theorem Device.fall_entry_of_ne (h : t ≠ s) : (d.fall s).entry t = d.entry t := Device.setEntry_entry_of_ne d h _

theorem Device.fallIfActive_entry_of_ne (h : t ≠ s) : (d.fallIfActive s).entry t = d.entry t := by
  unfold Device.fallIfActive; split
  · exact Device.fall_entry_of_ne d h
  · rfl

theorem Device.fallIfActive_cond_of_ne (h : t ≠ s) : (d.fallIfActive s).cond t = d.cond t := by
  simp [Device.cond, Device.fallIfActive_entry_of_ne d h]

variable (s)
theorem Device.fall_entry_self : (d.fall s).entry s = (d.entry s).afterFall := Device.setEntry_entry_self d s _

@[simp] theorem Device.fall_cond_self : (d.fall s).cond s = false := by
  simp [Device.cond, Device.fall_entry_self, AlarmEntry.afterFall]

@[simp] theorem Device.fallIfActive_cond_self : (d.fallIfActive s).cond s = false := by
  unfold Device.fallIfActive; split
  · exact Device.fall_cond_self d s
  · rename_i inactive
    exact Bool.eq_false_of_not_eq_true inactive
end

/-! ## The sources are told apart (09 section 9.1) -/

theorem srcBreak_inj {n m : Fin 8} : srcBreak n = srcBreak m ↔ n = m := by simp [srcBreak, Fin.ext_iff]
theorem srcWindow_inj {n m : Fin 8} : srcWindow n = srcWindow m ↔ n = m := by simp [srcWindow, Fin.ext_iff]

/-- A source that is neither a station's nor a window's. -/
def single : List (Fin 24) :=
  [srcPositionLost, srcOvertravel, srcDriveFault, srcShutter, srcStdFail, srcStdDrift, srcChannelFault, srcLinkDegraded]

theorem srcBreak_ne_srcWindow (n m : Fin 8) : srcBreak n ≠ srcWindow m := by revert n m; decide
theorem srcBreak_ne_single (n : Fin 8) : ∀ s ∈ single, srcBreak n ≠ s := by revert n; decide
theorem srcWindow_ne_single (n : Fin 8) : ∀ s ∈ single, srcWindow n ≠ s := by revert n; decide

/-! ## The notice and the whole of latching -/

theorem Alm.notice_eq (a : Alm) (s : Fin 24) : a.notice s =
    ⟨0xC4, 0, [BitVec.ofNat 8 s.val, (if (a.entry s).live then 1 else 0) + (if a.autoAck then 2 else 0)] ++
      beBytes 2 (a.entry s).repeats ++ beBytes 4 ((a.entry s).value.getD 4294967295) ++
      beBytes 4 ((a.entry s).first.getD 4294967295)⟩ := by
  have flags : ∀ x y : Bool, (boolByte x ||| (if y then 2 else 0) : Byte) = (if x then 1 else 0) + (if y then 2 else 0) := by decide
  unfold Alm.notice
  dsimp only
  rw [flags]
  rfl

/-- With auto-acknowledge off an examination leaves every entry that is no candidate as it is. -/
theorem Device.examine_entry_of_no_candidate (d : Device) (b : Fin 24) (manual : d.alm.autoAck = false)
    (out : (d.entry b).state ≠ .requested ∨ d.alm.masked b = true) : d.examine.entry b = d.entry b := by
  have kept : d.examine.entry b = d.entry b ∧ d.examine.alm.autoAck = false ∧ d.examine.alm.masked b = d.alm.masked b := by
    refine Device.examine_induction (P := fun e => e.entry b = d.entry b ∧ e.alm.autoAck = false ∧ e.alm.masked b = d.alm.masked b)
      ⟨rfl, manual, rfl⟩ fun e s kept chosen _ _ => ?_
    obtain ⟨same, auto, mask⟩ := kept
    obtain ⟨requested, unmasked, _⟩ := (e.alm.candidate_iff s).mp chosen
    have other : b ≠ s := by
      rintro rfl
      rcases out with idle | masked
      · exact idle (same ▸ requested)
      · rw [mask, masked] at unmasked; cases unmasked
    refine ⟨?_, by rw [Device.placeAlarm_eq]; exact auto, by rw [Device.placeAlarm_eq]; exact mask⟩
    rw [Device.placeAlarm_entry, if_neg other, same]
  exact kept.1

/-- An IDLE entry that rises is requested, in service, or acknowledged already. -/
theorem Device.rise_state_of_idle (d : Device) (a : Fin 24) (v : Nat) (idle : (d.entry a).state = .idle) :
    ((d.rise a v).entry a).state = .requested ∨ ((d.rise a v).entry a).state = .inService ∨
      ((d.rise a v).entry a).state = .standing := by
  have live : ((d.rise a v).entry a).live = true ∧ (((d.rise a v).entry a).state = .requested ∨
      ((d.rise a v).entry a).state = .inService ∨ ((d.rise a v).entry a).state = .standing) := by
    refine Device.examine_induction (P := fun e => (e.entry a).live = true ∧ ((e.entry a).state = .requested ∨
      (e.entry a).state = .inService ∨ (e.entry a).state = .standing)) ?_ fun e s kept _ _ _ => ?_
    · rw [Device.setEntry_entry_self, AlarmEntry.afterRise, if_pos idle]
      exact ⟨rfl, .inl rfl⟩
    · rw [Device.placeAlarm_entry]
      by_cases same : a = s
      · subst same
        rw [if_pos rfl]
        refine ⟨kept.1, ?_⟩
        unfold Alm.placedState
        rw [show (e.alm.entry a).live = true from kept.1]
        cases e.alm.autoAck <;> simp
      · rw [if_neg same]; exact kept
  exact live.2

/-- The content of an entry that rose. -/
theorem Device.rise_content_self (d : Device) (a : Fin 24) (v : Nat) :
    ((d.rise a v).entry a).content = ((d.entry a).afterRise d.now v).content := (d.rise_content a a v).trans (if_pos rfl)

theorem Alm.masked_eq_false (a : Alm) (s : Fin 24) : a.masked s = false ↔ a.mask.getLsbD s.val = false := Iff.rfl

/-- Settles O51: each clause is a rule of entries, candidates or examinations. -/
theorem alarmsLatch : Obligations.AlarmsLatch := by
  unfold Obligations.AlarmsLatch
  intro d a v e up down rank notice placed
  have content : up.content = (e.afterRise d.now v).content := d.rise_content_self a v
  have ranks : ∀ b c : Fin 24, d.alm.rank b ≤ d.alm.rank c ↔ rank b ≤ rank c := fun b c => by
    rw [Fin.le_def, Alm.rank_val, Alm.rank_val]
  have ranks_lt : ∀ b c : Fin 24, d.alm.rank b < d.alm.rank c ↔ rank b < rank c := fun b c => by
    rw [Fin.lt_def, Alm.rank_val, Alm.rank_val]
  refine ⟨fun idle => ?_, fun latched => ?_, fun held => ⟨?_, ?_, Device.examine_of_hold held⟩,
    ⟨Device.fall_entry_self d a, rfl, fun b other => Device.fall_entry_of_ne d other⟩, ?_, ?_, fun free chosen passes room => ?_,
    fun out => Device.examine_of_served fun s chosen => ?_, Device.examine_served d,
    fun b out manual => Device.examine_entry_of_no_candidate d b manual (.inl out),
    fun b masked manual => Device.examine_entry_of_no_candidate d b manual (.inr masked)⟩
  · rw [AlarmEntry.afterRise, if_pos idle] at content
    exact ⟨(congrArg AlarmEntry.live content :), (congrArg AlarmEntry.repeats content :), (congrArg AlarmEntry.value content :),
      (congrArg AlarmEntry.first content :), (congrArg AlarmEntry.last content :), d.rise_state_of_idle a v idle⟩
  · rw [AlarmEntry.afterRise, if_neg latched] at content
    exact ⟨(congrArg AlarmEntry.live content :), (congrArg AlarmEntry.repeats content :), (congrArg AlarmEntry.value content :),
      (congrArg AlarmEntry.first content :), (congrArg AlarmEntry.last content :)⟩
  · have same : up = e.afterRise d.now v :=
      (congrArg (Device.entry · a) (Device.examine_of_hold (d := d.setEntry a _) held)).trans (Device.setEntry_entry_self d a _)
    rw [same]
    unfold AlarmEntry.afterRise
    split <;> rfl
  · exact (congrArg Device.lnk (Device.examine_of_hold (d := d.setEntry a (e.afterRise d.now v)) held) :)
  · rw [Alm.candidate_iff]
    simp only [ranks, Alm.masked_eq_false]
    rfl
  · rw [Alm.passes_iff]
    simp only [ranks_lt]
    rfl
  · rw [Device.examine_of_placed free chosen passes room, Device.placeAlarm_eq, Alm.notice_eq]
    rfl
  · rcases out with none | ⟨some, held⟩ | full
    · rw [none] at chosen; cases chosen
    · rw [some] at chosen; cases chosen; exact .inr (.inl held)
    · exact .inr (.inr full)

/-! ## ACK and SET_ALARM_MODE (R165 to R168) -/

/-- A refusal's reply: the code and no flag (R184). -/
@[simp] theorem Answer.frame_only (c : ReplyCode) (f : Frame) (known : c ≠ .badKind) :
    (Answer.only c).frame f = ⟨f.kind + 0x80, f.tag, [c.code, 0]⟩ := by
  simp [Answer.frame, Answer.only, flagsByte, known]

section
variable {s : State} {dt : Nat} {tag : Byte} {p : List Byte} {h : Handler} {kind : Byte} (hd : (s.dev.advance dt).clear)
include hd

/-- The row of a command whose owner refuses it. -/
theorem State.command_refused {c : ReplyCode} (known : c ≠ .badKind)
    (answer : h ⟨kind, tag, p⟩ (s.dev.advance dt) = (s.dev.advance dt, some (.only c))) :
    s.command dt h kind tag p = s.replies (s.dev.advance dt) (kind + 0x80) tag [c.code, 0] := by
  rw [State.command_replies hd answer, Answer.frame_only _ _ known]; rfl

/-- The row of a command whose owner answers OK. -/
theorem State.command_ok {e : Device} {data : List Byte} (answer : h ⟨kind, tag, p⟩ (s.dev.advance dt) = (e, some (.ok data))) :
    s.command dt h kind tag p = s.replies e (kind + 0x80) tag ([0, 0] ++ data) := by
  rw [State.command_replies hd answer, Answer.frame_ok]; rfl
end

/-- What ACK of an entry does. -/
theorem Device.ack_of_entry {d : Device} {f : Frame} (len : f.payload.length = 1) {a : Fin 24} (n : field f.payload 0 1 = a.val) :
    Device.ack f d = if (d.entry a).state = .inService then
      ((d.acknowledge a).examine, some (.ok [BitVec.ofNat 8 a.val, ((d.acknowledge a).entry a).state.code]))
      else (d, some (.only .state)) := by
  have small : ¬(24 ≤ a.val ∧ a.val < 255) := by omega
  unfold Device.ack
  simp only [len, ne_eq, not_true_eq_false, if_false, n, small, a.isLt, dite_true, Fin.eta]
  by_cases serving : (d.entry a).state = .inService <;> simp [serving]

/-- What ACK of the top entry in service does. -/
theorem Device.ack_of_top {d : Device} {f : Frame} (len : f.payload.length = 1) (n : field f.payload 0 1 = 255) :
    Device.ack f d = match d.alm.topInService with
      | none => (d, some (.only .state))
      | some a => ((d.acknowledge a).examine, some (.ok [BitVec.ofNat 8 a.val, ((d.acknowledge a).entry a).state.code])) := by
  unfold Device.ack
  simp only [len, ne_eq, not_true_eq_false, if_false, n]
  rfl

/-- The acknowledged entry's state in the reply (log 9). -/
theorem Device.acknowledge_code (d : Device) (a : Fin 24) :
    ((d.acknowledge a).entry a).state.code = if (d.entry a).live then 3 else 0 := by
  rw [Device.acknowledge_eq]
  refine (congrArg (fun e : AlarmEntry => e.state.code) (Device.setEntry_entry_self d a _)).trans ?_
  dsimp only
  split <;> rfl

/-- Settles O52. -/
theorem alarmCommandsAct : Obligations.AlarmCommandsAct := by
  unfold Obligations.AlarmCommandsAct
  intro s dt tag p d n acked done hd
  have acks : ∀ a, Device.ack ⟨0x50, tag, p⟩ d =
      ((d.acknowledge a).examine, some (.ok [BitVec.ofNat 8 a.val, ((d.acknowledge a).entry a).state.code])) →
      exec (.ack dt tag p) s = done a := fun a answer => by
    rw [Device.acknowledge_code, Device.acknowledge_eq] at answer
    exact State.command_ok hd answer
  have refuses : ∀ c : ReplyCode, c ≠ .badKind → Device.ack ⟨0x50, tag, p⟩ d = (d, some (.only c)) →
      exec (.ack dt tag p) s = s.replies d 0xD0 tag [c.code, 0] := fun c known answer => State.command_refused hd known answer
  refine ⟨fun len => ⟨fun lo hi => ?_, fun a n idle => ?_, fun a n serving => ?_, fun n idle => ?_, fun a n serving top => ?_⟩,
    fun len => ⟨fun refused => ?_, fun taken l lowest => ?_⟩⟩
  · refine refuses .badValue (by decide) ?_
    have range : ¬n < 24 := by omega
    unfold Device.ack
    simp only [len, ne_eq, not_true_eq_false, if_false]
    exact if_pos ⟨lo, hi⟩
  · exact refuses .state (by decide) ((Device.ack_of_entry len n).trans (if_neg idle))
  · exact acks a ((Device.ack_of_entry len n).trans (if_pos serving))
  · refine refuses .state (by decide) ((Device.ack_of_top len n).trans ?_)
    rw [(Alm.topInService_none _).mpr idle]
  · refine acks a ((Device.ack_of_top len n).trans ?_)
    rw [(Alm.topInService_iff _ a).mpr ⟨serving, top⟩]
  · refine State.command_refused hd (h := Device.setAlarmMode) (kind := 0x51) (c := .badValue) (by decide) ?_
    unfold Device.setAlarmMode
    simp only [len, ne_eq, not_true_eq_false, if_false]
    exact if_pos refused
  · refine State.command_ok hd (h := Device.setAlarmMode) (kind := 0x51) (data := []) ?_
    have source : Fin.ofNat 24 (field p 1 1) = l := by rw [← lowest]; exact Fin.ofNat_val_eq_self l
    unfold Device.setAlarmMode
    simp only [len, ne_eq, not_true_eq_false, if_false, source]
    exact if_neg taken

end Sys2Proof.Machine
end

section
/-! PROOFS. The conditions of the single sources and of the windows stay at their owners' levels (R152); no deliverable alarm waits
(R160, R169). -/

namespace Sys2Proof.Machine

/-! ## What each operation does to the live conditions -/

section
variable (d : Device) (t : Fin 24)

@[simp] theorem Device.setTrv_cond (x : Trv) : (d.setTrv x).cond t = d.cond t := rfl
@[simp] theorem Device.setAcq_cond (x : Acq) : (d.setAcq x).cond t = d.cond t := rfl
@[simp] theorem Device.setStd_cond (x : Std) : (d.setStd x).cond t = d.cond t := rfl
@[simp] theorem Device.setCnv_cond (x : Cnv) : (d.setCnv x).cond t = d.cond t := rfl
@[simp] theorem Device.setPrf_cond (x : Prf) : (d.setPrf x).cond t = d.cond t := rfl
@[simp] theorem Device.setWin_cond (x : Vector Window 8) : (d.setWin x).cond t = d.cond t := rfl
@[simp] theorem Device.setBrk_cond (x : Brk) : (d.setBrk x).cond t = d.cond t := rfl
@[simp] theorem Device.setLnk_cond (x : Lnk) : (d.setLnk x).cond t = d.cond t := rfl
@[simp] theorem Device.setPins_cond (x : Pins) : (d.setPins x).cond t = d.cond t := rfl
@[simp] theorem Device.setClk_cond (x : Nat) : (d.setClk x).cond t = d.cond t := rfl
@[simp] theorem Device.setTimeBase_cond (x : Nat) : (d.setTimeBase x).cond t = d.cond t := rfl
@[simp] theorem Device.setChanged_cond (x : Bool) : (d.setChanged x).cond t = d.cond t := rfl

@[simp] theorem Device.rise_cond (s : Fin 24) (v : Nat) : (d.rise s v).cond t = if t = s then true else d.cond t := by
  split
  · rename_i same; subst same; simp
  · exact Device.rise_cond_of_ne d v ‹_›

@[simp] theorem Device.fall_cond (s : Fin 24) : (d.fall s).cond t = if t = s then false else d.cond t := by
  split
  · rename_i same; subst same; simp
  · simp [Device.cond, Device.fall_entry_of_ne d ‹_›]

@[simp] theorem Device.fallIfActive_cond (s : Fin 24) : (d.fallIfActive s).cond t = if t = s then false else d.cond t := by
  split
  · rename_i same; subst same; simp
  · exact Device.fallIfActive_cond_of_ne d ‹_›

@[simp] theorem Device.superviseShutter_cond :
    d.superviseShutter.cond t = if t = srcShutter ∧ d.shutterAgrees = true then false else d.cond t := by
  unfold Device.superviseShutter; split
  · rename_i agrees; simp [agrees]
  · rename_i agrees; simp [agrees]

@[simp] theorem Device.commandShutter_cond (v : Bool) : (d.commandShutter v).cond t =
    if t = srcShutter ∧ d.trv.openCmd ≠ v ∧ d.pins.closed ≠ v then false else d.cond t := by
  unfold Device.commandShutter; split
  · rename_i same; simp [same]
  · rename_i moves
    rw [Device.superviseShutter_cond]
    simp [moves, Device.shutterAgrees]

@[simp] theorem Device.goTo_cond (st : TravState) : (d.goTo st).cond t =
    if t = srcShutter ∧ d.trv.openCmd ≠ st.opens ∧ d.pins.closed ≠ st.opens then false else d.cond t := by
  unfold Device.goTo; dsimp only; rw [Device.commandShutter_cond]; rfl

@[simp] theorem Device.riseOvertravel_cond : d.riseOvertravel.cond t = if t = srcOvertravel then true else d.cond t :=
  Device.rise_cond _ _ _ _

@[simp] theorem Device.offer_cond (f : Frame) : (d.offer f).cond t = d.cond t := Device.cond_congr t (by simp)
@[simp] theorem Device.offerState_cond : d.offerState.cond t = d.cond t := Device.cond_congr t (by simp)
@[simp] theorem Device.placeOverflow_cond : d.placeOverflow.cond t = d.cond t := Device.cond_congr t (by simp)
@[simp] theorem Device.dropEnable_cond : d.dropEnable.cond t = d.cond t := Device.cond_congr t (by simp)
@[simp] theorem Device.raiseEnable_cond : d.raiseEnable.cond t = d.cond t := Device.cond_congr t (by simp)
@[simp] theorem Device.rampStep_cond : d.rampStep.cond t = d.cond t := Device.cond_congr t (by simp)
@[simp] theorem Device.startPeriod_cond : d.startPeriod.cond t = d.cond t := Device.cond_congr t (by simp)
@[simp] theorem Device.countScan_cond : d.countScan.cond t = d.cond t := Device.cond_congr t (by simp)
@[simp] theorem Device.takeNotice_cond (f : Frame) : (d.takeNotice f).cond t = d.cond t := Device.cond_congr t (by simp)
@[simp] theorem Device.begin_cond (f : Frame) : (d.begin f).cond t = d.cond t := Device.cond_congr t (by simp)
@[simp] theorem Device.setLimit_cond (s : Side) (v : Bool) : (d.setLimit s v).cond t = d.cond t := Device.cond_congr t (by simp)
@[simp] theorem Device.pushReply_cond (f : Frame) : (d.pushReply f).cond t = d.cond t := rfl
@[simp] theorem Device.abandonStd_cond : d.abandonStd.cond t = d.cond t := Device.cond_congr t (by simp)

@[simp] theorem Device.acknowledge_cond (s : Fin 24) : (d.acknowledge s).cond t = d.cond t := by
  rw [Device.acknowledge_eq]
  refine (congrArg AlarmEntry.live (Device.setEntry_entry d s t _) :).trans ?_
  split
  · rename_i same; subst same; rfl
  · rfl

@[simp] theorem Device.beginAlarm_cond (f : Frame) : (d.beginAlarm f).cond t = d.cond t := by
  unfold Device.beginAlarm; simp

@[simp] theorem Device.moveStationInput_cond (n : Fin 8) (v : Bool) : (d.moveStationInput n v).cond t = d.cond t := rfl

theorem Device.cond_of_entries {d e : Device} (h : e.alm.entries = d.alm.entries) : e.cond t = d.cond t := by
  simp [Device.cond, Device.entry, Alm.entry, h]

@[simp] theorem Device.beginStarted_cond (f : Frame) : (d.beginStarted f).cond t = d.cond t := by
  unfold Device.beginStarted; dsimp only
  rw [Device.examine_cond]
  exact (Device.cond_of_entries t rfl).trans (Device.takeNotice_cond d t f)

@[simp] theorem Device.failStd_cond (l : StdLast) (v : Nat) : (d.failStd l v).cond t = if t = srcStdFail then true else d.cond t :=
  Device.rise_cond _ _ _ _

/-- CHANNEL_FAULT after a record (R53). -/
@[simp] theorem Device.superviseChannels_cond (s : Sample) : (d.superviseChannels s).cond t =
    if t = srcChannelFault then
      (if d.acq.flagged.joined (d.acq.flagged.after (d.acq.dead.after s) s) then true
        else if d.acq.flagged.mask ≠ 0 ∧ (d.acq.flagged.after (d.acq.dead.after s) s).mask = 0 then false else d.cond t)
    else d.cond t := by
  unfold Device.superviseChannels; dsimp only
  repeat' split
  all_goals simp_all

theorem Device.relinked_cond : d.relinked.cond t =
    if t = srcLinkDegraded ∧ d.lnk.link.follow d.lnk.quality ≠ d.lnk.link then decide (d.lnk.link.follow d.lnk.quality ≠ .good)
    else d.cond t := by
  unfold Device.relinked; dsimp only
  repeat' split
  all_goals simp_all
end

/-! ## What leaves the link state as it is -/

section
variable (d : Device) (f : Frame)
@[simp] theorem Device.offer_link : (d.offer f).lnk.link = d.lnk.link := (congrArg (fun e : Device => e.lnk.link) (d.offer_lessNotices f) :)
@[simp] theorem Device.takeNotice_link : (d.takeNotice f).lnk.link = d.lnk.link := rfl
@[simp] theorem Device.begin_link : (d.begin f).lnk.link = d.lnk.link := rfl
@[simp] theorem Device.beginAlarm_link : (d.beginAlarm f).lnk.link = d.lnk.link := (Device.link_of_lessAlarms (d.beginAlarm_lessAlarms f) :)
@[simp] theorem Device.beginStarted_link : (d.beginStarted f).lnk.link = d.lnk.link :=
  (Device.link_of_lessAlarms (d.beginStarted_lessAlarms f) :)
@[simp] theorem Device.placeOverflow_link : d.placeOverflow.lnk.link = d.lnk.link := by
  unfold Device.placeOverflow; repeat' split
  all_goals rfl
@[simp] theorem Lnk.dropHead_link (l : Lnk) : l.dropHead.link = l.link := rfl
@[simp] theorem Lnk.append_link (l : Lnk) : (l.append f).link = l.link := rfl
end

/-! ## Owners and levels (R152) -/

/-- The live conditions of the single sources and of the windows are their owners' levels: what `conditionsFollow` says but for the
stations. -/
structure Device.OwnersLevels (d : Device) : Prop where
  position : d.cond srcPositionLost = true → d.trv.homed = false
  overtravel : d.cond srcOvertravel = (!d.pins.reset && (d.pins.limitTs || d.pins.limitDs))
  shutter : d.pins.reset = false → (d.cond srcShutter = true ∨ d.trv.mismatch.isSome = true ↔ d.pins.closed = d.trv.openCmd)
  stdLast : ∀ l ∈ d.std.last, (l.result = .adopted ∨ l.result = .adoptedDrift → d.cond srcStdFail = false ∧
      (d.cond srcStdDrift = true ↔ l.result = .adoptedDrift)) ∧
    (l.result = .sheet ∨ l.result = .channel ∨ l.result = .drift ∨ l.result = .shutter → d.cond srcStdFail = true)
  noStd : d.std.last = none → d.cond srcStdFail = false
  noRef : d.std.ref = none → d.cond srcStdDrift = false
  channel : (d.cond srcChannelFault = true ↔ d.acq.flagged.mask ≠ 0)
  link : (d.cond srcLinkDegraded = true ↔ d.lnk.link ≠ .good)
  window : ∀ n : Fin 8, d.cond (srcWindow n) = decide ((d.window n).state = .excursion)

/-- `L` for a part whose conditions of single sources and windows stand, out of reset. -/
def Device.liveLevels : Device → Prop := Device.Live Device.OwnersLevels

/-- No single source is a station's (positions 0 to 3 and 12 to 15 of 09 section 9.1). -/
@[simp] theorem single_ne_srcBreak (n : Fin 8) : (0 : Fin 24) ≠ srcBreak n ∧ 1 ≠ srcBreak n ∧ 2 ≠ srcBreak n ∧ 3 ≠ srcBreak n ∧
    12 ≠ srcBreak n ∧ 13 ≠ srcBreak n ∧ 14 ≠ srcBreak n ∧ 15 ≠ srcBreak n := by revert n; decide

theorem srcWindow_ne (n : Fin 8) : srcWindow n ≠ srcPositionLost ∧ srcWindow n ≠ srcOvertravel ∧ srcWindow n ≠ srcDriveFault ∧
    srcWindow n ≠ srcShutter ∧ srcWindow n ≠ srcStdFail ∧ srcWindow n ≠ srcStdDrift ∧ srcWindow n ≠ srcChannelFault ∧
    srcWindow n ≠ srcLinkDegraded := by revert n; decide

/-- From a part whose conditions stand at the levels to another one, clause by clause; a clause that is not given is one that the
change does not concern. -/
theorem Device.OwnersLevels.through {d e : Device} (h : d.OwnersLevels)
    (position : (d.cond srcPositionLost = true → d.trv.homed = false) → e.cond srcPositionLost = true → e.trv.homed = false := by
      simp [srcPositionLost, srcOvertravel, srcDriveFault, srcShutter, srcStdFail, srcStdDrift, srcChannelFault, srcLinkDegraded])
    (overtravel : d.cond srcOvertravel = (!d.pins.reset && (d.pins.limitTs || d.pins.limitDs)) →
      e.cond srcOvertravel = (!e.pins.reset && (e.pins.limitTs || e.pins.limitDs)) := by simp [srcPositionLost, srcOvertravel, srcDriveFault, srcShutter, srcStdFail, srcStdDrift, srcChannelFault, srcLinkDegraded])
    (shutter : (d.pins.reset = false → (d.cond srcShutter = true ∨ d.trv.mismatch.isSome = true ↔ d.pins.closed = d.trv.openCmd)) →
      e.pins.reset = false → (e.cond srcShutter = true ∨ e.trv.mismatch.isSome = true ↔ e.pins.closed = e.trv.openCmd) := by
      simp [srcPositionLost, srcOvertravel, srcDriveFault, srcShutter, srcStdFail, srcStdDrift, srcChannelFault, srcLinkDegraded])
    (fail : e.cond srcStdFail = d.cond srcStdFail := by simp [srcPositionLost, srcOvertravel, srcDriveFault, srcShutter, srcStdFail, srcStdDrift, srcChannelFault, srcLinkDegraded])
    (drift : e.cond srcStdDrift = d.cond srcStdDrift := by simp [srcPositionLost, srcOvertravel, srcDriveFault, srcShutter, srcStdFail, srcStdDrift, srcChannelFault, srcLinkDegraded])
    (last : e.std.last = d.std.last := by simp) (ref : e.std.ref = none → d.std.ref = none := by simp)
    (channel : (d.cond srcChannelFault = true ↔ d.acq.flagged.mask ≠ 0) →
      (e.cond srcChannelFault = true ↔ e.acq.flagged.mask ≠ 0) := by simp [srcPositionLost, srcOvertravel, srcDriveFault, srcShutter, srcStdFail, srcStdDrift, srcChannelFault, srcLinkDegraded])
    (link : (d.cond srcLinkDegraded = true ↔ d.lnk.link ≠ .good) → (e.cond srcLinkDegraded = true ↔ e.lnk.link ≠ .good) := by
      simp [srcPositionLost, srcOvertravel, srcDriveFault, srcShutter, srcStdFail, srcStdDrift, srcChannelFault, srcLinkDegraded])
    (windowCond : ∀ n : Fin 8, e.cond (srcWindow n) = d.cond (srcWindow n) := by
      intro n; simp [srcWindow_ne n, (srcBreak_ne_srcWindow _ n).symm])
    (window : ∀ n : Fin 8, (e.window n).state = (d.window n).state := by intro n; simp [Device.window]) : e.OwnersLevels where
  position := position h.position
  overtravel := overtravel h.overtravel
  shutter := shutter h.shutter
  stdLast := by rw [last, fail, drift]; exact h.stdLast
  noStd := by rw [last, fail]; exact h.noStd
  noRef := by rw [drift]; exact fun none => h.noRef (ref none)
  channel := channel h.channel
  link := link h.link
  window n := by rw [windowCond, window]; exact h.window n

theorem ChannelSet.joined_mask {old new : ChannelSet} (h : old.joined new = true) : new.mask ≠ 0 := by
  obtain ⟨a, b, c, e⟩ := old; obtain ⟨a', b', c', e'⟩ := new
  revert a b c e a' b' c' e'; decide

theorem ChannelSet.mask_of_not_joined {old new : ChannelSet} (h : old.joined new = false) (empty : old.mask = 0) : new.mask = 0 := by
  obtain ⟨a, b, c, e⟩ := old; obtain ⟨a', b', c', e'⟩ := new
  revert a b c e a' b' c' e'; decide

/-- CHANNEL_FAULT follows the flagged set through a record (R53). -/
theorem Device.superviseChannels_channel {d : Device} (s : Sample) (h : d.cond srcChannelFault = true ↔ d.acq.flagged.mask ≠ 0) :
    (d.superviseChannels s).cond srcChannelFault = true ↔ (d.superviseChannels s).acq.flagged.mask ≠ 0 := by
  rw [Device.superviseChannels_cond, if_pos rfl, Device.superviseChannels_acq]
  dsimp only
  generalize d.acq.flagged.after (d.acq.dead.after s) s = new
  split
  · rename_i joins
    simpa using ChannelSet.joined_mask joins
  · rename_i stays
    split
    · rename_i empties; simp [empties.2]
    · rename_i same
      rw [h]
      refine not_congr ⟨fun empty => ChannelSet.mask_of_not_joined (by simpa using stays) empty, fun empty => ?_⟩
      by_contra full
      exact same ⟨full, empty⟩

theorem Device.setWindowAt_window (d : Device) (n m : Fin 8) (w : Window) :
    (d.setWindowAt n w).window m = if m = n then w else d.window m := by
  simp only [Device.window, Device.setWindowAt, Device.setWin, Fin.getElem_fin, Vector.getElem_set, Fin.ext_iff, eq_comm]

theorem Device.setWindowAt_self (d : Device) (n : Fin 8) : d.setWindowAt n (d.window n) = d := by
  have same : d.win.set n (d.window n) = d.win := by simp [Device.window]
  unfold Device.setWindowAt; rw [same]; rfl

/-- An evaluation stores the window, and raises or lowers its condition where it enters or leaves EXCURSION (R118, R122). -/
theorem Device.evaluateWindow_eq (d : Device) (scan : Nat) (n : Fin 8) : ∃ v, d.evaluateWindow scan n =
    if (d.windowAfter scan n).state = .excursion ∧ (d.window n).state ≠ .excursion then
      (d.setWindowAt n (d.windowAfter scan n)).rise (srcWindow n) v
    else if (d.window n).state = .excursion ∧ (d.windowAfter scan n).state ≠ .excursion then
      (d.setWindowAt n (d.windowAfter scan n)).fall (srcWindow n)
    else d.setWindowAt n (d.windowAfter scan n) := by
  unfold Device.evaluateWindow Device.windowAfter
  cases defined : (d.window n).definition with
  | none => simp only [defined, Device.setWindowAt_self, and_not_self, if_false]; exact ⟨0, trivial⟩
  | some f =>
    cases on : f.enabled
    · simp only [defined, on, Bool.false_eq_true, if_false, Device.setWindowAt_self, and_not_self]; exact ⟨0, trivial⟩
    · simp only [defined, on, if_true]; exact ⟨_, rfl⟩

/-- The window's own condition follows its state through an evaluation (R122), the others stay. -/
theorem Device.evaluateWindow_cond (d : Device) (scan : Nat) (n : Fin 8) (t : Fin 24) : (d.evaluateWindow scan n).cond t =
    if t = srcWindow n then
      (if (d.windowAfter scan n).state = .excursion ∧ (d.window n).state ≠ .excursion then true
       else if (d.window n).state = .excursion ∧ (d.windowAfter scan n).state ≠ .excursion then false else d.cond t)
    else d.cond t := by
  obtain ⟨v, evaluated⟩ := d.evaluateWindow_eq scan n
  rw [evaluated]
  repeat' split
  all_goals simp_all [Device.setWindowAt]

/-- A window's condition follows its state through an evaluation of any window. -/
theorem Device.evaluateWindow_window {d : Device} (scan : Nat) (n m : Fin 8)
    (h : d.cond (srcWindow m) = decide ((d.window m).state = .excursion)) :
    (d.evaluateWindow scan n).cond (srcWindow m) = decide (((d.evaluateWindow scan n).window m).state = .excursion) := by
  have stored : (d.evaluateWindow scan n).window m = if m = n then d.windowAfter scan n else d.window m := by
    refine Eq.trans ?_ (d.setWindowAt_window n m (d.windowAfter scan n))
    unfold Device.window
    rw [Device.evaluateWindow_win]; rfl
  rw [Device.evaluateWindow_cond, stored, h]
  by_cases same : m = n
  · subst same
    by_cases before : (d.window m).state = .excursion <;> by_cases after : (d.windowAfter scan m).state = .excursion <;>
      simp [before, after]
  · rw [if_neg (mt srcWindow_inj.mp same), if_neg same]

/-- Entering a state keeps SHUTTER with its mismatch timer and the feedback (R17, R18). -/
theorem Device.goTo_shutter {d : Device} (st : TravState)
    (h : d.cond srcShutter = true ∨ d.trv.mismatch.isSome = true ↔ d.pins.closed = d.trv.openCmd) :
    ((d.goTo st).cond srcShutter = true ∨ (d.goTo st).trv.mismatch.isSome = true ↔ d.pins.closed = st.opens) := by
  rw [Device.goTo_cond, Device.goTo_trv]
  unfold Device.mismatchAt
  by_cases same : d.trv.openCmd = st.opens
  · simpa [same] using h
  · by_cases agrees : d.pins.closed = st.opens <;> simp [same, agrees, Device.after]

/-- A supervision of the shutter keeps SHUTTER with its mismatch timer and the feedback, whatever changed before it (R18). -/
theorem Device.superviseShutter_shutter (d : Device) :
    d.superviseShutter.cond srcShutter = true ∨ d.superviseShutter.trv.mismatch.isSome = true ↔ d.pins.closed = d.trv.openCmd := by
  rw [Device.superviseShutter_cond, Device.superviseShutter_trv]
  cases agrees : d.shutterAgrees
  · have disagrees : d.pins.closed = d.trv.openCmd := by simpa [Device.shutterAgrees] using agrees
    simp [disagrees, Device.after]
  · have agreed : d.pins.closed ≠ d.trv.openCmd := by simpa [Device.shutterAgrees] using agrees
    simp [agreed]

/-- An abandoned, failed or completed standardize keeps STD_FAIL and STD_DRIFT with its result (R69, R70). -/
theorem Device.liveLevels.ofStd {d e : Device} (h : d.liveLevels)
    (conds : ∀ t, t ≠ srcStdFail → t ≠ srcStdDrift → e.cond t = d.cond t) (pins : e.pins = d.pins) (trv : e.trv = d.trv)
    (acq : e.acq = d.acq) (link : e.lnk.link = d.lnk.link) (win : e.win = d.win) (result : ∃ l, e.std.last = some l ∧
      (l.result = .adopted ∨ l.result = .adoptedDrift → e.cond srcStdFail = false ∧
        (e.cond srcStdDrift = true ↔ l.result = .adoptedDrift)) ∧
      (l.result = .sheet ∨ l.result = .channel ∨ l.result = .drift ∨ l.result = .shutter → e.cond srcStdFail = true))
    (ref : e.std.ref = none → e.cond srcStdDrift = false) : e.liveLevels := by
  obtain ⟨l, last, good⟩ := result
  obtain ⟨awake, levels⟩ := h
  refine ⟨by rw [pins]; exact awake, ?_, ?_, ?_, ?_, ?_, ref, ?_, ?_, fun n => ?_⟩
  · rw [conds _ (by decide) (by decide), trv]; exact levels.position
  · rw [conds _ (by decide) (by decide), pins]; exact levels.overtravel
  · rw [conds _ (by decide) (by decide), pins, trv]; exact levels.shutter
  · rw [last]; rintro _ ⟨⟩; exact good
  · rw [last]; exact fun none => nomatch none
  · rw [conds _ (by decide) (by decide), acq]; exact levels.channel
  · rw [conds _ (by decide) (by decide), link]; exact levels.link
  · rw [conds _ (srcWindow_ne_single n _ (by decide)) (srcWindow_ne_single n _ (by decide)),
      show e.window n = d.window n by simp [Device.window, win]]
    exact levels.window n

/-- The last result of a completed collection is its verdict. -/
theorem Std.lastOf_result (s : Std) (now : Nat) (x : Drifts) : (s.lastOf now x).result = s.verdict := rfl

/-- A collection is adopted with drift only where a drift is present. -/
theorem Std.largest_of_adoptedDrift {s : Std} (h : s.verdict = .adoptedDrift) : s.drifts.largest ≠ none := by
  intro none
  unfold Std.verdict at h
  split at h
  · cases h
  · rw [none] at h; cases h

/-- The verdict of a collection is one of four. -/
theorem Std.verdict_cases (s : Std) : s.verdict = .channel ∨ s.verdict = .drift ∨ s.verdict = .adopted ∨ s.verdict = .adoptedDrift := by
  unfold Std.verdict judgeDrift
  repeat' split
  all_goals simp

theorem Device.adopt_cond (d : Device) (r : RefSet) (l : StdLast) (x : Option (Nat × Nat)) (t : Fin 24)
    (present : l.result = .adoptedDrift → x ≠ none) : (d.adopt r l x).cond t =
      if t = srcStdDrift then decide (l.result = .adoptedDrift) else if t = srcStdFail then false else d.cond t := by
  unfold Device.adopt; dsimp only
  by_cases drifted : l.result = .adoptedDrift
  · rw [if_pos drifted]
    cases found : x with
    | none => exact absurd found (present drifted)
    | some e =>
      dsimp only
      rw [Device.rise_cond, Device.fallIfActive_cond]
      simp [drifted]
  · rw [if_neg drifted, Device.fallIfActive_cond, Device.fallIfActive_cond]
    simp [drifted]

theorem Device.failStd_levels {d : Device} (l : StdLast) (v : Nat)
    (failed : l.result = .sheet ∨ l.result = .channel ∨ l.result = .drift ∨ l.result = .shutter) (h : d.liveLevels) :
    (d.failStd l v).liveLevels := by
  refine h.ofStd (fun t _ _ => by simp [*]) (by simp) (by simp) (by simp) (by simp) (by simp)
    ⟨l, by rw [Device.failStd_std], fun adopted => ?_, fun _ => by simp⟩ fun none => ?_
  · rcases adopted with a | a <;> rw [a] at failed <;> simp at failed
  · rw [Device.failStd_cond, if_neg (by decide)]
    exact h.2.noRef (by rwa [Device.failStd_std] at none)

theorem Device.completeStd_levels {d : Device} (h : d.liveLevels) : d.completeStd.liveLevels := by
  rcases d.std.verdict_cases with channel | drift | adopted
  · rw [Device.completeStd_of_channel channel]
    exact Device.failStd_levels _ _ (.inr (.inl channel)) h
  · rw [Device.completeStd_of_drift drift]
    exact Device.failStd_levels _ _ (.inr (.inr (.inl drift))) h
  · have taken : d.std.verdict ≠ .channel ∧ d.std.verdict ≠ .drift := by rcases adopted with a | a <;> simp [a]
    rw [Device.completeStd_of_adopted taken.1 taken.2]
    have cond := fun t => d.adopt_cond
      (adoptedRef d.std.sums.candidates d.now d.std.snapshot.reject d.std.drifts.bw d.std.drifts.m d.std.drifts.d0)
      (d.std.lastOf d.now d.std.drifts) d.std.drifts.largest t Std.largest_of_adoptedDrift
    generalize adoptedRef _ _ _ _ _ _ = r at cond ⊢
    have result := Std.lastOf_result d.std d.now d.std.drifts
    generalize d.std.lastOf _ _ = l at cond result ⊢
    generalize d.std.drifts.largest = x at cond ⊢
    refine h.ofStd (fun t notFail notDrift => by rw [cond, if_neg notDrift, if_neg notFail])
      (Device.pins_of_lessAlarms (d.adopt_lessAlarms r l x) :) (Device.trv_of_lessAlarms (d.adopt_lessAlarms r l x) :)
      (Device.acq_of_lessAlarms (d.adopt_lessAlarms r l x) :) (Device.link_of_lessAlarms (d.adopt_lessAlarms r l x) :)
      (Device.win_of_lessAlarms (d.adopt_lessAlarms r l x) :) ⟨l, by rw [Device.adopt_std], fun _ => ⟨?_, ?_⟩, fun failed => ?_⟩ ?_
    · rw [cond, if_neg (by decide), if_pos rfl]
    · rw [cond, if_pos rfl, decide_eq_true_eq]
    · rw [result] at failed
      rcases adopted with a | a <;> rw [a] at failed <;> simp at failed
    · rw [Device.adopt_std]; exact fun none => nomatch none

theorem Device.abandonStd_levels {d : Device} (h : d.liveLevels) : d.abandonStd.liveLevels := by
  by_cases idle : d.std.phase = .idle
  · exact (show d.abandonStd = d from if_pos idle).symm ▸ h
  · have last : d.abandonStd.std = { d.std.toIdle with last := some (.bare .aborted d.now d.std.received) } := by
      unfold Device.abandonStd; rw [if_neg idle]; rfl
    refine h.ofStd (fun t _ _ => by simp) (by simp) (by simp) (by simp) (by simp) (by simp)
      ⟨_, by rw [last], fun adopted => ?_, fun failed => ?_⟩ fun none => ?_
    · simp [StdLast.bare] at adopted
    · simp [StdLast.bare] at failed
    · rw [Device.abandonStd_cond]
      exact h.2.noRef (by rwa [last] at none)

/-- A change of the link state brings LINK_DEGRADED along (R181). -/
theorem Device.relinked_levels {d : Device} (h : d.liveLevels) : d.relinked.liveLevels := by
  have link : d.relinked.lnk.link = d.lnk.link.follow d.lnk.quality := d.relinked_link
  have only : ∀ t, t ≠ srcLinkDegraded → d.relinked.cond t = d.cond t := fun t other => by
    rw [Device.relinked_cond, if_neg (fun x => other x.1)]
  refine ⟨by simpa using h.1, h.2.through (position := by rw [only _ (by decide)]; simp)
    (overtravel := by rw [only _ (by decide)]; simp) (shutter := by rw [only _ (by decide)]; simp) (fail := only _ (by decide))
    (drift := only _ (by decide)) (channel := by rw [only _ (by decide)]; simp) (link := fun c => ?_)
    (windowCond := fun n => only _ (srcWindow_ne_single n _ (by decide)))⟩
  rw [Device.relinked_cond, link]
  by_cases same : d.lnk.link.follow d.lnk.quality = d.lnk.link
  · simpa [same] using c
  · simp [same]

theorem Device.OwnersLevels.overtravel_of_closed {d : Device} (h : d.OwnersLevels) (awake : d.pins.reset = false)
    (closed : d.pins.limitTs = true ∨ d.pins.limitDs = true) : d.cond srcOvertravel = true := by
  rw [h.overtravel, awake]; simpa using closed

/-- What concerns windows alone and keeps their conditions at their states. -/
theorem Device.liveLevels.ofWindows {d e : Device} (h : d.liveLevels) (single : ∀ t ∈ single, e.cond t = d.cond t)
    (pins : e.pins = d.pins) (trv : e.trv = d.trv) (std : e.std = d.std) (acq : e.acq = d.acq) (link : e.lnk.link = d.lnk.link)
    (window : ∀ n : Fin 8, e.cond (srcWindow n) = decide ((e.window n).state = .excursion)) : e.liveLevels := by
  refine ⟨by rw [pins]; exact h.1, ?_, ?_, ?_, ?_, ?_, ?_, ?_, ?_, window⟩
  · rw [single _ (by decide), trv]; exact h.2.position
  · rw [single _ (by decide), pins]; exact h.2.overtravel
  · rw [single _ (by decide), pins, trv]; exact h.2.shutter
  · rw [single _ (by decide), single _ (by decide), std]; exact h.2.stdLast
  · rw [single _ (by decide), std]; exact h.2.noStd
  · rw [single _ (by decide), std]; exact h.2.noRef
  · rw [single _ (by decide), acq]; exact h.2.channel
  · rw [single _ (by decide), link]; exact h.2.link

theorem Device.evaluateWindow_levels {d : Device} (scan : Nat) (n : Fin 8) (h : d.liveLevels) : (d.evaluateWindow scan n).liveLevels :=
  h.ofWindows (fun t m => by rw [Device.evaluateWindow_cond, if_neg (srcWindow_ne_single n t m).symm]) (by simp) (by simp) (by simp)
    (by simp) (by simp) fun m => Device.evaluateWindow_window scan n m (h.2.window m)

/-- A window that is set again, in a normal state, keeps its condition where that falls with an excursion (R117, R122). -/
theorem Device.windowSet_levels {d : Device} (n : Fin 8) {w : Window} (normal : w.state = .normal) (h : d.liveLevels) :
    (if (d.window n).state = .excursion then (d.setWindowAt n w).fall (srcWindow n) else d.setWindowAt n w).liveLevels := by
  have window : ∀ m, (d.setWindowAt n w).window m = if m = n then w else d.window m := fun m => d.setWindowAt_window n m w
  have level := h.2.window
  split
  · refine h.ofWindows (fun t m => ?_) rfl rfl rfl rfl rfl fun m => ?_
    · rw [Device.fall_cond, if_neg (srcWindow_ne_single n t m).symm]; rfl
    · rw [show ((d.setWindowAt n w).fall (srcWindow n)).window m = if m = n then w else d.window m from window m, Device.fall_cond]
      by_cases same : m = n
      · simp [same, normal]
      · rw [if_neg (mt srcWindow_inj.mp same), if_neg same]; exact level m
  · rename_i rests
    refine h.ofWindows (fun _ _ => rfl) rfl rfl rfl rfl rfl fun m => ?_
    rw [window m]
    by_cases same : m = n
    · subst same
      simpa [normal, rests, Device.setWindowAt] using level m
    · rw [if_neg same]; exact level m

theorem Device.setWindow_levels {d : Device} (f : Frame) (h : d.liveLevels) : (d.setWindow f).1.liveLevels := by
  unfold Device.setWindow; dsimp only
  split
  · exact h
  split
  · exact h
  exact Device.windowSet_levels _ rfl h

/-- Before the shutter is supervised, a start-up has raised OVERTRAVEL where a limit switch is closed (R16). -/
theorem Device.startUp_supervises (d : Device) (cause : Nat) (tag : Byte) : ∃ e : Device, d.startUp cause tag = e.superviseShutter ∧
    e.pins = d.pins ∧ e.trv = d.trv ∧ ∀ t, e.cond t =
      if t = srcOvertravel ∧ (d.pins.limitTs = true ∨ d.pins.limitDs = true) then true else d.cond t := by
  unfold Device.startUp; dsimp only
  split
  · rename_i closed
    have closed : d.pins.limitTs = true ∨ d.pins.limitDs = true := closed
    exact ⟨_, rfl, by simp, by simp, fun t => by simp [closed]⟩
  · rename_i opened
    have opened : ¬(d.pins.limitTs = true ∨ d.pins.limitDs = true) := opened
    exact ⟨_, rfl, rfl, rfl, fun t => by simp [opened]⟩

/-- A part whose blocks are at reset values but for what the levels do not show, started up (R16, R18). -/
theorem Device.startUp_levels {d : Device} (cause : Nat) (tag : Byte) (awake : d.pins.reset = false) (quiet : ∀ t, d.cond t = false)
    (lost : d.trv.homed = false) (last : d.std.last = none) (flagged : d.acq.flagged.mask = 0)
    (link : d.lnk.link = .good) (window : ∀ n, (d.window n).state = .normal) : (d.startUp cause tag).liveLevels := by
  obtain ⟨e, started, pins, trv, cond⟩ := d.startUp_supervises cause tag
  have shutter := e.superviseShutter_shutter
  have others : ∀ t, t ≠ srcShutter → (d.startUp cause tag).cond t =
      decide (t = srcOvertravel ∧ (d.pins.limitTs = true ∨ d.pins.limitDs = true)) := fun t other => by
    rw [started, Device.superviseShutter_cond, if_neg (fun x => other x.1), cond, quiet]
    split <;> simp_all
  have windows : ∀ n, (d.startUp cause tag).window n = d.window n := fun n => by simp [Device.window]
  refine ⟨by simpa using awake, ⟨?_, ?_, fun _ => ?_, ?_, ?_, ?_, ?_, ?_, fun n => ?_⟩⟩
  · simp [lost]
  · rw [others _ (by decide), Device.startUp_pins, awake]; simp
  · rw [started, shutter, Device.superviseShutter_pins, Device.superviseShutter_trv]
  · rw [Device.startUp_std, last]; exact fun l none => nomatch none
  · intro _
    rw [others _ (by decide)]
    exact decide_eq_false (fun x => absurd x.1 (by decide))
  · intro _
    rw [others _ (by decide)]
    exact decide_eq_false (fun x => absurd x.1 (by decide))
  · rw [others _ (by decide), Device.startUp_acq, flagged]
    simp [srcChannelFault, srcOvertravel]
  · rw [others _ (by decide), Device.startUp_link, link]
    simp [srcLinkDegraded, srcOvertravel]
  · rw [others _ (srcWindow_ne_single n _ (by decide)), windows, window]
    simp [srcWindow_ne n]

theorem Alm.reset_entry (s : Fin 24) : Alm.reset.entry s = AlarmEntry.reset := by simp [Alm.entry, Alm.reset]

/-- No condition is live at reset (R170). -/
theorem Device.cond_of_reset {d : Device} (h : d.alm = .reset) (t : Fin 24) : d.cond t = false := by
  rw [Device.cond, Device.entry, h, Alm.reset_entry]; rfl

theorem Device.restarted_levels {d : Device} (tag : Byte) (awake : d.pins.reset = false) :
    (d.restartBlocks.startUp 2 tag).liveLevels := by
  refine Device.startUp_levels 2 tag (by simpa [Device.restartBlocks] using awake) (Device.cond_of_reset rfl) rfl rfl rfl rfl fun n => ?_
  simp [Device.window, Device.restartBlocks, Window.reset]

theorem Device.coldStart_levels (d : Device) (cause : Nat) (strap : Bool) : (d.coldStart cause strap).liveLevels := by
  refine Device.startUp_levels cause 0 rfl (Device.cond_of_reset rfl) rfl rfl rfl rfl fun n => ?_
  simp [Device.window, Device.blank, Window.reset]

theorem Device.held_levels (d : Device) : d.held.OwnersLevels := by
  have quiet : ∀ t, d.held.cond t = false := Device.cond_of_reset rfl
  refine ⟨fun _ => rfl, quiet _, fun awake => (nomatch awake), fun l none => (nomatch none), fun _ => quiet _, fun _ => quiet _, ?_, ?_,
    fun n => ?_⟩
  · rw [quiet]; exact iff_of_false Bool.false_ne_true (not_not.mpr rfl)
  · rw [quiet]; exact iff_of_false Bool.false_ne_true (not_not.mpr rfl)
  · rw [quiet, show d.held.window n = Window.reset by simp [Device.window, Device.held, Device.blank]]; rfl

/-- A change of the alarm modes concerns no condition (R168). -/
theorem Device.modeSet_levels {d : Device} {a : Alm} (h : d.liveLevels) (entries : a.entries = d.alm.entries) :
    (d.setAlm a).examine.liveLevels := by
  have same (t : Fin 24) : (d.setAlm a).examine.cond t = d.cond t := (Device.examine_cond _ t).trans (Device.cond_of_entries t entries)
  exact ⟨by simpa using h.1, h.2.through (position := by rw [same]; simp) (overtravel := by rw [same]; simp)
    (shutter := by rw [same]; simp) (fail := same _) (drift := same _) (channel := by rw [same]; simp)
    (link := by rw [same]; simp) (windowCond := fun n => same _)⟩

theorem Device.liveLevels_keeps : FieldKeeps Device.liveLevels where
  changed _ h := ⟨h.1, h.2.through⟩
  trv t same known h := ⟨h.1, h.2.through (position := fun c lost => Bool.eq_false_of_not_eq_true fun on => by simpa [c lost] using known on)
    (shutter := fun c awake => by rw [Device.setTrv_trv, Trv.keyed_openCmd same, Trv.keyed_mismatch same]; exact c awake)⟩
  goTo st h := ⟨by simpa using h.1, h.2.through (shutter := fun c awake => by
    rw [Device.goTo_pins] at awake
    simpa using Device.goTo_shutter st (c awake))⟩
  dropEnable h := ⟨by simpa using h.1, h.2.through⟩
  raiseEnable h := ⟨by simpa using h.1, h.2.through⟩
  ramp _ h := ⟨by simpa using h.1, h.2.through (position := by rw [Device.startPeriod_trv, Device.rampStep_trv]; simp)
    (shutter := by rw [Device.startPeriod_trv, Device.rampStep_trv]; simp)⟩
  stall _ _ h := ⟨h.1, h.2.through⟩
  plan _ _ _ _ h := ⟨h.1, h.2.through⟩
  step _ _ h := ⟨h.1, h.2.through⟩
  homed h := ⟨by simpa using h.1, h.2.through⟩
  lost _ h := ⟨by simpa using h.1, h.2.through⟩
  frame _ _ h := ⟨h.1, h.2.through⟩
  feedback c h := ⟨by simpa using h.1, h.2.through (shutter := fun _ _ => by
    simpa using Device.superviseShutter_shutter (Device.setPins _ { Device.pins _ with closed := c }))⟩
  mismatched _ runs h := ⟨by simpa using h.1, h.2.through (shutter := fun c awake => by
    simpa using (c h.1).mp (.inr runs))⟩
  limitCloses s h := ⟨by simpa using h.1, h.2.through (overtravel := fun _ => by cases s <;> simp [Device.setLimit, h.1])
    (shutter := by cases s <;> simp [Device.setLimit, srcShutter, srcOvertravel])⟩
  limitOpens s _ h := keeps_ite
    (fun still => ⟨by simpa using h.1, h.2.through (overtravel := fun _ => by
        rw [show ((Device.setLimit _ s false).pins.limitTs || (Device.setLimit _ s false).pins.limitDs) = true from still]
        simpa [h.1] using h.2.overtravel_of_closed h.1 (by cases s <;> simp_all [Device.setLimit]))
      (shutter := by cases s <;> simp [Device.setLimit])⟩)
    (fun opened => ⟨by simpa using h.1, h.2.through (overtravel := fun _ => by
        have opened : ((Device.setLimit _ s false).pins.limitTs || (Device.setLimit _ s false).pins.limitDs) = false :=
          Bool.eq_false_of_not_eq_true opened
        simp [opened])
      (shutter := by cases s <;> simp [Device.setLimit, srcShutter, srcOvertravel])⟩)
  stationWire n v h := ⟨h.1, h.2.through (overtravel := id) (shutter := id)⟩
  driveFaultRises _ h := ⟨by simpa using h.1, h.2.through⟩
  driveFaultFalls h := ⟨by simpa using h.1, h.2.through⟩
  overtravel s closed h := ⟨by simpa using h.1, h.2.through (overtravel := fun _ => by
    cases s <;> simp_all [Pins.limit, h.1])⟩
  breakRises n v h := ⟨by simpa using h.1, h.2.through⟩
  breakFalls n h := ⟨by simpa using h.1, h.2.through⟩
  acq a same h := ⟨h.1, h.2.through (channel := fun c => by rw [Device.setAcq_cond, Device.setAcq_acq, same]; exact c)⟩
  channels s h := ⟨by simpa using h.1, h.2.through (channel := fun c => Device.superviseChannels_channel s c)⟩
  cnv _ h := ⟨h.1, h.2.through⟩
  prf _ _ h := ⟨h.1, h.2.through⟩
  window scan n h := Device.evaluateWindow_levels scan n h
  countScan h := ⟨by simpa using h.1, h.2.through (last := rfl) (ref := by simp [Device.countScan])⟩
  std s ref last h := ⟨h.1, h.2.through (last := last) (ref := fun none => ref.symm.trans none)⟩
  failStd l v failed h := Device.failStd_levels l v failed h
  abandonStd h := Device.abandonStd_levels h
  completeStd h := Device.completeStd_levels h
  brk _ h := ⟨h.1, h.2.through⟩
  noticePlaced _ _ h := ⟨h.1, h.2.through⟩
  offer _ _ h := ⟨by simpa using h.1, h.2.through⟩
  offerState h := ⟨by simpa using h.1, h.2.through⟩
  replyBegun _ h := ⟨h.1, h.2.through⟩
  alarmBegun _ h := ⟨by simpa using h.1, h.2.through⟩
  noticeTaken _ h := ⟨by simpa using h.1, h.2.through⟩
  startedBegun _ h := ⟨by simpa using h.1, h.2.through⟩
  begin _ h := ⟨by simpa using h.1, h.2.through⟩
  commandDropped _ h := ⟨h.1, h.2.through⟩
  commandAppended _ _ h := ⟨h.1, h.2.through⟩
  replyPushed _ _ h := ⟨h.1, h.2.through⟩
  receiver _ h := ⟨h.1, h.2.through⟩
  breakCounted _ _ h := ⟨h.1, h.2.through⟩
  overflowPlaced h := ⟨by simpa using h.1, h.2.through⟩
  quality c q _ h := Device.relinked_levels (d := Device.setLnk _ _) ⟨h.1, h.2.through⟩
  acknowledged _ _ h := ⟨by simpa using h.1, h.2.through⟩
  modeSet r l m a k h := Device.modeSet_levels h rfl
  setWindow f h := Device.setWindow_levels f h
  restarted tag h := Device.restarted_levels tag h.1

/-- The conditions of single sources and of windows through every row. -/
theorem Device.ownersLevels_keeps : RowKeeps Device.OwnersLevels :=
  Device.liveLevels_keeps.toRowKeeps (fun _ h => h.through)
    (fun p wires h => by
      rcases wires with ⟨asleep, still⟩ | ⟨ts, ds, closed, reset⟩
      · exact h.through (overtravel := fun c => by simpa [asleep, still] using c) (shutter := fun _ awake => by
          rw [show p.reset = false from awake] at still; cases still)
      · exact h.through (overtravel := by simp [ts, ds, reset]) (shutter := by simp [closed, reset]))
    Device.held_levels (fun d cause strap => (d.coldStart_levels cause strap).2)
    (fun a same h => h.through (channel := by simp [same])) (fun h => h.through) (fun h => h.through)

end Sys2Proof.Machine
end

section
/-! PROOFS. No deliverable alarm waits (R160, R169); the bounds of the link's queues and RDY, and the link state with its counter (R160,
R177 to R188). -/

namespace Sys2Proof.Machine

/-! ## Rises and falls one after another -/

/-- The alarm entries and the alarm-notice queue of the second part come from the first by rises, falls and examinations. -/
inductive Device.Alarmed (d : Device) : Device → Prop where
  | same {e : Device} : e.alm = d.alm → e.lnk.alarmQ = d.lnk.alarmQ → d.Alarmed e
  | rise {e f : Device} (s : Fin 24) (v : Nat) : d.Alarmed e → f.alm = (e.rise s v).alm → f.lnk.alarmQ = (e.rise s v).lnk.alarmQ → d.Alarmed f
  | fall {e f : Device} (s : Fin 24) : d.Alarmed e → f.alm = (e.fall s).alm → f.lnk.alarmQ = (e.fall s).lnk.alarmQ → d.Alarmed f

theorem Device.Alarmed.refl (d : Device) : d.Alarmed d := .same rfl rfl

theorem Device.Alarmed.rises {d e : Device} (h : d.Alarmed e) (s : Fin 24) (v : Nat) : d.Alarmed (e.rise s v) := .rise s v h rfl rfl

theorem Device.Alarmed.falls {d e : Device} (h : d.Alarmed e) (s : Fin 24) : d.Alarmed (e.fall s) := .fall s h rfl rfl

/-- Only the entries and the queue of the first part matter. -/
theorem Device.Alarmed.since {d d' e : Device} (h : d'.Alarmed e) (alm : d'.alm = d.alm) (queue : d'.lnk.alarmQ = d.lnk.alarmQ) :
    d.Alarmed e := by
  induction h with
  | same alm' queue' => exact .same (alm'.trans alm) (queue'.trans queue)
  | rise s v _ alm' queue' ih => exact .rise s v ih alm' queue'
  | fall s _ alm' queue' ih => exact .fall s ih alm' queue'

theorem Device.Alarmed.trans {d e f : Device} (h : d.Alarmed e) (h' : e.Alarmed f) : d.Alarmed f := by
  induction h' with
  | same alm queue =>
    cases h with
    | same alm' queue' => exact .same (alm.trans alm') (queue.trans queue')
    | rise s v h alm' queue' => exact .rise s v h (alm.trans alm') (queue.trans queue')
    | fall s h alm' queue' => exact .fall s h (alm.trans alm') (queue.trans queue')
  | rise s v _ alm queue ih => exact .rise s v ih alm queue
  | fall s _ alm queue ih => exact .fall s ih alm queue

theorem Device.Alarmed.fallsIfActive {d e : Device} (h : d.Alarmed e) (s : Fin 24) : d.Alarmed (e.fallIfActive s) := by
  unfold Device.fallIfActive; split
  · exact h.falls s
  · exact h

section
variable {d : Device}

theorem Device.superviseShutter_alarmed : d.Alarmed d.superviseShutter := by
  unfold Device.superviseShutter; split
  · refine Device.Alarmed.fallsIfActive ?_ _; exact .same rfl rfl
  · exact .same rfl rfl

theorem Device.goTo_alarmed (st : TravState) : d.Alarmed (d.goTo st) := by
  unfold Device.goTo Device.commandShutter; dsimp only
  generalize ht : Trv.mk .. = t
  have entered : d.Alarmed ((d.stopSampling.setTrv t).setChanged true) := .same rfl rfl
  split
  · exact entered
  · exact Device.superviseShutter_alarmed.since rfl rfl

theorem Device.superviseChannels_alarmed (s : Sample) : d.Alarmed (d.superviseChannels s) := by
  unfold Device.superviseChannels; dsimp only; repeat' split
  · refine Device.Alarmed.rises ?_ _ _; exact .same rfl rfl
  · refine Device.Alarmed.falls ?_ _; exact .same rfl rfl
  · exact .same rfl rfl

theorem Device.evaluateWindow_alarmed (scan : Nat) (n : Fin 8) : d.Alarmed (d.evaluateWindow scan n) := by
  obtain ⟨v, evaluated⟩ := d.evaluateWindow_eq scan n
  rw [evaluated]; repeat' split
  · refine Device.Alarmed.rises ?_ _ _; exact .same rfl rfl
  · refine Device.Alarmed.falls ?_ _; exact .same rfl rfl
  · exact .same rfl rfl

theorem Device.failStd_alarmed (l : StdLast) (v : Nat) : d.Alarmed (d.failStd l v) := by
  refine Device.Alarmed.rises ?_ _ _; exact .same rfl rfl

theorem Device.adopt_alarmed (r : RefSet) (l : StdLast) (x : Option (Nat × Nat)) : d.Alarmed (d.adopt r l x) := by
  have idle (s : Std) : d.Alarmed ((d.setStd s).fallIfActive srcStdFail) := by
    refine Device.Alarmed.fallsIfActive ?_ _; exact .same rfl rfl
  unfold Device.adopt; dsimp only; repeat' split
  · exact idle _
  · exact (idle _).rises _ _
  · exact (idle _).fallsIfActive _

theorem Device.completeStd_alarmed : d.Alarmed d.completeStd := by
  rcases d.std.verdict_cases with channel | drift | adopted
  · rw [Device.completeStd_of_channel channel]; exact Device.failStd_alarmed _ _
  · rw [Device.completeStd_of_drift drift]; exact Device.failStd_alarmed _ _
  · rw [Device.completeStd_of_adopted (by rcases adopted with a | a <;> simp [a]) (by rcases adopted with a | a <;> simp [a])]
    exact Device.adopt_alarmed _ _ _

theorem Device.relinked_alarmed : d.Alarmed d.relinked := by
  unfold Device.relinked; dsimp only; repeat' split
  · exact .refl d
  · refine Device.Alarmed.fallsIfActive ?_ _; exact .same rfl rfl
  · refine Device.Alarmed.rises ?_ _ _; exact .same rfl rfl

theorem Device.setWindow_alarmed (f : Frame) : d.Alarmed (d.setWindow f).1 := by
  unfold Device.setWindow; dsimp only; repeat' split
  · exact .refl d
  · exact .refl d
  · refine Device.Alarmed.falls ?_ _; exact .same rfl rfl
  · exact .same rfl rfl

theorem Device.limitOpens_alarmed (s : Side) : d.Alarmed (if (d.setLimit s false).pins.limitTs || (d.setLimit s false).pins.limitDs
    then d.setLimit s false else (d.setLimit s false).fallIfActive srcOvertravel) := by
  have wire : d.Alarmed (d.setLimit s false) := by cases s <;> exact .same rfl rfl
  exact keeps_ite (fun _ => wire) (fun _ => wire.fallsIfActive _)

theorem Device.startUp_alarmed {cause : Nat} {tag : Byte} : d.Alarmed (d.startUp cause tag) := by
  unfold Device.startUp; dsimp only
  split
  · have raised : d.Alarmed (Device.riseOvertravel ((d.setTimeBase d.clk).setLnk
        { (d.setTimeBase d.clk).lnk with eventQ := [(d.setTimeBase d.clk).started cause tag] })) := by
      refine Device.Alarmed.rises ?_ _ _; exact .same rfl rfl
    exact raised.trans Device.superviseShutter_alarmed
  · exact Device.superviseShutter_alarmed.since rfl rfl

theorem Device.abandonStd_alarmed : d.Alarmed d.abandonStd := by
  unfold Device.abandonStd; split <;> exact .same rfl rfl
end

theorem Device.offer_alarmQ (d : Device) (f : Frame) : (d.offer f).lnk.alarmQ = d.lnk.alarmQ :=
  (congrArg (fun e : Device => e.lnk.alarmQ) (d.offer_lessNotices f) :)

theorem Device.placeOverflow_alarmQ (d : Device) : d.placeOverflow.lnk.alarmQ = d.lnk.alarmQ := by
  unfold Device.placeOverflow; repeat' split
  all_goals rfl

/-! ## Deliverable alarms (R160, R169) -/

theorem Device.alarmsServed.of_same {d e : Device} (h : d.alarmsServed) (alm : e.alm = d.alm) (queue : e.lnk.alarmQ = d.lnk.alarmQ) :
    e.alarmsServed := by
  unfold Device.alarmsServed
  rw [alm, queue]; exact h

/-- A fall makes no candidate and puts nothing out of service (R155). -/
theorem Device.alarmsServed.fall {d : Device} (h : d.alarmsServed) (s : Fin 24) : (d.fall s).alarmsServed := by
  have state : ∀ st, st = .requested ∨ st = .inService → ∀ t, ((d.fall s).alm.entry t).state = st ↔ (d.alm.entry t).state = st := by
    intro st active t
    by_cases same : t = s
    · subst same
      rw [show (d.fall t).alm.entry t = (d.entry t).afterFall from d.fall_entry_self t, AlarmEntry.afterFall]
      dsimp only
      rw [show d.alm.entry t = d.entry t from rfl]
      cases (d.entry t).state <;> rcases active with rfl | rfl <;> simp
    · rw [show (d.fall s).alm.entry t = d.alm.entry t from Device.fall_entry_of_ne d same]
  have requested := state .requested (.inl rfl)
  have serving := state .inService (.inr rfl)
  intro t chosen
  have candidate : d.alm.candidate = some t := by
    rw [Alm.candidate_iff] at chosen ⊢
    simp only [requested] at chosen
    exact chosen
  rcases h t candidate with held | nested | full
  · exact .inl held
  · refine .inr (.inl (Bool.eq_false_of_not_eq_true fun passes => ?_))
    rw [Alm.passes_iff] at passes
    simp only [serving] at passes
    rw [(d.alm.passes_iff t).mpr passes] at nested
    cases nested
  · exact .inr (.inr full)

theorem Device.Alarmed.served {d e : Device} (h : d.Alarmed e) (served : d.alarmsServed) : e.alarmsServed := by
  induction h with
  | same alm queue => exact served.of_same alm queue
  | rise s v _ alm queue _ => exact (Device.examine_served _).of_same alm queue
  | fall s _ alm queue ih => exact (ih.fall s).of_same alm queue

theorem Device.Alarmed.alarmQ_le {d e : Device} (h : d.Alarmed e) (bound : d.lnk.alarmQ.length ≤ 8) : e.lnk.alarmQ.length ≤ 8 := by
  induction h with
  | same _ queue => rw [queue]; exact bound
  | rise s v _ _ queue ih => rw [queue]; exact Device.rise_alarmQ_le _ s v ih
  | fall s _ _ queue ih => rw [queue]; exact ih

/-- A part under the delivery hold serves its alarms: none is deliverable (R171). -/
theorem Device.alarmsServed_of_hold {d : Device} (h : d.alm.hold = true) : d.alarmsServed := fun _ _ => .inl h

theorem Device.alarmsServed_keeps : FieldKeeps Device.alarmsServed where
  changed _ h := h
  trv _ _ _ h := h
  goTo st h := (Device.goTo_alarmed st).served h
  dropEnable h := h.of_same (by simp) (by simp)
  raiseEnable h := h.of_same (by simp) (by simp)
  ramp _ h := h.of_same (by simp) (by simp)
  stall _ _ h := h
  plan _ _ _ _ h := h
  step _ _ h := h
  homed h := by refine Device.Alarmed.served (Device.Alarmed.fallsIfActive ?_ _) h; exact .same rfl rfl
  lost _ _ := Device.examine_served _
  frame _ _ h := h
  feedback _ h := Device.superviseShutter_alarmed.served (h.of_same rfl rfl)
  mismatched _ _ _ := Device.examine_served _
  limitCloses s h := Device.examine_served _
  limitOpens s _ h := (Device.limitOpens_alarmed s).served h
  stationWire _ _ h := h
  driveFaultRises v h := Device.examine_served _
  driveFaultFalls h := ((Device.Alarmed.refl _).fallsIfActive _).served h
  overtravel _ _ h := Device.examine_served _
  breakRises _ _ h := Device.examine_served _
  breakFalls _ h := ((Device.Alarmed.refl _).fallsIfActive _).served h
  acq _ _ h := h
  channels s h := (Device.superviseChannels_alarmed s).served h
  cnv _ h := h
  prf _ _ h := h
  window scan n h := (Device.evaluateWindow_alarmed scan n).served h
  countScan h := h.of_same (by simp) (by simp)
  std _ _ _ h := h
  failStd _ _ _ h := Device.examine_served _
  abandonStd h := Device.abandonStd_alarmed.served h
  completeStd h := Device.completeStd_alarmed.served h
  brk _ h := h
  noticePlaced _ _ h := h
  offer _ _ h := h.of_same (by simp) (Device.offer_alarmQ _ _)
  offerState h := h.of_same (by simp) (by simp)
  replyBegun _ h := h
  alarmBegun _ h := Device.examine_served _
  noticeTaken _ h := h.of_same (by simp) rfl
  startedBegun _ h := Device.examine_served _
  begin _ h := h
  commandDropped _ h := h
  commandAppended _ _ h := h
  replyPushed _ _ h := h
  receiver _ h := h
  breakCounted _ _ h := h
  overflowPlaced h := h.of_same (by simp) (Device.placeOverflow_alarmQ _)
  quality _ _ _ h := Device.relinked_alarmed.served (h.of_same rfl rfl)
  acknowledged _ _ h := Device.examine_served _
  modeSet _ _ _ _ _ h := Device.examine_served _
  setWindow f h := (Device.setWindow_alarmed f).served h
  restarted tag _ := Device.startUp_alarmed.served (Device.alarmsServed_of_hold rfl)

theorem Device.alarmsServed_rows : RowKeeps Device.alarmsServed :=
  (FieldKeeps.awake.and Device.alarmsServed_keeps).toRowKeeps (fun _ h => h) (fun _ _ h => h)
    (fun _ => Device.alarmsServed_of_hold rfl) (fun _ _ _ => Device.startUp_alarmed.served (Device.alarmsServed_of_hold rfl))
    (fun _ _ h => h) (fun h => h) (fun h => h)

/-! ## The queues of the link (R160, R177, R178, R182, R186 to R188) -/

/-- What the bounds of the queues speak of. -/
theorem Device.queuesSound.of_same {d e : Device} (h : d.queuesSound) (cmdQ : e.lnk.cmdQ = d.lnk.cmdQ) (replyQ : e.lnk.replyQ = d.lnk.replyQ)
    (alarmQ : e.lnk.alarmQ.length ≤ 8) (eventQ : e.lnk.eventQ = d.lnk.eventQ) (overflow : e.lnk.overflow = d.lnk.overflow)
    (rdy : e.lnk.rdy = d.lnk.rdy) (reset : e.pins.reset = d.pins.reset) : e.queuesSound := by
  obtain ⟨hcmd, hreply, _, hevent, hdone, hstate, hrdy⟩ := h
  unfold Device.queuesSound
  rw [cmdQ, replyQ, eventQ, overflow, rdy, reset]
  exact ⟨hcmd, hreply, alarmQ, hevent, hdone, hstate, hrdy⟩

theorem Device.queuesSound.alarmQ {d : Device} (h : d.queuesSound) : d.lnk.alarmQ.length ≤ 8 := h.2.2.1

/-- Alarms concern their own queue alone. -/
theorem Device.queuesSound.of_lessAlarms {d e : Device} (h : d.queuesSound) (same : e.lessAlarms = d.lessAlarms)
    (alarmed : d.Alarmed e) : e.queuesSound :=
  h.of_same (Device.cmdQ_of_lessAlarms same :) (Device.replyQ_of_lessAlarms same :) (alarmed.alarmQ_le h.alarmQ)
    (Device.eventQ_of_lessAlarms same :) (Device.overflow_of_lessAlarms same :) (Device.rdy_of_lessAlarms same :)
    (congrArg Pins.reset (Device.pins_of_lessAlarms same :))

@[simp] theorem countKind_nil (k : Byte) : countKind k [] = 0 := rfl
@[simp] theorem countKind_append (k : Byte) (p q : List Frame) : countKind k (p ++ q) = countKind k p + countKind k q := by
  simp [countKind]
@[simp] theorem countKind_cons (k : Byte) (f : Frame) (q : List Frame) :
    countKind k (f :: q) = (if f.kind = k then 1 else 0) + countKind k q := by
  unfold countKind; by_cases same : f.kind = k <;> simp [same, Nat.add_comm]

theorem countKind_tail_le (k : Byte) (q : List Frame) : countKind k q.tail ≤ countKind k q := by
  cases q with
  | nil => exact le_rfl
  | cons f q => simp

theorem countKind_refreshState (k : Byte) (p : List Byte) (q : List Frame) : countKind k (refreshState p q) = countKind k q := by
  induction q with
  | nil => rfl
  | cons f q ih =>
    rw [show refreshState p (f :: q) = (if f.kind = stateKind then { f with payload := p } else f) :: refreshState p q from rfl]
    rw [countKind_cons, countKind_cons, ih]
    split <;> rfl

theorem countKind_of_not_hasState {q : List Frame} (none : hasState q = false) : countKind stateKind q = 0 := by
  unfold hasState at none
  unfold countKind
  rw [List.length_eq_zero_iff, List.filter_eq_nil_iff]
  simpa using none

/-- An offer keeps the bounds of the queues (R186, R187); a STATE notice is offered only where none waits (R188). -/
theorem Device.queuesSound.offer {d : Device} (h : d.queuesSound) (f : Frame)
    (once : f.kind = stateKind → countKind stateKind (d.lnk.eventQ ++ d.lnk.overflow) = 0) : (d.offer f).queuesSound := by
  obtain ⟨hcmd, hreply, halarm, hevent, hdone, hstate, hrdy⟩ := h
  have count : countKind stateKind [f] + countKind stateKind (d.lnk.eventQ ++ d.lnk.overflow) ≤ 1 := by
    by_cases state : f.kind = stateKind
    · simp [once state, state]
    · simpa [state] using hstate
  rw [countKind_append] at count hstate
  rcases d.offer_cases f with ⟨room, empty, placed⟩ | ⟨c, lost⟩ | ⟨room, kept⟩
  · rw [placed]
    refine ⟨hcmd, hreply, halarm, ?_, hdone, ?_, hrdy⟩
    · simp only [Device.setLnk_lnk, List.length_append, List.length_singleton]; omega
    · simp only [Device.setLnk_lnk, countKind_append]; omega
  · rw [lost]
    exact ⟨hcmd, hreply, halarm, hevent, hdone, by rw [← countKind_append] at hstate; exact hstate, hrdy⟩
  · rw [kept]
    refine ⟨hcmd, hreply, halarm, hevent, ?_, ?_, hrdy⟩
    · simp only [Device.setLnk_lnk, countKind_append]
      by_cases done : f.kind = doneKind
      · have := room done
        simp only [countKind_cons, done, if_true, countKind_nil]
        unfold countKind
        omega
      · simpa [done] using hdone
    · simp only [Device.setLnk_lnk, countKind_append]; omega

theorem Device.queuesSound.offerState {d : Device} (h : d.queuesSound) : d.offerState.queuesSound := by
  unfold Device.offerState; split
  · obtain ⟨hcmd, hreply, halarm, hevent, hdone, hstate, hrdy⟩ := h
    refine ⟨hcmd, hreply, halarm, ?_, ?_, ?_, hrdy⟩
    · simpa [refreshState] using hevent
    · simpa [countKind_refreshState] using hdone
    · simpa [countKind_refreshState] using hstate
  · rename_i none
    simp only [Bool.or_eq_true, not_or, Bool.not_eq_true] at none
    refine h.offer _ fun _ => ?_
    rw [countKind_append, countKind_of_not_hasState none.1, countKind_of_not_hasState none.2]

theorem Device.queuesSound.takeNotice {d : Device} (h : d.queuesSound) (f : Frame) : (d.takeNotice f).queuesSound := by
  obtain ⟨hcmd, hreply, halarm, hevent, hdone, hstate, hrdy⟩ := h
  rw [countKind_append] at hstate
  refine ⟨hcmd, hreply, halarm, ?_, hdone, ?_, hrdy⟩
  · show d.lnk.eventQ.tail.length ≤ 8
    simp only [List.length_tail]; omega
  · show countKind stateKind (d.lnk.eventQ.tail ++ d.lnk.overflow) ≤ 1
    have := countKind_tail_le stateKind d.lnk.eventQ
    rw [countKind_append]; omega

theorem Device.queuesSound.placeOverflow {d : Device} (h : d.queuesSound) : d.placeOverflow.queuesSound := by
  obtain ⟨hcmd, hreply, halarm, hevent, hdone, hstate, hrdy⟩ := h
  unfold Device.placeOverflow; split
  · exact ⟨hcmd, hreply, halarm, hevent, hdone, hstate, hrdy⟩
  · rename_i f rest waits
    rw [waits, countKind_cons] at hdone
    rw [waits, countKind_append, countKind_cons] at hstate
    split
    · rename_i room
      have room : d.lnk.eventQ.length < 8 := by simpa [Lnk.eventRoom] using room
      refine ⟨hcmd, hreply, halarm, ?_, ?_, ?_, hrdy⟩
      · simp only [Device.setLnk_lnk, List.length_append, List.length_singleton]; omega
      · simp only [Device.setLnk_lnk]; omega
      · simp only [Device.setLnk_lnk, countKind_append, countKind_cons, countKind_nil]; omega
    · refine ⟨hcmd, hreply, halarm, hevent, ?_, ?_, hrdy⟩
      · rw [waits, countKind_cons]; exact hdone
      · rw [waits, countKind_append, countKind_cons]; exact hstate

theorem Device.queuesSound.commandDropped {d : Device} (h : d.queuesSound) (awake : d.pins.reset = false) :
    (d.setLnk d.lnk.dropHead).queuesSound := by
  obtain ⟨hcmd, hreply, halarm, hevent, hdone, hstate, hrdy⟩ := h
  refine ⟨?_, hreply, halarm, hevent, hdone, hstate, fun ready => ⟨?_, awake⟩⟩
  · simp only [Device.setLnk_lnk, Lnk.dropHead, List.length_tail]; omega
  · simp only [Device.setLnk_lnk, Lnk.dropHead, Bool.or_eq_true, List.isEmpty_iff] at ready ⊢
    rcases ready with ready | empty
    · have := (hrdy ready).1
      simp only [List.length_tail]; omega
    · simp [empty]

theorem Device.queuesSound.commandAppended {d : Device} (h : d.queuesSound) (f : Frame) (room : d.lnk.cmdQ.length < 8) :
    (d.setLnk (d.lnk.append f)).queuesSound := by
  obtain ⟨hcmd, hreply, halarm, hevent, hdone, hstate, hrdy⟩ := h
  refine ⟨?_, hreply, halarm, hevent, hdone, hstate, fun ready => ?_⟩
  · simp only [Device.setLnk_lnk, Lnk.append, List.length_append, List.length_singleton]; omega
  · simp only [Device.setLnk_lnk, Lnk.append, Bool.and_eq_true, decide_eq_true_eq, List.length_append, List.length_singleton] at ready ⊢
    exact ⟨ready.2, (hrdy ready.1).2⟩

theorem Device.queuesSound.replyPushed {d : Device} (h : d.queuesSound) (f : Frame) (room : d.lnk.replyQ.length < 8) :
    (d.pushReply f).queuesSound := by
  obtain ⟨hcmd, hreply, halarm, hevent, hdone, hstate, hrdy⟩ := h
  refine ⟨hcmd, ?_, halarm, hevent, hdone, hstate, hrdy⟩
  simp only [Device.pushReply, Device.setLnk_lnk, List.length_append, List.length_singleton]; omega

theorem Device.queuesSound.replyBegun {d : Device} (h : d.queuesSound) (f : Frame) :
    ((d.setLnk { d.lnk with replyQ := d.lnk.replyQ.tail }).begin f).queuesSound := by
  obtain ⟨hcmd, hreply, halarm, hevent, hdone, hstate, hrdy⟩ := h
  refine ⟨hcmd, ?_, halarm, hevent, hdone, hstate, hrdy⟩
  show d.lnk.replyQ.tail.length ≤ 8
  simp only [List.length_tail]; omega

theorem Device.queuesSound.noticePlaced {d : Device} (h : d.queuesSound) (f : Frame) (other : f.kind ≠ stateKind)
    (room : d.lnk.eventRoom = true) : (d.setLnk { d.lnk with eventQ := d.lnk.eventQ ++ [f] }).queuesSound := by
  obtain ⟨hcmd, hreply, halarm, hevent, hdone, hstate, hrdy⟩ := h
  have room : d.lnk.eventQ.length < 8 := by simpa [Lnk.eventRoom] using room
  rw [countKind_append] at hstate
  refine ⟨hcmd, hreply, halarm, ?_, hdone, ?_, hrdy⟩
  · simp only [Device.setLnk_lnk, List.length_append, List.length_singleton]; omega
  · simp only [Device.setLnk_lnk, countKind_append, countKind_cons, other, if_false, countKind_nil]; omega

theorem Device.queuesSound.beginAlarm {d : Device} (h : d.queuesSound) (f : Frame) : (d.beginAlarm f).queuesSound := by
  have taken : ((d.setLnk { d.lnk with alarmQ := d.lnk.alarmQ.tail }).begin f).queuesSound := by
    obtain ⟨hcmd, hreply, halarm, hevent, hdone, hstate, hrdy⟩ := h
    refine ⟨hcmd, hreply, ?_, hevent, hdone, hstate, hrdy⟩
    show d.lnk.alarmQ.tail.length ≤ 8
    simp only [List.length_tail]; omega
  exact taken.of_same (by simp [Device.beginAlarm]) (by simp [Device.beginAlarm]) (Device.examine_alarmQ_le _ taken.alarmQ)
    (by simp [Device.beginAlarm]) (by simp [Device.beginAlarm]) (by simp [Device.beginAlarm]) (by simp)

theorem Device.queuesSound.examined {d : Device} (h : d.queuesSound) : d.examine.queuesSound :=
  h.of_same (by simp) (by simp) (Device.examine_alarmQ_le _ h.alarmQ) (by simp) (by simp) (by simp) (by simp)

/-- STARTED alone waits after a restart, and RDY is asserted again (R196, R198). -/
theorem Device.queuesSound_startUp {d : Device} (cause : Nat) (tag : Byte) (awake : d.pins.reset = false) (cmdQ : d.lnk.cmdQ = [])
    (replyQ : d.lnk.replyQ = []) (alarmQ : d.lnk.alarmQ = []) (overflow : d.lnk.overflow = []) : (d.startUp cause tag).queuesSound := by
  have fresh : ((d.setTimeBase d.clk).setLnk { d.lnk with eventQ := [d.started cause tag] }).queuesSound := by
    simp [Device.queuesSound, cmdQ, replyQ, alarmQ, overflow, awake, Device.started, startedKind, stateKind]
  exact fresh.of_same (Device.cmdQ_of_lessAlarms (d.startUp_lessAlarms cause tag) :) (Device.replyQ_of_lessAlarms (d.startUp_lessAlarms cause tag) :)
    (Device.startUp_alarmed.alarmQ_le (by rw [alarmQ]; exact Nat.zero_le _)) (Device.eventQ_of_lessAlarms (d.startUp_lessAlarms cause tag) :)
    (Device.overflow_of_lessAlarms (d.startUp_lessAlarms cause tag) :) (Device.rdy_of_lessAlarms (d.startUp_lessAlarms cause tag) :)
    (congrArg Pins.reset (Device.pins_of_lessAlarms (d.startUp_lessAlarms cause tag) :))

/-- Where the notice queues, the counts and the alarms are left alone, or alarms alone change, the bounds are kept. -/
theorem Device.liveQueues_of_alarms {d d' e : Device} (same : e.lessAlarms = d'.lessAlarms) (h : d.Live Device.queuesSound)
    (lnk : d'.lnk = d.lnk) (reset : d'.pins.reset = d.pins.reset) (alarmed : d.Alarmed e) : e.Live Device.queuesSound := by
  have pins : e.pins = d'.pins := Device.pins_of_lessAlarms same
  have sound : d'.queuesSound := h.2.of_same (by rw [lnk]) (by rw [lnk]) (by rw [lnk]; exact h.2.alarmQ) (by rw [lnk]) (by rw [lnk])
    (by rw [lnk]) reset
  exact ⟨by rw [pins, reset]; exact h.1, sound.of_same (Device.cmdQ_of_lessAlarms same :) (Device.replyQ_of_lessAlarms same :)
    (alarmed.alarmQ_le h.2.alarmQ) (Device.eventQ_of_lessAlarms same :) (Device.overflow_of_lessAlarms same :)
    (Device.rdy_of_lessAlarms same :) (congrArg Pins.reset pins :)⟩

theorem Device.liveQueues_of_same {d e : Device} (h : d.Live Device.queuesSound) (lnk : e.lnk = d.lnk) (reset : e.pins.reset = d.pins.reset) :
    e.Live Device.queuesSound :=
  ⟨by rw [reset]; exact h.1, h.2.of_same (by rw [lnk]) (by rw [lnk]) (by rw [lnk]; exact h.2.alarmQ) (by rw [lnk]) (by rw [lnk])
    (by rw [lnk]) reset⟩

theorem Device.liveQueues_rise {d : Device} (h : d.Live Device.queuesSound) (s : Fin 24) (v : Nat) : (d.rise s v).Live Device.queuesSound :=
  Device.liveQueues_of_alarms (d.rise_lessAlarms s v) h rfl rfl ((Device.Alarmed.refl d).rises s v)

theorem Device.liveQueues_fallIfActive {d : Device} (h : d.Live Device.queuesSound) (s : Fin 24) :
    (d.fallIfActive s).Live Device.queuesSound :=
  Device.liveQueues_of_alarms (d.fallIfActive_lessAlarms s) h rfl rfl ((Device.Alarmed.refl d).fallsIfActive s)

theorem Device.liveQueues_examine {d : Device} (h : d.Live Device.queuesSound) : d.examine.Live Device.queuesSound :=
  ⟨by rw [Device.examine_pins]; exact h.1, h.2.examined⟩

theorem Device.liveQueues_superviseShutter {d : Device} (h : d.Live Device.queuesSound) : d.superviseShutter.Live Device.queuesSound :=
  Device.liveQueues_of_alarms d.superviseShutter_lessAlarms h rfl rfl Device.superviseShutter_alarmed

theorem Device.liveQueues_completeStd {d : Device} (h : d.Live Device.queuesSound) : d.completeStd.Live Device.queuesSound := by
  obtain ⟨s, same⟩ := d.completeStd_lessAlarms
  exact Device.liveQueues_of_alarms same h rfl rfl Device.completeStd_alarmed

theorem Device.liveQueues_relinked {d : Device} (h : d.Live Device.queuesSound) : d.relinked.Live Device.queuesSound := by
  have same := d.relinked_lessAlarms
  have sound := h.2.of_same (Device.cmdQ_of_lessAlarms same :) (Device.replyQ_of_lessAlarms same :)
    (Device.relinked_alarmed.alarmQ_le h.2.alarmQ) (Device.eventQ_of_lessAlarms same :) (Device.overflow_of_lessAlarms same :)
    (Device.rdy_of_lessAlarms same :) (congrArg Pins.reset (Device.pins_of_lessAlarms same) :)
  exact ⟨(congrArg Pins.reset (Device.pins_of_lessAlarms same) :).trans h.1, sound⟩

theorem Device.liveQueues_limit {d : Device} (s : Side) (v : Bool) (h : d.Live Device.queuesSound) : (d.setLimit s v).Live Device.queuesSound :=
  Device.liveQueues_of_same h (by simp) (by cases s <;> rfl)

theorem Device.liveQueues_beginStarted {d : Device} (f : Frame) (h : d.Live Device.queuesSound) : (d.beginStarted f).Live Device.queuesSound := by
  have taken := h.2.takeNotice f
  have released : (((d.takeNotice f).setLnk { (d.takeNotice f).lnk with startedHold := false }).setAlm
      { d.alm with hold := false }).Live Device.queuesSound := ⟨h.1, taken.of_same rfl rfl taken.alarmQ rfl rfl rfl rfl⟩
  exact Device.liveQueues_examine released

theorem Device.restartBlocks_lnk (d : Device) :
    d.restartBlocks.lnk = { Lnk.reset d.lnk.baud with rx := d.lnk.rx, tx := d.lnk.tx } := by
  unfold Device.restartBlocks; dsimp only; rw [Device.restartBreaks_lnk]

theorem Device.restartBlocks_pins (d : Device) : d.restartBlocks.pins = d.pins := by
  unfold Device.restartBlocks; dsimp only; rw [Device.restartBreaks_pins]

theorem Device.liveQueues_restarted {d : Device} (tag : Byte) (awake : d.pins.reset = false) :
    (d.restartBlocks.startUp 2 tag).Live Device.queuesSound := by
  have stays : d.restartBlocks.pins.reset = false := by rw [Device.restartBlocks_pins]; exact awake
  have lnk := d.restartBlocks_lnk
  generalize d.restartBlocks = e at stays lnk ⊢
  exact ⟨by rw [Device.startUp_pins]; exact stays,
    Device.queuesSound_startUp 2 tag stays (by rw [lnk]; rfl) (by rw [lnk]; rfl) (by rw [lnk]; rfl) (by rw [lnk]; rfl)⟩

theorem Device.liveQueues_keeps : FieldKeeps (Device.Live Device.queuesSound) where
  changed _ h := h
  trv _ _ _ h := h
  goTo st h := Device.liveQueues_of_alarms (Device.goTo_lessAlarms _ st) h rfl rfl (Device.goTo_alarmed st)
  dropEnable h := Device.liveQueues_of_same h (by simp) (by simp)
  raiseEnable h := Device.liveQueues_of_same h (by simp) (by simp)
  ramp _ h := Device.liveQueues_of_same h (by simp) (by simp)
  stall _ _ h := h
  plan _ _ _ _ h := h
  step _ _ h := h
  homed h := by refine Device.liveQueues_fallIfActive ?_ _; exact h
  lost v h := by refine Device.liveQueues_rise ?_ _ v; exact h
  frame _ _ h := h
  feedback _ h := Device.liveQueues_superviseShutter (d := Device.setPins _ _) h
  mismatched v _ h := by refine Device.liveQueues_rise ?_ _ v; exact h
  limitCloses s h := Device.liveQueues_rise (Device.liveQueues_limit s true h) _ _
  limitOpens s _ h := keeps_ite (fun _ => Device.liveQueues_limit s false h)
    (fun _ => Device.liveQueues_fallIfActive (Device.liveQueues_limit s false h) _)
  stationWire _ _ h := h
  driveFaultRises v h := Device.liveQueues_rise h _ v
  driveFaultFalls h := Device.liveQueues_fallIfActive h _
  overtravel _ _ h := Device.liveQueues_rise h _ _
  breakRises _ v h := Device.liveQueues_rise h _ v
  breakFalls _ h := Device.liveQueues_fallIfActive h _
  acq _ _ h := h
  channels s h := Device.liveQueues_of_alarms (Device.superviseChannels_lessAlarms _ s) h rfl rfl (Device.superviseChannels_alarmed s)
  cnv _ h := h
  prf _ _ h := h
  window scan n h := Device.liveQueues_of_alarms (Device.evaluateWindow_lessAlarms _ scan n) h rfl rfl (Device.evaluateWindow_alarmed scan n)
  countScan h := h
  std _ _ _ h := h
  failStd l v _ h := Device.liveQueues_of_alarms (Device.failStd_lessAlarms _ l v) h rfl rfl (Device.failStd_alarmed l v)
  abandonStd h := Device.liveQueues_of_same h (by simp) (by simp)
  completeStd h := Device.liveQueues_completeStd h
  brk _ h := h
  noticePlaced r room h := ⟨h.1, h.2.noticePlaced r.notice (show breakKind ≠ stateKind by decide) room⟩
  offer f other h := ⟨by rw [Device.offer_pins]; exact h.1, h.2.offer f (fun state => absurd state other)⟩
  offerState h := ⟨by rw [Device.offerState_pins]; exact h.1, h.2.offerState⟩
  replyBegun f h := ⟨h.1, h.2.replyBegun f⟩
  alarmBegun f h := ⟨by rw [Device.beginAlarm_pins]; exact h.1, h.2.beginAlarm f⟩
  noticeTaken f h := ⟨h.1, h.2.takeNotice f⟩
  startedBegun f h := Device.liveQueues_beginStarted f h
  begin _ h := h
  commandDropped _ h := ⟨h.1, h.2.commandDropped h.1⟩
  commandAppended f room h := ⟨h.1, h.2.commandAppended f room⟩
  replyPushed f room h := ⟨h.1, h.2.replyPushed f room⟩
  receiver _ h := h
  breakCounted _ _ h := h
  overflowPlaced h := ⟨by rw [Device.placeOverflow_pins]; exact h.1, h.2.placeOverflow⟩
  quality _ _ _ h := Device.liveQueues_relinked ⟨h.1, h.2⟩
  acknowledged s _ h := Device.liveQueues_examine (by rw [Device.acknowledge_eq]; exact h)
  modeSet _ _ _ _ _ h := Device.liveQueues_examine (d := Device.setAlm _ _) h
  setWindow f h := Device.liveQueues_of_alarms (Device.setWindow_lessAlarms _ f) h rfl rfl (Device.setWindow_alarmed f)
  restarted tag h := Device.liveQueues_restarted tag h.1

/-- The bounds of the queues through every row. -/
theorem Device.queuesSound_rows : RowKeeps Device.queuesSound :=
  Device.liveQueues_keeps.toRowKeeps (fun _ h => h)
    (fun p wires h => by
      rcases wires with ⟨asleep, still⟩ | ⟨_, _, _, reset⟩
      · exact h.of_same rfl rfl h.alarmQ rfl rfl rfl (still.trans asleep.symm)
      · exact h.of_same rfl rfl h.alarmQ rfl rfl rfl reset)
    (fun d => by simp [Device.queuesSound, Device.held, Device.blank, Lnk.reset])
    (fun d cause strap => Device.queuesSound_startUp cause 0 rfl rfl rfl rfl rfl)
    (fun _ _ h => h) (fun h => h) (fun h => h)

/-! ## The link state with its counter (R180) -/

/-- Following the counter leads to the state that the counter allows, where it rose by eight at most or fell (R180). -/
theorem LinkState.follow_sound {l : LinkState} {q q' : Nat} (good : l = .good ↔ q < 96)
    (near : q' ≤ min 255 (q + 8) ∨ q' ≤ q) : (l.follow q' = .good ↔ q' < 96) ∧ (192 ≤ q' → l.follow q' = .lost) := by
  cases l <;> simp at good <;> unfold LinkState.follow <;> dsimp only <;> (repeat' split) <;> simp <;> omega

theorem Device.linkSound.of_same {d e : Device} (h : d.linkSound) (link : e.lnk.link = d.lnk.link := by simp)
    (quality : e.lnk.quality = d.lnk.quality := by simp) : e.linkSound := by
  unfold Device.linkSound; rw [link, quality]; exact h

theorem Device.linkSound.of_lessAlarms {d e : Device} (same : e.lessAlarms = d.lessAlarms) (h : d.linkSound) : e.linkSound :=
  h.of_same (Device.link_of_lessAlarms same) (Device.quality_of_lessAlarms same)

theorem Device.linkSound.of_lessNotices {d e : Device} (same : e.lessNotices = d.lessNotices) (h : d.linkSound) : e.linkSound :=
  h.of_same (congrArg (fun e : Device => e.lnk.link) same :) (congrArg (fun e : Device => e.lnk.quality) same :)

theorem Device.linkSound.relinked {d : Device} {c : LinkCounts} {q : Nat} (near : q ≤ min 255 (d.lnk.quality + 8) ∨ q ≤ d.lnk.quality)
    (h : d.linkSound) : (d.setLnk { d.lnk with counts := c, quality := q }).relinked.linkSound := by
  obtain ⟨bound, good, _⟩ := h
  have link := (d.setLnk { d.lnk with counts := c, quality := q }).relinked_link
  have quality : (d.setLnk { d.lnk with counts := c, quality := q }).relinked.lnk.quality = q :=
    (congrArg (fun e : Device => e.lnk.quality) (Device.relinked_lessAlarms _) :)
  have follows := LinkState.follow_sound good near
  unfold Device.linkSound
  rw [link, quality]
  exact ⟨by rcases near with n | n <;> omega, follows⟩

theorem Device.linkSound_keeps : FieldKeeps Device.linkSound where
  changed _ h := h
  trv _ _ _ h := h
  goTo st h := h.of_same
  dropEnable h := h.of_same
  raiseEnable h := h.of_same
  ramp _ h := h.of_same
  stall _ _ h := h
  plan _ _ _ _ h := h
  step _ _ h := h
  homed h := h.of_same
  lost v h := h.of_same
  frame _ _ h := h
  feedback _ h := h.of_same
  mismatched v _ h := h.of_same
  limitCloses s h := h.of_same
  limitOpens s _ h := keeps_ite (fun _ => h.of_same) (fun _ => h.of_same)
  stationWire _ _ h := h
  driveFaultRises v h := h.of_same
  driveFaultFalls h := h.of_same
  overtravel _ _ h := h.of_same
  breakRises _ v h := h.of_same
  breakFalls _ h := h.of_same
  acq _ _ h := h
  channels s h := h.of_same
  cnv _ h := h
  prf _ _ h := h
  window scan n h := h.of_same
  countScan h := h
  std _ _ _ h := h
  failStd l v _ h := h.of_same
  abandonStd h := h.of_same
  completeStd h := h.of_same
  brk _ h := h
  noticePlaced _ _ h := h
  offer f _ h := h.of_lessNotices (Device.offer_lessNotices _ f)
  offerState h := h.of_same
  replyBegun f h := h
  alarmBegun f h := Device.linkSound.of_lessAlarms (Device.beginAlarm_lessAlarms _ f) h
  noticeTaken f h := h
  startedBegun f h := Device.linkSound.of_lessAlarms (Device.beginStarted_lessAlarms _ f) h
  begin _ h := h
  commandDropped _ h := h
  commandAppended f room h := h
  replyPushed f room h := h
  receiver _ h := h
  breakCounted _ _ h := h
  overflowPlaced h := h.of_same (by simp) (by unfold Device.placeOverflow; repeat' split
                                              all_goals rfl)
  quality c q near h := h.relinked near
  acknowledged s _ h := h.of_same
  modeSet _ _ _ _ _ h := h.of_same
  setWindow f h := h.of_same
  restarted tag _ := by
    unfold Device.linkSound
    rw [Device.startUp_link, Device.startUp_quality, Device.restartBlocks_lnk]
    exact ⟨Nat.zero_le _, by simp [Lnk.reset], by simp [Lnk.reset]⟩

theorem Device.linkSound_rows : RowKeeps Device.linkSound :=
  (FieldKeeps.awake.and Device.linkSound_keeps).toRowKeeps (fun _ h => h) (fun _ _ h => h)
    (fun d => by simp [Device.linkSound, Device.held, Device.blank, Lnk.reset])
    (fun d cause strap => Device.linkSound.of_lessAlarms (Device.startUp_lessAlarms _ cause 0)
      (by simp [Device.linkSound, Device.blank, Lnk.reset]))
    (fun _ _ h => h) (fun h => h) (fun h => h)

/-- Settles O58: each bound through every row. -/
theorem stepKeepsQueuesAndLink : Obligations.StepKeepsQueuesAndLink := by
  unfold Obligations.StepKeepsQueuesAndLink
  exact fun s t run => ⟨Device.queuesSound_rows.step run, Device.linkSound_rows.step run⟩

end Sys2Proof.Machine
end

section
/-! PROOFS. The break record with the sheet state (R129, R136, R141, R142, R146), and the stations' conditions and timers (R132, R133,
R147). -/

namespace Sys2Proof.Machine

/-! ## Stations and sheet state -/

theorem Device.setStationAt_station (d : Device) (n m : Fin 8) (x : Station) :
    (d.setStationAt n x).station m = if m = n then x else d.station m := by
  simp only [Device.station, Device.setStationAt, Device.setBrk, Fin.getElem_fin, Vector.getElem_set, Fin.ext_iff, eq_comm]

theorem mem_allEight (n : Fin 8) : n ∈ allEight := by revert n; decide

theorem Brk.anyBroken_iff (b : Brk) : b.anyBroken = true ↔ ∃ n : Fin 8, b.stations[n].state = .broken := by
  unfold Brk.anyBroken
  rw [List.any_eq_true]
  exact ⟨fun ⟨n, _, h⟩ => ⟨n, of_decide_eq_true h⟩, fun ⟨n, h⟩ => ⟨n, mem_allEight n, decide_eq_true h⟩⟩

theorem Brk.evaluate_of_none {b : Brk} (h : b.openRec = none) : b.evaluate = if b.allHold then .running else .noSheet := by
  unfold Brk.evaluate; rw [h]

theorem Brk.evaluate_of_some {b : Brk} {r : BreakRecord} (h : b.openRec = some r) :
    b.evaluate = if b.anyBroken then .sheetBreak else if b.allHold then .running else .threading := by
  unfold Brk.evaluate; rw [h]

/-! ## Records but for their times -/

/-- What a record says of stations: the first-out one and the losses (R141). -/
def BreakRecord.core (r : BreakRecord) : Fin 8 × List LossEntry := (r.firstOut, r.losses)

/-- A station appears at most once in a record (R141). -/
def BreakRecord.once (r : BreakRecord) : Prop := (r.firstOut :: r.losses.map LossEntry.station).Nodup

theorem BreakRecord.once_congr {r r' : BreakRecord} (h : r'.core = r.core) : r'.once ↔ r.once := by
  unfold BreakRecord.once
  rw [show r'.firstOut = r.firstOut from congrArg Prod.fst h, show r'.losses = r.losses from congrArg Prod.snd h]

/-- The loss of a station raises its condition, as the model tests it (R147). -/
theorem BreakRecord.raises_iff (r : BreakRecord) (n : Fin 8) :
    r.raises n = true ↔ r.firstOut = n ∨ ∃ l ∈ r.losses, l.station = n ∧ l.independent = true := by
  simp [BreakRecord.raises]

theorem BreakRecord.raises_congr {r r' : BreakRecord} (h : r'.core = r.core) (n : Fin 8) : r'.raises n = r.raises n := by
  unfold BreakRecord.raises
  rw [show r'.firstOut = r.firstOut from congrArg Prod.fst h, show r'.losses = r.losses from congrArg Prod.snd h]

@[simp] theorem BreakRecord.noted_core (n : Nat) (r : BreakRecord) : (r.noted n).core = r.core := by
  unfold BreakRecord.noted; split <;> rfl

/-- The Break Detector but for numbers, times and what is due. -/
def Brk.view (b : Brk) : SheetState × Vector Station 8 × Timer × Option (Fin 8 × List LossEntry) × List (Fin 8 × List LossEntry) :=
  (b.sheet, b.stations, b.cascade, b.openRec.map BreakRecord.core, b.history.map BreakRecord.core)

theorem Device.placeBreak_view (d : Device) : d.placeBreak.brk.view = d.brk.view := by
  have noted (n : Nat) : BreakRecord.core ∘ BreakRecord.noted n = BreakRecord.core := funext (BreakRecord.noted_core n)
  unfold Device.placeBreak; split
  · rfl
  · dsimp only; split
    · rfl
    · simp [Brk.view, noted]

@[simp] theorem Device.placeBreak_alm (d : Device) : d.placeBreak.alm = d.alm := by
  unfold Device.placeBreak; dsimp only; repeat' split
  all_goals rfl

theorem Device.placeBreaks_view (k : Nat) (d : Device) : (d.placeBreaks k).brk.view = d.brk.view ∧ (d.placeBreaks k).alm = d.alm := by
  induction k generalizing d with
  | zero => exact ⟨rfl, rfl⟩
  | succ k ih =>
    unfold Device.placeBreaks; split
    · exact ⟨(ih _).1.trans d.placeBreak_view, (ih _).2.trans d.placeBreak_alm⟩
    · exact ⟨rfl, rfl⟩

theorem Device.fallDue_view (d : Device) (n : Nat) : (d.fallDue n).brk.view = d.brk.view ∧ (d.fallDue n).alm = d.alm :=
  Device.placeBreaks_view _ _

/-! ## What stands -/

/-- A station's condition is due while it is BROKEN by a loss that raises it (R147). -/
def Brk.raised (b : Brk) (n : Fin 8) : Prop := b.stations[n].state = .broken ∧ ∃ r ∈ b.openRec, r.raises n = true

/-- The Break Detector between a change of a station and the evaluation of the sheet state; where `w`, with the stations' conditions and
timers. -/
structure Device.breaksHold (w : Prop) (d : Device) : Prop where
  cascade : d.brk.cascade.isSome = true → d.brk.openRec.isSome = true
  history : d.brk.history.length ≤ 16
  once : ∀ r ∈ d.brk.openRec.toList ++ d.brk.history, r.once
  raised : w → ∀ n : Fin 8, d.cond (srcBreak n) = true ↔ d.brk.raised n
  timers : w → ∀ n : Fin 8, ((d.station n).qualifyTimer.isSome = true → (d.station n).state = .losing) ∧
    ((d.station n).restoreTimer.isSome = true → (d.station n).state = .restoring)

/-- The Break Detector after the evaluation of the sheet state. -/
structure Device.breaksStand (w : Prop) (d : Device) : Prop extends d.breaksHold w where
  sheet : d.brk.openRec.isSome = true ↔ d.brk.sheet = .sheetBreak ∨ d.brk.sheet = .threading

theorem Device.recordStands_iff (d : Device) : d.recordStands ↔ d.breaksStand False :=
  ⟨fun ⟨sheet, cascade, history, once⟩ => ⟨⟨cascade, history, once, False.elim, False.elim⟩, sheet⟩,
   fun h => ⟨h.sheet, h.cascade, h.history, h.once⟩⟩

/-- Every record in the two places has its station once, told by the cores. -/
theorem once_of_cores {o o' : Option BreakRecord} {q q' : List BreakRecord} (ho : o'.map BreakRecord.core = o.map BreakRecord.core)
    (hq : q'.map BreakRecord.core = q.map BreakRecord.core) (once : ∀ r ∈ o.toList ++ q, r.once) : ∀ r ∈ o'.toList ++ q', r.once := by
  have cores : (o'.toList ++ q').map BreakRecord.core = (o.toList ++ q).map BreakRecord.core := by
    rw [List.map_append, List.map_append, hq]
    congr 1
    cases o <;> cases o' <;> simp_all
  intro r mem
  have mem' : r.core ∈ (o.toList ++ q).map BreakRecord.core := cores ▸ List.mem_map_of_mem mem
  obtain ⟨r', found, same⟩ := List.mem_map.mp mem'
  exact (BreakRecord.once_congr same).mp (once r' found)

section
variable {w : Prop} {d e : Device}

theorem Device.breaksHold.of_view (h : d.breaksHold w) (view : e.brk.view = d.brk.view)
    (conds : ∀ n, e.cond (srcBreak n) = d.cond (srcBreak n)) : e.breaksHold w := by
  simp only [Brk.view, Prod.mk.injEq] at view
  obtain ⟨_, stations, cascade, openRec, history⟩ := view
  have isSome : e.brk.openRec.isSome = d.brk.openRec.isSome := by simpa using congrArg Option.isSome openRec
  have length : e.brk.history.length = d.brk.history.length := by simpa using congrArg List.length history
  have station (n : Fin 8) : e.station n = d.station n := by unfold Device.station; rw [stations]
  refine ⟨by rw [cascade, isSome]; exact h.cascade, length ▸ h.history, once_of_cores openRec history h.once, fun on n => ?_, fun on n => ?_⟩
  · rw [conds n, h.raised on n]
    unfold Brk.raised
    rw [stations]
    refine and_congr_right fun _ => ?_
    cases old : d.brk.openRec <;> cases new : e.brk.openRec <;> rw [old, new] at openRec <;> simp at openRec
    simp [BreakRecord.raises_congr openRec n]
  · rw [station]; exact h.timers on n

theorem Device.breaksStand.of_view (h : d.breaksStand w) (view : e.brk.view = d.brk.view)
    (conds : ∀ n, e.cond (srcBreak n) = d.cond (srcBreak n)) : e.breaksStand w := by
  refine ⟨h.tobreaksHold.of_view view conds, ?_⟩
  simp only [Brk.view, Prod.mk.injEq] at view
  obtain ⟨sheet, _, _, openRec, _⟩ := view
  rw [show e.brk.openRec.isSome = d.brk.openRec.isSome by simpa using congrArg Option.isSome openRec, sheet]
  exact h.sheet

end

/-! ## What leaves the Break Detector and its conditions alone -/

theorem srcBreak_ne (n : Fin 8) : srcBreak n ≠ srcPositionLost ∧ srcBreak n ≠ srcOvertravel ∧ srcBreak n ≠ srcDriveFault ∧
    srcBreak n ≠ srcShutter ∧ srcBreak n ≠ srcStdFail ∧ srcBreak n ≠ srcStdDrift ∧ srcBreak n ≠ srcChannelFault ∧
    srcBreak n ≠ srcLinkDegraded := by revert n; decide

theorem Device.completeStd_cond_break (d : Device) (n : Fin 8) : d.completeStd.cond (srcBreak n) = d.cond (srcBreak n) := by
  rcases d.std.verdict_cases with channel | drift | adopted
  · rw [Device.completeStd_of_channel channel]; simp [srcBreak_ne n]
  · rw [Device.completeStd_of_drift drift]; simp [srcBreak_ne n]
  · rw [Device.completeStd_of_adopted (by rcases adopted with a | a <;> simp [a]) (by rcases adopted with a | a <;> simp [a]),
      Device.adopt_cond _ _ _ _ _ Std.largest_of_adoptedDrift]
    simp [srcBreak_ne n]

theorem Device.setWindow_cond_break (d : Device) (f : Frame) (n : Fin 8) : (d.setWindow f).1.cond (srcBreak n) = d.cond (srcBreak n) := by
  unfold Device.setWindow; dsimp only; repeat' split
  all_goals simp [srcBreak_ne_srcWindow, Device.setWindowAt]

/-- What rests on the Break Detector and the stations' conditions alone is kept by every change that is not the Break Detector's. -/
theorem CalmKeeps.ofBreaks {L : Device → Prop}
    (same : ∀ {d e : Device}, L d → e.brk = d.brk → (∀ n, e.cond (srcBreak n) = d.cond (srcBreak n)) → L e) : CalmKeeps L where
  changed _ h := same h rfl (fun _ => rfl)
  trv _ _ _ h := same h rfl (fun _ => rfl)
  goTo _ h := same h (by simp) (fun n => by simp [srcBreak_ne n])
  dropEnable h := same h (by simp) (fun n => by simp)
  raiseEnable h := same h (by simp) (fun n => by simp)
  ramp _ h := same h (by simp) (fun n => by simp)
  stall _ _ h := same h rfl (fun _ => rfl)
  plan _ _ _ _ h := same h rfl (fun _ => rfl)
  step _ _ h := same h rfl (fun _ => rfl)
  homed h := same h (by simp) (fun n => by simp [srcBreak_ne n])
  lost _ h := same h (by simp) (fun n => by simp [srcBreak_ne n])
  frame _ _ h := same h rfl (fun _ => rfl)
  feedback _ h := same h (by simp) (fun n => by simp [srcBreak_ne n])
  mismatched _ _ h := same h (by simp) (fun n => by simp [srcBreak_ne n])
  limitCloses _ h := same h (by simp) (fun n => by simp [srcBreak_ne n])
  limitOpens s _ h := keeps_ite (fun _ => same h (by simp) (fun n => by simp))
    (fun _ => same h (by simp) (fun n => by simp [srcBreak_ne n]))
  driveFaultRises _ h := same h (by simp) (fun n => by simp [srcBreak_ne n])
  driveFaultFalls h := same h (by simp) (fun n => by simp [srcBreak_ne n])
  overtravel _ _ h := same h (by simp) (fun n => by simp [srcBreak_ne n])
  acq _ _ h := same h rfl (fun _ => rfl)
  channels _ h := same h (by simp) (fun n => by simp [srcBreak_ne n])
  cnv _ h := same h rfl (fun _ => rfl)
  prf _ _ h := same h rfl (fun _ => rfl)
  window _ _ h := same h (by simp) (fun n => by simp [Device.evaluateWindow_cond, srcBreak_ne_srcWindow])
  countScan h := same h rfl (fun _ => rfl)
  std _ _ _ h := same h rfl (fun _ => rfl)
  failStd _ _ _ h := same h (by simp) (fun n => by simp [srcBreak_ne n])
  abandonStd h := same h (by simp) (fun n => by simp)
  completeStd h := same h (by simp) (Device.completeStd_cond_break _)
  offer _ _ h := same h (by simp) (fun n => by simp)
  offerState h := same h (by simp) (fun n => by simp)
  replyBegun _ h := same h rfl (fun _ => rfl)
  alarmBegun _ h := same h (by simp) (fun n => by simp)
  noticeTaken _ h := same h rfl (fun _ => rfl)
  startedBegun _ h := same h (by simp) (fun n => by simp)
  begin _ h := same h rfl (fun _ => rfl)
  commandDropped _ h := same h rfl (fun _ => rfl)
  commandAppended _ _ h := same h rfl (fun _ => rfl)
  replyPushed _ _ h := same h rfl (fun _ => rfl)
  receiver _ h := same h rfl (fun _ => rfl)
  breakCounted _ _ h := same h rfl (fun _ => rfl)
  overflowPlaced h := same h (by simp) (fun n => by simp)
  quality _ _ _ h := same h (by simp) (fun n => by simp [Device.relinked_cond, srcBreak_ne n])
  acknowledged _ _ h := same h (by simp) (fun n => by simp)
  modeSet _ _ _ _ _ h := same h (by simp) (fun n => (Device.examine_cond _ _).trans (Device.cond_of_entries _ rfl))
  setWindow f h := same h (by simp) (Device.setWindow_cond_break _ f)

/-- A given Break Detector with given conditions. -/
def Device.breaksAre (b : Brk) (c : Fin 8 → Bool) (d : Device) : Prop := d.brk = b ∧ ∀ n, d.cond (srcBreak n) = c n

theorem Device.breaksAre_calm (b : Brk) (c : Fin 8 → Bool) : CalmKeeps (Device.breaksAre b c) :=
  CalmKeeps.ofBreaks fun h brk conds => ⟨brk.trans h.1, fun n => (conds n).trans (h.2 n)⟩

section
variable {w : Prop} {d e : Device}

theorem Device.breaksStand.of_same (h : d.breaksStand w) (brk : e.brk = d.brk) (conds : ∀ n, e.cond (srcBreak n) = d.cond (srcBreak n)) :
    e.breaksStand w := h.of_view (congrArg Brk.view brk) conds

theorem Device.breaksStand_calm (w : Prop) : CalmKeeps (Device.breaksStand w) := CalmKeeps.ofBreaks fun h brk conds => h.of_same brk conds

/-! ## The evaluation of the sheet state (R136, R146) -/

/-- A record that enters the history closes the open one (R146). -/
theorem Device.breaksStand_archived (h : d.breaksHold w) (r : BreakRecord) (once : r.once) (quiet : w → ∀ n, d.cond (srcBreak n) = false)
    (sheet : d.brk.sheet = .running ∨ d.brk.sheet = .noSheet) : (d.setBrk (d.brk.archive r)).breaksStand w where
  cascade := nofun
  history := by simp [Brk.archive]
  once r' mem := by
    have mem : r' ∈ r :: d.brk.history := List.mem_of_mem_take (show r' ∈ (r :: d.brk.history).take 16 from mem)
    rcases List.mem_cons.mp mem with rfl | old
    · exact once
    · exact h.once r' (List.mem_append_right _ old)
  raised on n := by
    rw [Device.setBrk_cond, quiet on n]
    simp [Brk.raised, Brk.archive]
  timers on n := h.timers on n
  sheet := by
    rcases sheet with s | s <;> simp [Brk.archive, s]

/-- The open record as the entry to RUNNING completes it: with its restore time, and its window closed where that still ran. -/
def Device.finishedRecord (d : Device) (r : BreakRecord) : BreakRecord :=
  { (if d.brk.cascade.isSome then d.closedWindow r else r) with restore := some (d.since r.time) }

theorem Device.finishedRecord_core (d : Device) (r : BreakRecord) : (d.finishedRecord r).core = r.core := by
  unfold Device.finishedRecord; split <;> rfl

theorem Device.closeRecord_of_none (h : d.brk.openRec = none) : d.closeRecord = d := by
  unfold Device.closeRecord; rw [h]

/-- The completed record first stands as the open one, its notice due where its window still ran, and then enters the history. -/
def Device.finished (d : Device) (r : BreakRecord) : Device :=
  if d.brk.cascade.isSome then (d.setBrk { d.brk with openRec := some (d.finishedRecord r), cascade := none }).fallDue (d.finishedRecord r).number
  else d.setBrk { d.brk with openRec := some (d.finishedRecord r), cascade := none }

theorem Device.closeRecord_of_some {r : BreakRecord} (h : d.brk.openRec = some r) :
    d.closeRecord = (d.finished r).setBrk ((d.finished r).brk.archive ((d.finished r).brk.openRec.getD (d.finishedRecord r))) := by
  unfold Device.closeRecord; rw [h]; rfl

theorem Device.finished_view (d : Device) (r : BreakRecord) :
    (d.finished r).brk.view = (d.setBrk { d.brk with openRec := some r, cascade := none }).brk.view ∧ (d.finished r).alm = d.alm := by
  have core : (d.setBrk { d.brk with openRec := some (d.finishedRecord r), cascade := none }).brk.view =
      (d.setBrk { d.brk with openRec := some r, cascade := none }).brk.view := by
    simp [Brk.view, d.finishedRecord_core r]
  unfold Device.finished; split
  · exact ⟨(Device.fallDue_view _ _).1.trans core, (Device.fallDue_view _ _).2⟩
  · exact ⟨core, rfl⟩

/-- The open record closes at the entry to RUNNING, where no condition of a station stands any more (R146). -/
theorem Device.closeRecord_breaks (h : d.breaksHold w) (running : d.brk.sheet = .running) (quiet : w → ∀ n, d.cond (srcBreak n) = false) :
    d.closeRecord.breaksStand w := by
  cases found : d.brk.openRec with
  | none =>
    rw [Device.closeRecord_of_none found]
    exact ⟨h, by simp [found, running]⟩
  | some r =>
    rw [Device.closeRecord_of_some found]
    obtain ⟨view, alm⟩ := d.finished_view r
    have conds (n : Fin 8) : (d.finished r).cond (srcBreak n) = d.cond (srcBreak n) := Device.cond_congr _ alm
    have stood : (d.setBrk { d.brk with openRec := some r, cascade := none }).breaksHold w :=
      ⟨nofun, h.history, found ▸ h.once, fun on n => by rw [Device.setBrk_cond, h.raised on n]; simp [Brk.raised, found], h.timers⟩
    have same := view
    simp only [Brk.view, Prod.mk.injEq] at same
    obtain ⟨sheet, _, _, openRec, _⟩ := same
    refine Device.breaksStand_archived (stood.of_view view conds) _ ?_ (fun on n => (conds n).trans (quiet on n))
      (.inl (sheet.trans running))
    cases now : (d.finished r).brk.openRec with
    | none => rw [now] at openRec; nomatch openRec
    | some q =>
      rw [now] at openRec
      exact (BreakRecord.once_congr (Option.some.inj openRec)).mpr (h.once r (by simp [found]))

/-- The evaluation makes the sheet state that the stations and the open record give, and closes the record at RUNNING (R136, R146). -/
theorem Device.evaluateSheet_breaks (h : d.breaksHold w) (standing : d.brk.openRec.isSome = true → d.brk.sheet ≠ .running ∨ d.brk.anyBroken = true) :
    d.evaluateSheet.breaksStand w := by
  have given : d.brk.openRec.isSome = true ↔ d.brk.evaluate = .sheetBreak ∨ d.brk.evaluate = .threading ∨
      d.brk.evaluate = .running ∧ d.brk.openRec.isSome = true ∧ d.brk.anyBroken = false := by
    cases found : d.brk.openRec with
    | none => rw [Brk.evaluate_of_none found]; split <;> simp
    | some r => rw [Brk.evaluate_of_some found]; split <;> [skip; split] <;> simp_all
  have set {s : SheetState} : ((d.setBrk { d.brk with sheet := s }).setChanged true).breaksHold w :=
    ⟨h.cascade, h.history, h.once, fun on n => h.raised on n, h.timers⟩
  unfold Device.evaluateSheet; dsimp only
  split
  · next same =>
    refine ⟨h, given.trans ?_⟩
    rw [same]
    constructor
    · rintro (b | t | ⟨r, open', whole⟩)
      · exact .inl b
      · exact .inr t
      · rcases standing open' with n | n
        · exact absurd r n
        · rw [whole] at n; nomatch n
    · exact fun x => x.imp_right .inl
  · cases new : d.brk.evaluate with
    | sheetBreak =>
      exact (Device.breaksStand_calm w).parkOnBreak ⟨set, iff_of_true (given.mpr (.inl new)) (.inl rfl)⟩
    | threading => exact ⟨set, iff_of_true (given.mpr (.inr (.inl new))) (.inr rfl)⟩
    | noSheet =>
      refine ⟨set, iff_of_false (fun open' => ?_) (by simp)⟩
      simpa [new] using given.mp open'
    | running =>
      refine (Device.breaksStand_calm w).tryResume (Device.closeRecord_breaks set rfl fun on n => ?_)
      rw [Device.setChanged_cond, Device.setBrk_cond, Bool.eq_false_iff]
      intro stands
      obtain ⟨broken, r, open', _⟩ := (h.raised on n).mp stands
      have whole : d.brk.anyBroken = false := by
        have open' : d.brk.openRec.isSome = true := Option.isSome_of_mem open'
        simpa [new, open'] using given.mp open'
      exact absurd ((Brk.anyBroken_iff _).mpr ⟨n, broken⟩) (by simp [whole])

/-! ## Changes of one station -/

theorem Device.breaksHold.quiet (h : d.breaksHold w) (on : w) {n : Fin 8} (whole : (d.station n).state ≠ .broken) : d.cond (srcBreak n) = false :=
  Bool.eq_false_iff.mpr fun stands => whole ((h.raised on n).mp stands).1

theorem Device.breaksHold.quiet_of_none (h : d.breaksHold w) (on : w) (none : d.brk.openRec = none) (n : Fin 8) : d.cond (srcBreak n) = false :=
  Bool.eq_false_iff.mpr fun stands => by obtain ⟨r, found, _⟩ := ((h.raised on n).mp stands).2; rw [none] at found; nomatch found

/-- One station changes, its condition following. -/
theorem Device.breaksHold.stationChanged (h : d.breaksHold w) (n : Fin 8) (x : Station) (brk : e.brk = (d.setStationAt n x).brk)
    (others : ∀ m, m ≠ n → e.cond (srcBreak m) = d.cond (srcBreak m))
    (self : w → (e.cond (srcBreak n) = true ↔ x.state = .broken ∧ ∃ r ∈ d.brk.openRec, r.raises n = true))
    (timers : w → (x.qualifyTimer.isSome = true → x.state = .losing) ∧ (x.restoreTimer.isSome = true → x.state = .restoring)) :
    e.breaksHold w := by
  have station (m : Fin 8) : e.station m = if m = n then x else d.station m := by
    rw [← Device.setStationAt_station]; unfold Device.station; rw [brk]
  refine ⟨by rw [brk]; exact h.cascade, by rw [brk]; exact h.history, by rw [brk]; exact h.once, fun on m => ?_, fun on m => ?_⟩
  · unfold Brk.raised
    rw [show e.brk.stations[m] = e.station m from rfl, station, show e.brk.openRec = d.brk.openRec by rw [brk]; rfl]
    by_cases same : m = n
    · subst same; rw [if_pos rfl]; exact self on
    · rw [if_neg same, others m same]; exact h.raised on m
  · rw [station]; split
    · exact timers on
    · exact h.timers on m

/-- One station changes to a state that is not BROKEN, and the sheet state is evaluated. -/
theorem Device.breaksStand.stationMoved (h : d.breaksStand w) (n : Fin 8) (x : Station) (whole : x.state ≠ .broken)
    (brk : e.brk = (d.setStationAt n x).brk) (others : ∀ m, m ≠ n → e.cond (srcBreak m) = d.cond (srcBreak m))
    (self : w → e.cond (srcBreak n) = false)
    (timers : w → (x.qualifyTimer.isSome = true → x.state = .losing) ∧ (x.restoreTimer.isSome = true → x.state = .restoring)) :
    e.evaluateSheet.breaksStand w := by
  refine Device.evaluateSheet_breaks
    (h.tobreaksHold.stationChanged n x brk others (fun on => by simp [self on, whole]) timers) fun open' => .inl ?_
  rw [brk] at open' ⊢
  rcases h.sheet.mp open' with s | s <;> simp [Device.setStationAt, s]

theorem Device.breaksHold.noQualify (h : d.breaksHold w) (on : w) {n : Fin 8} (other : (d.station n).state ≠ .losing) :
    (d.station n).qualifyTimer = none := by
  simpa using mt (h.timers on n).1 other

theorem Device.breaksHold.noRestore (h : d.breaksHold w) (on : w) {n : Fin 8} (other : (d.station n).state ≠ .restoring) :
    (d.station n).restoreTimer = none := by
  simpa using mt (h.timers on n).2 other

/-! ## Presence events -/

theorem Device.presenceSeen_breaks (n : Fin 8) (h : d.breaksStand w) : (d.presenceSeen n).breaksStand w := by
  have seen (other : (d.station n).state ≠ .losing) (t : Timer) :
      ((d.setStationAt n { d.station n with state := .restoring, restoreTimer := t }).fallIfActive (srcBreak n)).evaluateSheet.breaksStand w := by
    refine h.stationMoved n { d.station n with state := .restoring, restoreTimer := t } (by simp) (by simp) (fun m differs => ?_)
      (fun on => by simp) (fun on => ⟨fun q => ?_, fun _ => rfl⟩)
    · simp [srcBreak_inj, differs, Device.setStationAt]
    · simp [h.noQualify on other] at q
  unfold Device.presenceSeen; dsimp only
  split
  · next state => exact seen (by simp [state]) _
  · next state => exact seen (by simp [state]) _
  · next state =>
    exact h.stationMoved n _ (by simp) rfl (fun _ _ => rfl) (fun on => h.quiet on (by simp [state]))
      (fun on => ⟨nofun, fun r => by simp [h.noRestore on (n := n) (by simp [state])] at r⟩)
  all_goals exact h

theorem Device.presenceLost_breaks (n : Fin 8) (h : d.breaksStand w) : (d.presenceLost n).breaksStand w := by
  unfold Device.presenceLost; dsimp only
  split
  · next state =>
    exact h.stationMoved n _ (by simp) rfl (fun _ _ => rfl) (fun on => h.quiet on (by simp [state]))
      (fun on => ⟨fun q => by simp [h.noQualify on (n := n) (by simp [state])] at q, nofun⟩)
  · next state =>
    refine h.stationMoved n _ (by split <;> simp) rfl (fun _ _ => rfl) (fun on => h.quiet on (by simp [state])) (fun on => ?_)
    have q := h.noQualify on (n := n) (by simp [state])
    have r := h.noRestore on (n := n) (by simp [state])
    split <;> simp [q, r]
  all_goals exact h

theorem Device.stationInput_breaks (n : Fin 8) (v : Bool) (h : d.breaksStand w) : (d.stationInput n v).breaksStand w := by
  have moved : (d.moveStationInput n v).breaksStand w := h.of_same rfl fun _ => rfl
  unfold Device.stationInput; dsimp only; repeat' split
  · exact h
  · exact Device.presenceSeen_breaks n moved
  · exact Device.presenceLost_breaks n moved

theorem Device.stationRestored_breaks (n : Fin 8) (timed : (d.station n).restoreTimer.isSome = true) (h : d.breaksStand w) :
    (d.stationRestored n).breaksStand w := by
  refine h.stationMoved n _ (by simp) rfl (fun _ _ => rfl) (fun on => h.quiet on ?_) (fun on => ⟨fun q => ?_, nofun⟩)
  · simp [(h.timers on n).2 timed]
  · simp [h.noQualify on (n := n) (by simp [(h.timers on n).2 timed])] at q

/-! ## Qualified losses -/

theorem addLoss_stations (n : Fin 8) (o : Nat) (i : Bool) (l : List LossEntry) :
    (addLoss n o i l).map LossEntry.station = if n ∈ l.map LossEntry.station then l.map LossEntry.station else l.map LossEntry.station ++ [n] := by
  induction l with
  | nil => rfl
  | cons e es ih =>
    unfold addLoss
    by_cases same : e.station = n
    · simp [same]
    · rw [if_neg same, List.map_cons, ih]
      have : n ≠ e.station := Ne.symm same
      simp only [List.map_cons, List.mem_cons, this, false_or]
      split <;> rfl

theorem BreakRecord.withLoss_once {r : BreakRecord} (n : Fin 8) (o : Nat) (i : Bool) (h : r.once) : (r.withLoss n o i).once := by
  unfold BreakRecord.withLoss
  split
  · exact h
  · next other =>
    unfold BreakRecord.once at h ⊢
    rw [addLoss_stations]
    split
    · exact h
    · next fresh =>
      rw [List.nodup_cons] at h ⊢
      exact ⟨by simpa [h.1] using other, List.Nodup.append h.2 (List.nodup_singleton n) (by simpa using fresh)⟩

theorem addLoss_raises {m n : Fin 8} (o : Nat) (i : Bool) (other : m ≠ n) (l : List LossEntry) :
    (addLoss n o i l).any (fun e => decide (e.station = m) && e.independent) = l.any (fun e => decide (e.station = m) && e.independent) := by
  induction l with
  | nil => simp [addLoss, other.symm]
  | cons e es ih =>
    unfold addLoss
    split
    · rfl
    · rw [List.any_cons, List.any_cons, ih]

/-- A loss leaves what the record says of the other stations. -/
theorem BreakRecord.withLoss_raises {m n : Fin 8} (r : BreakRecord) (o : Nat) (i : Bool) (other : m ≠ n) :
    (r.withLoss n o i).raises m = r.raises m := by
  unfold BreakRecord.withLoss
  split
  · rfl
  · unfold BreakRecord.raises; rw [addLoss_raises o i other]

/-- A loss while a record is open is entered, and the station's condition rises where the record says so (R141, R147). -/
theorem Device.cascadeLoss_breaks {r : BreakRecord} (h : d.breaksStand w) (n : Fin 8) (x : Station) (broken : x.state = .broken)
    (open' : d.brk.openRec = some r) (quiet : w → d.cond (srcBreak n) = false)
    (timers : w → x.qualifyTimer = none ∧ x.restoreTimer = none) :
    ((d.setStationAt n x).cascadeLoss n).evaluateSheet.breaksStand w := by
  have entered : ((d.setStationAt n x).cascadeLoss n).breaksHold w ∧ ((d.setStationAt n x).cascadeLoss n).brk.sheet = d.brk.sheet := by
    unfold Device.cascadeLoss
    rw [show (d.setStationAt n x).brk.openRec = some r from open']
    dsimp only
    set r' := r.withLoss n (sat16 ((d.setStationAt n x).since r.time)) (!(d.setStationAt n x).brk.cascade.isSome)
    generalize (if (d.setStationAt n x).brk.cascade.isSome = true then (d.setStationAt n x).after (d.setStationAt n x).cascadeTime else none) = t
    generalize hb : { (d.setStationAt n x).brk with openRec := some r', cascade := t } = b
    have stations : b.stations = d.brk.stations.set n x := hb ▸ rfl
    have newRec : b.openRec = some r' := hb ▸ rfl
    have history : b.history = d.brk.history := hb ▸ rfl
    have sheet : b.sheet = d.brk.sheet := hb ▸ rfl
    have key (e : Device) (brk : e.brk = b) (others : ∀ m, m ≠ n → e.cond (srcBreak m) = d.cond (srcBreak m))
        (self : w → e.cond (srcBreak n) = r'.raises n) : e.breaksHold w ∧ e.brk.sheet = d.brk.sheet := by
      have station (m : Fin 8) : e.station m = if m = n then x else d.station m := by
        rw [← Device.setStationAt_station]; unfold Device.station; rw [brk, stations]; rfl
      refine ⟨⟨fun _ => by rw [brk, newRec]; rfl, by rw [brk, history]; exact h.history, ?_, fun on m => ?_, fun on m => ?_⟩, brk ▸ sheet⟩
      · rw [brk, newRec, history]
        intro q mem
        rcases List.mem_cons.mp mem with rfl | old
        · exact BreakRecord.withLoss_once _ _ _ (h.once r (by simp [open']))
        · exact h.once q (List.mem_append_right _ old)
      · unfold Brk.raised
        rw [show e.brk.stations[m] = e.station m from rfl, station, brk, newRec]
        by_cases same : m = n
        · subst same; simp [self on, broken]
        · have raised := h.raised on m
          unfold Brk.raised at raised
          rw [if_neg same, others m same, raised, open']
          simp only [Option.mem_def, Option.some.injEq, exists_eq_left']
          rw [show r'.raises m = r.raises m from BreakRecord.withLoss_raises _ _ _ same]
          rfl
      · rw [station]; split
        · simp [timers on]
        · exact h.timers on m
    split
    · next raises => exact key _ (by simp) (fun m other => by simp [srcBreak_inj, other, Device.setStationAt]) (fun on => by simp [raises])
    · next raises =>
      exact key _ rfl (fun _ _ => rfl) fun on => by rw [Bool.eq_false_iff.mpr raises]; exact quiet on
  obtain ⟨hold, sheet⟩ := entered
  refine Device.evaluateSheet_breaks hold fun _ => .inl ?_
  rw [sheet]
  rcases h.sheet.mp (by rw [open']; rfl) with s | s <;> simp [s]

/-- A break is declared in RUNNING: its record opens, the sheet state is BREAK, its station's condition rises (R138, R139, R147). -/
theorem Device.declareBreak_breaks (h : d.breaksStand w) (n : Fin 8) (x : Station) (broken : x.state = .broken)
    (running : d.brk.sheet = .running) (timers : w → x.qualifyTimer = none ∧ x.restoreTimer = none) :
    ((d.setStationAt n x).declareBreak n).breaksStand w := by
  have none : d.brk.openRec = none := by simpa [running] using h.sheet
  set r := (d.setStationAt n x).newBreakRecord n
  set b : Brk := { (d.setStationAt n x).brk with openRec := some r, breakNumber := r.number, sheet := .sheetBreak } with hb
  set d₁ := (d.setStationAt n x).setBrk { (d.setStationAt n x).brk with openRec := some r, breakNumber := r.number } with hd₁
  have evaluated : d₁.brk.evaluate = .sheetBreak := by
    rw [Brk.evaluate_of_some (r := r) rfl, if_pos ((Brk.anyBroken_iff _).mpr ⟨n, ?_⟩)]
    simpa [hd₁, Device.setStationAt] using broken
  obtain ⟨noted, notedConds⟩ := (Device.breaksAre_calm d₁.brk (fun m => d.cond (srcBreak m))).noteResume (d := d₁) ⟨rfl, fun _ => rfl⟩
  have left : d₁.noteResume.evaluateSheet.breaksAre b (fun m => d.cond (srcBreak m)) := by
    unfold Device.evaluateSheet
    rw [noted, evaluated]
    dsimp only
    rw [if_neg (by rw [show d₁.brk.sheet = .running from running]; simp)]
    exact (Device.breaksAre_calm b _).parkOnBreak ⟨rfl, notedConds⟩
  unfold Device.declareBreak
  dsimp only
  generalize d₁.noteResume.evaluateSheet = e at left
  obtain ⟨brk, conds⟩ := left
  generalize (((e.setPrf { e.prf with reseed := true }).rise (srcBreak n) r.number).after _) = t
  have brk' : ((e.setPrf { e.prf with reseed := true }).rise (srcBreak n) r.number).brk = b := by simp [brk]
  rw [brk']
  have station (m : Fin 8) : b.stations[m] = if m = n then x else d.station m := by
    rw [← Device.setStationAt_station]; rfl
  refine ⟨⟨fun _ => rfl, h.history, ?_, fun on m => ?_, fun on m => ?_⟩, iff_of_true rfl (.inl rfl)⟩
  · intro q mem
    rcases List.mem_cons.mp mem with rfl | old
    · simp [BreakRecord.once, r, Device.newBreakRecord]
    · exact h.once q (List.mem_append_right _ old)
  · unfold Brk.raised
    rw [Device.setBrk_brk]
    dsimp only
    rw [station]
    simp only [Device.setBrk_cond, Device.rise_cond, Device.setPrf_cond, srcBreak_inj, conds]
    by_cases same : m = n
    · subst same; simp [broken, hb, r, Device.newBreakRecord, BreakRecord.raises]
    · simp [same, h.quiet_of_none on none m, hb, r, Device.newBreakRecord, BreakRecord.raises, Ne.symm same]
  · rw [Device.station, Device.setBrk_brk]
    dsimp only
    rw [station]; split
    · simp [timers on]
    · exact h.timers on m

theorem Device.qualifyLoss_breaks (n : Fin 8) (timed : (d.station n).qualifyTimer.isSome = true) (h : d.breaksStand w) :
    (d.qualifyLoss n).breaksStand w := by
  have losing (on : w) : (d.station n).state = .losing := (h.timers on n).1 timed
  have quiet (on : w) : d.cond (srcBreak n) = false := h.quiet on (by simp [losing on])
  have noRestore (on : w) : (d.station n).restoreTimer = none := h.noRestore on (by simp [losing on])
  unfold Device.qualifyLoss; dsimp only
  split
  · next loss =>
    split
    · next running => exact Device.declareBreak_breaks h n _ rfl running fun on => ⟨rfl, noRestore on⟩
    · next notRunning =>
      have open' : d.brk.openRec.isSome = true := by
        refine h.sheet.mpr ?_
        have running : d.brk.sheet ≠ .running := notRunning
        have noSheet := loss.1
        cases s : d.brk.sheet <;> simp_all
      obtain ⟨r, found⟩ := Option.isSome_iff_exists.mp open'
      exact Device.cascadeLoss_breaks h n _ rfl found quiet fun on => ⟨rfl, noRestore on⟩
  · exact h.stationMoved n _ (by simp) rfl (fun _ _ => rfl) quiet (fun on => ⟨nofun, fun r => by simp [noRestore on] at r⟩)

theorem Device.closeCascade_breaks (h : d.breaksStand w) : d.closeCascade.breaksStand w := by
  unfold Device.closeCascade
  cases found : d.brk.openRec with
  | none => exact ⟨⟨nofun, h.history, h.once, h.raised, h.timers⟩, h.sheet⟩
  | some r =>
    have closed : (d.setBrk { d.brk with openRec := some (d.closedWindow r), cascade := none }).breaksStand w := by
      refine ⟨⟨nofun, h.history, ?_, fun on n => ?_, h.timers⟩, ?_⟩
      · exact once_of_cores (o := some r) rfl rfl (found ▸ h.once)
      · rw [Device.setBrk_cond, h.raised on n]
        simp [Brk.raised, found, BreakRecord.raises_congr (show (d.closedWindow r).core = r.core from rfl)]
      · simpa [found] using h.sheet
    obtain ⟨view, alm⟩ := Device.fallDue_view (d.setBrk { d.brk with openRec := some (d.closedWindow r), cascade := none }) r.number
    exact closed.of_view view fun n => Device.cond_congr _ alm

/-! ## A definition, and RESTART -/

/-- A station as it stands after it started as at enabling (R130). -/
def Device.stationStarted (d : Device) (n : Fin 8) (x : Station) : Station :=
  if d.pins.stations[n] != x.polarity then
    { x with state := .restoring, qualifyTimer := none, restoreTimer := d.after ((x.definition.map StationDef.restore).getD 0) }
  else { x with state := .noSheet, qualifyTimer := none, restoreTimer := none }

theorem Device.startStation_eq (d : Device) (n : Fin 8) : d.startStation n = d.setStationAt n (d.stationStarted n (d.station n)) := rfl

theorem Device.setStationAt_startStation (d : Device) (n : Fin 8) (x : Station) :
    (d.setStationAt n x).startStation n = d.setStationAt n (d.stationStarted n x) := by
  have at' : (d.setStationAt n x).station n = x := by simp [Device.setStationAt_station]
  rw [Device.startStation_eq, at']
  simp [Device.setStationAt, Device.setBrk, Device.stationStarted, Device.after]

theorem Device.stationStarted_state (d : Device) (n : Fin 8) (x : Station) : (d.stationStarted n x).state ≠ .broken := by
  unfold Device.stationStarted; split <;> simp

theorem Device.stationStarted_timers (d : Device) (n : Fin 8) (x : Station) :
    ((d.stationStarted n x).qualifyTimer.isSome = true → (d.stationStarted n x).state = .losing) ∧
    ((d.stationStarted n x).restoreTimer.isSome = true → (d.stationStarted n x).state = .restoring) := by
  unfold Device.stationStarted; split <;> simp

theorem Device.defineStation_breaks (n : Fin 8) (f : StationDef) (whole : d.brk.sheet ≠ .sheetBreak) (settled : d.brk.sheet ≠ .threading)
    (h : d.breaksStand w) : (d.defineStation n f).evaluateSheet.breaksStand w := by
  have none : d.brk.openRec = none := by simpa [whole, settled] using h.sheet
  have quiet (on : w) := h.quiet_of_none on none n
  unfold Device.defineStation; dsimp only
  split
  · exact h.stationMoved n _ (by simp) rfl (fun _ _ => rfl) quiet fun on => ⟨nofun, nofun⟩
  · split
    · rw [Device.setStationAt_startStation]
      exact h.stationMoved n _ (d.stationStarted_state n _) rfl (fun _ _ => rfl) quiet fun on => d.stationStarted_timers n _
    · refine Device.evaluateSheet_breaks (h.tobreaksHold.stationChanged n _ rfl (fun _ _ => rfl) (fun on => ?_) fun on => h.timers on n)
        fun open' => ?_
      · rw [show (d.setStationAt n _).cond (srcBreak n) = d.cond (srcBreak n) from rfl, quiet on, none]; simp
      · rw [show (d.setStationAt n _).brk.openRec = d.brk.openRec from rfl, none] at open'; nomatch open'

/-- A station at RESTART: cleared, and started as at enabling where it is enabled (R151). -/
def Device.restartedStation (d : Device) (n : Fin 8) : Station :=
  if (d.station n).state = .disabled then (d.station n).cleared else d.stationStarted n (d.station n).cleared

theorem Device.startStations_eq (l : List (Fin 8)) (nodup : l.Nodup) (d : Device) : ∃ v : Vector Station 8,
    l.foldl (fun d n => if (d.station n).state = .disabled then d else d.startStation n) d = d.setBrk { d.brk with stations := v } ∧
    ∀ m, v[m] = if m ∈ l ∧ (d.station m).state ≠ .disabled then d.stationStarted m (d.station m) else d.station m := by
  induction l generalizing d with
  | nil => exact ⟨d.brk.stations, rfl, fun m => by simp [Device.station]⟩
  | cons n l ih =>
    obtain ⟨fresh, nodup⟩ := List.nodup_cons.mp nodup
    have first : ∃ y, (if (d.station n).state = .disabled then d else d.startStation n) = d.setStationAt n y ∧
        y = if (d.station n).state ≠ .disabled then d.stationStarted n (d.station n) else d.station n := by
      by_cases off : (d.station n).state = .disabled
      · refine ⟨d.station n, ?_, by simp [off]⟩
        rw [if_pos off]
        simp [Device.setStationAt, Device.station, Device.setBrk]
      · exact ⟨_, by rw [if_neg off, Device.startStation_eq], by simp [off]⟩
    obtain ⟨y, started, value⟩ := first
    obtain ⟨v, rest, stations⟩ := ih nodup (d.setStationAt n y)
    refine ⟨v, by rw [List.foldl_cons, started, rest]; rfl, fun m => ?_⟩
    rw [stations m, Device.setStationAt_station, show (d.setStationAt n y).stationStarted = d.stationStarted from rfl]
    by_cases same : m = n
    · subst same; simp [fresh, value]
    · simp [same]

/-- The history that RESTART leaves: an open record joins it, its window closed where that still ran (R151). -/
def Device.restartedHistory (d : Device) : List BreakRecord :=
  match d.brk.openRec with
  | none => d.brk.history
  | some r => ((if d.brk.cascade.isSome then d.closedWindow r else r) :: d.brk.history).take 16

/-- The Break Detector that RESTART leaves, but for the sheet state. -/
def Device.restartedBrk (d : Device) : Brk :=
  { d.brk with openRec := none, cascade := none, due := [], history := d.restartedHistory, stations := Vector.ofFn d.restartedStation }

/-- RESTART keeps settings, history and number of the Break Detector, and evaluates the sheet state (R151). -/
theorem Device.restartBreaks_eq (d : Device) :
    d.restartBreaks = d.setBrk { d.restartedBrk with sheet := d.restartedBrk.evaluate } := by
  have fold (b : Brk) (stations : b.stations = d.brk.stations.map Station.cleared) :
      allEight.foldl (fun d n => if (d.station n).state = .disabled then d else d.startStation n) (d.setBrk b) =
        d.setBrk { b with stations := Vector.ofFn d.restartedStation } := by
    obtain ⟨v, eq, at'⟩ := Device.startStations_eq allEight (by decide) (d.setBrk b)
    rw [eq]
    have all : v = Vector.ofFn d.restartedStation := by
      refine Vector.ext fun i small => ?_
      have station : (d.setBrk b).station ⟨i, small⟩ = (d.station ⟨i, small⟩).cleared := by
        simp [Device.station, stations]
      have state : (d.station ⟨i, small⟩).cleared.state = (d.station ⟨i, small⟩).state := rfl
      have := at' ⟨i, small⟩
      rw [station, state] at this
      simp only [mem_allEight, true_and] at this
      rw [Vector.getElem_ofFn, Device.restartedStation]
      refine Eq.trans this ?_
      split <;> simp_all <;> rfl
    rw [all]; rfl
  unfold Device.restartBreaks
  dsimp only
  cases found : d.brk.openRec with
  | none =>
    dsimp only
    rw [fold _ rfl, Device.setBrk_brk]
    simp only [Device.restartedBrk, Device.restartedHistory, found]
    rfl
  | some r =>
    dsimp only
    rw [fold _ rfl, Device.setBrk_brk]
    simp only [Device.restartedBrk, Device.restartedHistory, found, Brk.archive]
    rfl

theorem Device.restartedHistory_length (h : d.brk.history.length ≤ 16) : d.restartedHistory.length ≤ 16 := by
  unfold Device.restartedHistory; split
  · exact h
  · simp

theorem Device.restarted_breaks (tag : Byte) (h : d.breaksStand w) : (d.restartBlocks.startUp 2 tag).breaksStand w := by
  have brk : (d.restartBlocks.startUp 2 tag).brk = { d.restartedBrk with sheet := d.restartedBrk.evaluate } := by
    rw [Device.startUp_brk]; unfold Device.restartBlocks; dsimp only; rw [Device.restartBreaks_eq]; rfl
  have quiet (n : Fin 8) : (d.restartBlocks.startUp 2 tag).cond (srcBreak n) = false := by
    obtain ⟨e, started, _, _, conds⟩ := d.restartBlocks.startUp_supervises 2 tag
    rw [started]
    simp [conds, srcBreak_ne n, Device.cond_of_reset (d := d.restartBlocks) rfl]
  generalize d.restartBlocks.startUp 2 tag = e at brk quiet
  have station (n : Fin 8) : e.station n = d.restartedStation n := by
    unfold Device.station; rw [brk]; simp [Device.restartedBrk]
  refine ⟨⟨?_, ?_, ?_, fun on n => ?_, fun on n => ?_⟩, ?_⟩
  · rw [brk]; exact nofun
  · rw [brk]; exact Device.restartedHistory_length h.history
  · rw [brk]
    intro r mem
    have mem : r ∈ d.restartedHistory := mem
    unfold Device.restartedHistory at mem
    split at mem
    · exact h.once r (List.mem_append_right _ mem)
    · next q found =>
      rcases List.mem_cons.mp (List.mem_of_mem_take mem) with rfl | old
      · refine (BreakRecord.once_congr (r := q) ?_).mpr (h.once q (by simp [found]))
        split <;> rfl
      · exact h.once r (List.mem_append_right _ old)
  · rw [quiet n, brk]; simp [Brk.raised, Device.restartedBrk]
  · rw [station, Device.restartedStation]; split
    · exact ⟨nofun, nofun⟩
    · exact d.stationStarted_timers n _
  · rw [brk]
    have none : d.restartedBrk.openRec = none := rfl
    rw [Brk.evaluate_of_none none]
    split <;> simp [none]

theorem Device.breaksStand_ops (w : Prop) : BreakKeeps (Device.breaksStand w) where
  stationInput n v h := Device.stationInput_breaks n v h
  qualifyLoss n timed h := Device.qualifyLoss_breaks n timed h
  restored n timed h := Device.stationRestored_breaks n timed h
  closeCascade h := Device.closeCascade_breaks h
  placeBreaks k h := h.of_view (Device.placeBreaks_view k _).1 fun _ => Device.cond_congr _ (Device.placeBreaks_view k _).2
  defined _ f whole settled h := Device.defineStation_breaks _ f whole settled h
  settings _ h := h.of_view rfl fun _ => rfl
  restarted tag h := Device.restarted_breaks tag h

end

end Sys2Proof.Machine
end

section
/-! PROOFS. Break records, counts and the reference set (O59), and the conditions and the service of alarms (O60). -/

namespace Sys2Proof.Machine

/-- What the operations keep of each of two statements, they keep of both. -/
theorem LiveKeeps.and {P Q : Device → Prop} (K : LiveKeeps P) (M : LiveKeeps Q) : LiveKeeps (fun d => P d ∧ Q d) where
  changed b h := ⟨K.changed b h.1, M.changed b h.2⟩
  offerState h := ⟨K.offerState h.1, M.offerState h.2⟩
  replyBegun f h := ⟨K.replyBegun f h.1, M.replyBegun f h.2⟩
  alarmBegun f h := ⟨K.alarmBegun f h.1, M.alarmBegun f h.2⟩
  noticeTaken f h := ⟨K.noticeTaken f h.1, M.noticeTaken f h.2⟩
  startedBegun f h := ⟨K.startedBegun f h.1, M.startedBegun f h.2⟩
  reportBegun f h := ⟨K.reportBegun f h.1, M.reportBegun f h.2⟩
  batchBegun f h := ⟨K.batchBegun f h.1, M.batchBegun f h.2⟩
  commandDropped p h := ⟨K.commandDropped p h.1, M.commandDropped p h.2⟩
  commandAppended f p h := ⟨K.commandAppended f p h.1, M.commandAppended f p h.2⟩
  replyPushed f p h := ⟨K.replyPushed f p h.1, M.replyPushed f p h.2⟩
  handled f p h := ⟨K.handled f p h.1, M.handled f p h.2⟩
  linkError e h := ⟨K.linkError e h.1, M.linkError e h.2⟩
  linkGood h := ⟨K.linkGood h.1, M.linkGood h.2⟩
  receiver r h := ⟨K.receiver r h.1, M.receiver r h.2⟩
  breakCounted r n h := ⟨K.breakCounted r n h.1, M.breakCounted r n h.2⟩
  overflowPlaced h := ⟨K.overflowPlaced h.1, M.overflowPlaced h.2⟩
  encoder a b h := ⟨K.encoder a b h.1, M.encoder a b h.2⟩
  homeClosed h := ⟨K.homeClosed h.1, M.homeClosed h.2⟩
  homeOpened h := ⟨K.homeOpened h.1, M.homeOpened h.2⟩
  limitClosed s h := ⟨K.limitClosed s h.1, M.limitClosed s h.2⟩
  limitOpened s p h := ⟨K.limitOpened s p h.1, M.limitOpened s p h.2⟩
  readyLost p h := ⟨K.readyLost p h.1, M.readyLost p h.2⟩
  stallEnded n p h := ⟨K.stallEnded n p h.1, M.stallEnded n p h.2⟩
  restEnded h := ⟨K.restEnded h.1, M.restEnded h.2⟩
  periodStarted p h := ⟨K.periodStarted p h.1, M.periodStarted p h.2⟩
  feedback c h := ⟨K.feedback c h.1, M.feedback c h.2⟩
  mismatched p h := ⟨K.mismatched p h.1, M.mismatched p h.2⟩
  resumed h := ⟨K.resumed h.1, M.resumed h.2⟩
  stationInput n v h := ⟨K.stationInput n v h.1, M.stationInput n v h.2⟩
  qualified n p h := ⟨K.qualified n p h.1, M.qualified n p h.2⟩
  restored n p h := ⟨K.restored n p h.1, M.restored n p h.2⟩
  cascadeClosed p h := ⟨K.cascadeClosed p h.1, M.cascadeClosed p h.2⟩
  breaksPlaced k h := ⟨K.breaksPlaced k h.1, M.breaksPlaced k h.2⟩
  sampled p h := ⟨K.sampled p h.1, M.sampled p h.2⟩

/-- The Break Detector at its reset values. -/
theorem Device.blank_breaks {w : Prop} {d : Device} (brk : d.brk = .reset) (quiet : ∀ n, d.cond (srcBreak n) = false) : d.breaksStand w := by
  have station (n : Fin 8) : d.station n = .reset := by unfold Device.station; rw [brk]; simp [Brk.reset]
  refine ⟨⟨by rw [brk]; exact nofun, by rw [brk]; exact Nat.zero_le _, by rw [brk]; exact nofun, fun on n => ?_, fun on n => ?_⟩, ?_⟩
  · rw [quiet n, brk]; simp [Brk.raised, Brk.reset]
  · rw [station]; exact ⟨nofun, nofun⟩
  · rw [brk]; simp [Brk.reset]

/-- The Break Detector, with the stations' conditions and timers, through every row. -/
theorem Device.breaksStand_keeps (w : Prop) : RowKeeps (Device.breaksStand w) :=
  (FieldKeeps.awake.toLiveKeeps.and ((Device.breaksStand_ops w).toLiveKeeps (Device.breaksStand_calm w))).toRowKeeps
    (fun _ h => h.of_same rfl fun _ => rfl) (fun _ _ h => h.of_same rfl fun _ => rfl)
    (fun d => Device.blank_breaks rfl fun n => Device.cond_of_reset rfl _)
    (fun d cause strap => Device.blank_breaks (by unfold Device.coldStart; rw [Device.startUp_brk]; rfl) fun n => by
      obtain ⟨e, started, _, _, conds⟩ := Device.startUp_supervises
        ((d.blank (.reset strap)).setPins { d.pins with reset := false }) cause 0
      unfold Device.coldStart
      rw [started]
      simp [conds, srcBreak_ne n, Device.cond_of_reset (d := (d.blank (.reset strap)).setPins _) rfl])
    (fun _ _ h => h.of_same rfl fun _ => rfl) (fun h => h.of_same rfl fun _ => rfl) (fun h => h.of_same rfl fun _ => rfl)

/-- Settles O59: the break record by the operations of the Break Detector, the rest by elementary changes. -/
theorem stepKeepsRecords : Obligations.StepKeepsRecords := by
  intro s t run
  refine ⟨fun h => ?_, step_keeps_countsInRange run, step_keeps_referenceSound run⟩
  rw [Device.recordStands_iff] at h ⊢
  exact (Device.breaksStand_keeps False).step run h

/-- The live conditions at their owners' levels are those of single sources and windows, and those of the stations. -/
theorem Device.conditionsFollow_iff {d : Device} : d.conditionsFollow ↔ d.OwnersLevels ∧
    (∀ n : Fin 8, d.cond (srcBreak n) = true ↔ d.brk.raised n) ∧
    (∀ n : Fin 8, ((d.station n).qualifyTimer.isSome = true → (d.station n).state = .losing) ∧
      ((d.station n).restoreTimer.isSome = true → (d.station n).state = .restoring)) := by
  have raised (n : Fin 8) : d.brk.raised n ↔ (d.station n).state = .broken ∧
      ∃ r ∈ d.brk.openRec, r.firstOut = n ∨ ∃ l ∈ r.losses, l.station = n ∧ l.independent = true := by
    simp only [Brk.raised, BreakRecord.raises_iff]; rfl
  constructor
  · rintro ⟨position, overtravel, shutter, stations, timers, stdLast, noStd, noRef, channel, link, window⟩
    exact ⟨⟨position, overtravel, shutter, stdLast, noStd, noRef, by simp [channel], by simp [link], window⟩,
      fun n => (stations n).trans (raised n).symm, timers⟩
  · rintro ⟨levels, stations, timers⟩
    exact ⟨levels.position, levels.overtravel, levels.shutter, fun n => (stations n).trans (raised n), timers, levels.stdLast,
      levels.noStd, levels.noRef, Bool.eq_iff_iff.mpr (by simp [levels.channel]), Bool.eq_iff_iff.mpr (by simp [levels.link]),
      levels.window⟩

/-- Settles O60: each source's condition through the elementary changes, the stations' with the break record, and the service through
every change that may leave a request. -/
theorem stepKeepsAlarms : Obligations.StepKeepsAlarms := by
  intro s t run
  refine ⟨fun record follow => ?_, fun _ h => Device.alarmsServed_rows.step run h⟩
  obtain ⟨levels, raised, timers⟩ := Device.conditionsFollow_iff.mp follow
  have stand : s.dev.breaksStand True := by
    obtain ⟨hold, sheet⟩ := s.dev.recordStands_iff.mp record
    exact ⟨⟨hold.cascade, hold.history, hold.once, fun _ => raised, fun _ => timers⟩, sheet⟩
  have after := (Device.breaksStand_keeps True).step run stand
  exact Device.conditionsFollow_iff.mpr ⟨Device.ownersLevels_keeps.step run levels, after.raised trivial, after.timers trivial⟩

end Sys2Proof.Machine
end

section
/-! PROOFS. Frames of the operations that measurement and traverse share: what the close of a scan, the end of an operation and a
change of settings leave of each block. -/

namespace Sys2Proof.Machine

section
variable (d : Device)

/-! ## The close of a scan -/

@[simp] theorem Device.evaluateWindows_trv (n : Nat) : (d.evaluateWindows n).trv = d.trv := by
  unfold Device.evaluateWindows; induction allEight generalizing d <;> simp_all
@[simp] theorem Device.evaluateWindows_acq (n : Nat) : (d.evaluateWindows n).acq = d.acq := by
  unfold Device.evaluateWindows; induction allEight generalizing d <;> simp_all
@[simp] theorem Device.evaluateWindows_std (n : Nat) : (d.evaluateWindows n).std = d.std := by
  unfold Device.evaluateWindows; induction allEight generalizing d <;> simp_all
@[simp] theorem Device.evaluateWindows_cnv (n : Nat) : (d.evaluateWindows n).cnv = d.cnv := by
  unfold Device.evaluateWindows; induction allEight generalizing d <;> simp_all
@[simp] theorem Device.evaluateWindows_prf (n : Nat) : (d.evaluateWindows n).prf = d.prf := by
  unfold Device.evaluateWindows; induction allEight generalizing d <;> simp_all
@[simp] theorem Device.evaluateWindows_eventQ (n : Nat) : (d.evaluateWindows n).lnk.eventQ = d.lnk.eventQ := by
  unfold Device.evaluateWindows; induction allEight generalizing d <;> simp_all

/-- The report changes the profile block alone, and of it neither scan record nor FILTERED. -/
theorem Device.prepareReport_only (c : Completion) : ∃ r n, d.prepareReport c = d.setPrf { d.prf with report := r, skip := n } := by
  unfold Device.prepareReport Prf.skipped; repeat' split
  all_goals exact ⟨_, _, rfl⟩

theorem Device.closeScan_of_none {d : Device} (c : Completion) (h : d.prf.openScan = none) : d.closeScan c = d := by
  unfold Device.closeScan; rw [h]

/-- The close in stages (R101): LATEST, then for COMPLETE alone FILTERED with the windows, then the report. -/
theorem Device.closeScan_of_some {d : Device} {o : OpenScan} (c : Completion) (h : d.prf.openScan = some o) :
    d.closeScan c =
      (if c = .complete then
        (d.setPrf { d.prf with
          openScan := none
          latest := some (o.finish ((d.trv.active.map ScanSettings.minSamples).getD 1) d.now c) }).foldScan
            (o.finish ((d.trv.active.map ScanSettings.minSamples).getD 1) d.now c)
       else d.setPrf { d.prf with
          openScan := none
          latest := some (o.finish ((d.trv.active.map ScanSettings.minSamples).getD 1) d.now c) }).prepareReport c := by
  unfold Device.closeScan; rw [h]

@[simp] theorem Device.foldScan_trv (p : Profile) : (d.foldScan p).trv = d.trv := by simp [Device.foldScan]
@[simp] theorem Device.foldScan_acq (p : Profile) : (d.foldScan p).acq = d.acq := by simp [Device.foldScan]
@[simp] theorem Device.foldScan_cnv (p : Profile) : (d.foldScan p).cnv = d.cnv := by simp [Device.foldScan]
@[simp] theorem Device.foldScan_eventQ (p : Profile) : (d.foldScan p).lnk.eventQ = d.lnk.eventQ := by simp [Device.foldScan, Device.countScan]

section
variable (c : Completion)

@[simp] theorem Device.closeScan_trv : (d.closeScan c).trv = d.trv := by
  unfold Device.closeScan; split
  · rfl
  · obtain ⟨r, n, report⟩ := Device.prepareReport_only _ c
    rw [report]; dsimp only [Device.setPrf_trv]; split <;> simp

@[simp] theorem Device.closeScan_acq : (d.closeScan c).acq = d.acq := by
  unfold Device.closeScan; split
  · rfl
  · obtain ⟨r, n, report⟩ := Device.prepareReport_only _ c
    rw [report]; dsimp only [Device.setPrf_acq]; split <;> simp

@[simp] theorem Device.closeScan_cnv : (d.closeScan c).cnv = d.cnv := by
  unfold Device.closeScan; split
  · rfl
  · obtain ⟨r, n, report⟩ := Device.prepareReport_only _ c
    rw [report]; dsimp only [Device.setPrf_cnv]; split <;> simp

@[simp] theorem Device.closeScan_openScan : (d.closeScan c).prf.openScan = none := by
  unfold Device.closeScan; split
  · assumption
  · obtain ⟨r, n, report⟩ := Device.prepareReport_only _ c
    rw [report]; dsimp only [Device.setPrf_prf]; split <;> simp [Device.foldScan]

@[simp] theorem Device.closeScan_phase : (d.closeScan c).std.phase = d.std.phase := by
  unfold Device.closeScan; split
  · rfl
  · obtain ⟨r, n, report⟩ := Device.prepareReport_only _ c
    rw [report]; dsimp only [Device.setPrf_std]; split <;> simp [Device.foldScan, Device.countScan]

@[simp] theorem Device.closeScan_brk : (d.closeScan c).brk = d.brk := (congrArg Device.brk (d.closeScan_outside c) :)
@[simp] theorem Device.closeScan_pins : (d.closeScan c).pins = d.pins := (congrArg Device.pins (d.closeScan_outside c) :)
@[simp] theorem Device.closeScan_clk : (d.closeScan c).clk = d.clk := (congrArg Device.clk (d.closeScan_outside c) :)
@[simp] theorem Device.closeScan_timeBase : (d.closeScan c).timeBase = d.timeBase := (congrArg Device.timeBase (d.closeScan_outside c) :)
@[simp] theorem Device.closeScan_link : (d.closeScan c).lnk.link = d.lnk.link :=
  (congrArg (fun e : Device => e.lnk.link) (d.closeScan_outside c) :)

end

/-! ## The end of an operation -/

section
variable (r : OpResult) (x : Option OpResult)

@[simp] theorem Device.endOp_trv : (d.endOp r x).trv = { d.trv with op := none } := by
  unfold Device.endOp; split
  · next none => simp [← none]
  · simp

@[simp] theorem Device.endOp_acq : (d.endOp r x).acq = d.acq := by unfold Device.endOp; split <;> simp
@[simp] theorem Device.endOp_std : (d.endOp r x).std = d.std := by unfold Device.endOp; split <;> simp
@[simp] theorem Device.endOp_cnv : (d.endOp r x).cnv = d.cnv := by unfold Device.endOp; split <;> simp
@[simp] theorem Device.endOp_prf : (d.endOp r x).prf = d.prf := by unfold Device.endOp; split <;> simp
@[simp] theorem Device.endOp_win : (d.endOp r x).win = d.win := by unfold Device.endOp; split <;> simp
@[simp] theorem Device.endOp_brk : (d.endOp r x).brk = d.brk := by unfold Device.endOp; split <;> simp
@[simp] theorem Device.endOp_alm : (d.endOp r x).alm = d.alm := by unfold Device.endOp; split <;> simp
@[simp] theorem Device.endOp_pins : (d.endOp r x).pins = d.pins := by unfold Device.endOp; split <;> simp
@[simp] theorem Device.endOp_clk : (d.endOp r x).clk = d.clk := by unfold Device.endOp; split <;> simp
@[simp] theorem Device.endOp_timeBase : (d.endOp r x).timeBase = d.timeBase := by unfold Device.endOp; split <;> simp
@[simp] theorem Device.endOp_stateChanged : (d.endOp r x).stateChanged = d.stateChanged := by unfold Device.endOp; split <;> simp
@[simp] theorem Device.endOp_link : (d.endOp r x).lnk.link = d.lnk.link := by unfold Device.endOp; split <;> simp
@[simp] theorem Device.endOp_entry (s : Fin 24) : (d.endOp r x).entry s = d.entry s := by simp [Device.entry]
@[simp] theorem Device.endOp_cond (s : Fin 24) : (d.endOp r x).cond s = d.cond s := by simp [Device.cond]

end

/-! ## Settings -/

@[simp] theorem Device.startEpoch_trv : d.startEpoch.trv = d.trv := rfl
@[simp] theorem Device.startEpoch_acq : d.startEpoch.acq = d.acq := rfl
@[simp] theorem Device.startEpoch_std : d.startEpoch.std = d.std := rfl
@[simp] theorem Device.startEpoch_brk : d.startEpoch.brk = d.brk := rfl
@[simp] theorem Device.startEpoch_lnk : d.startEpoch.lnk = d.lnk := rfl
@[simp] theorem Device.startEpoch_alm : d.startEpoch.alm = d.alm := rfl
@[simp] theorem Device.startEpoch_pins : d.startEpoch.pins = d.pins := rfl
@[simp] theorem Device.startEpoch_openScan : d.startEpoch.prf.openScan = d.prf.openScan := rfl

/-- The scan settings that an application leaves (R36). -/
def Trv.applied (t : Trv) (s : ScanSettings) : Trv :=
  { t with active := some s, range := t.frame.map (fun f => effectiveRange f s), planCount := min t.planCount s.base }

/-- An application changes the settings, and starts an epoch or does not (R36). -/
theorem Device.applySettings_only (s : ScanSettings) :
    d.applySettings s = (d.setTrv (d.trv.applied s)).startEpoch ∨ d.applySettings s = d.setTrv (d.trv.applied s) := by
  unfold Device.applySettings; dsimp only; repeat' split
  all_goals first | exact .inl rfl | exact .inr rfl

@[simp] theorem Device.applySettings_trv (s : ScanSettings) : (d.applySettings s).trv = d.trv.applied s := by
  rcases d.applySettings_only s with h | h <;> rw [h] <;> rfl
@[simp] theorem Device.applySettings_acq (s : ScanSettings) : (d.applySettings s).acq = d.acq := by
  rcases d.applySettings_only s with h | h <;> rw [h] <;> rfl
@[simp] theorem Device.applySettings_std (s : ScanSettings) : (d.applySettings s).std = d.std := by
  rcases d.applySettings_only s with h | h <;> rw [h] <;> rfl
@[simp] theorem Device.applySettings_brk (s : ScanSettings) : (d.applySettings s).brk = d.brk := by
  rcases d.applySettings_only s with h | h <;> rw [h] <;> rfl
@[simp] theorem Device.applySettings_lnk (s : ScanSettings) : (d.applySettings s).lnk = d.lnk := by
  rcases d.applySettings_only s with h | h <;> rw [h] <;> rfl
@[simp] theorem Device.applySettings_alm (s : ScanSettings) : (d.applySettings s).alm = d.alm := by
  rcases d.applySettings_only s with h | h <;> rw [h] <;> rfl
@[simp] theorem Device.applySettings_pins (s : ScanSettings) : (d.applySettings s).pins = d.pins := by
  rcases d.applySettings_only s with h | h <;> rw [h] <;> rfl
@[simp] theorem Device.applySettings_openScan (s : ScanSettings) : (d.applySettings s).prf.openScan = d.prf.openScan := by
  rcases d.applySettings_only s with h | h <;> rw [h] <;> rfl

theorem Device.applyPending_of_none {d : Device} (h : d.trv.pending = none) : d.applyPending = d := by
  unfold Device.applyPending; rw [h]

theorem Device.applyPending_of_some {d : Device} {tag : Byte} {s : ScanSettings} (h : d.trv.pending = some (tag, s)) :
    d.applyPending = (((d.setTrv { d.trv with pending := none }).applySettings s).offerDone .setScan tag .applied
      ((d.setTrv { d.trv with pending := none }).applySettings s).trimmed none) := by
  unfold Device.applyPending; rw [h]

/-- TRV after the application of what is pending. -/
def Trv.withPending (t : Trv) : Trv :=
  match t.pending with
  | none => t
  | some e => { t with pending := none }.applied e.2

@[simp] theorem Device.applyPending_trv : d.applyPending.trv = d.trv.withPending := by
  unfold Device.applyPending Trv.withPending; split <;> simp [*]
@[simp] theorem Device.applyPending_acq : d.applyPending.acq = d.acq := by unfold Device.applyPending; split <;> simp
@[simp] theorem Device.applyPending_std : d.applyPending.std = d.std := by unfold Device.applyPending; split <;> simp
@[simp] theorem Device.applyPending_brk : d.applyPending.brk = d.brk := by unfold Device.applyPending; split <;> simp
@[simp] theorem Device.applyPending_alm : d.applyPending.alm = d.alm := by unfold Device.applyPending; split <;> simp
@[simp] theorem Device.applyPending_pins : d.applyPending.pins = d.pins := by unfold Device.applyPending; split <;> simp
@[simp] theorem Device.applyPending_link : d.applyPending.lnk.link = d.lnk.link := by unfold Device.applyPending; split <;> simp
@[simp] theorem Device.applyPending_openScan : d.applyPending.prf.openScan = d.prf.openScan := by
  unfold Device.applyPending; split <;> simp

/-- The recomputation of the range changes the range, and starts an epoch or does not (R22). -/
theorem Device.refreshRange_only : d.refreshRange = (d.setTrv { d.trv with range := d.rangeInForce }).startEpoch ∨
    d.refreshRange = d.setTrv { d.trv with range := d.rangeInForce } := by
  unfold Device.refreshRange; dsimp only; repeat' split
  all_goals first | exact .inl rfl | exact .inr rfl

@[simp] theorem Device.refreshRange_trv : d.refreshRange.trv = { d.trv with range := d.rangeInForce } := by
  rcases d.refreshRange_only with h | h <;> rw [h] <;> rfl
@[simp] theorem Device.refreshRange_acq : d.refreshRange.acq = d.acq := by rcases d.refreshRange_only with h | h <;> rw [h] <;> rfl
@[simp] theorem Device.refreshRange_std : d.refreshRange.std = d.std := by rcases d.refreshRange_only with h | h <;> rw [h] <;> rfl
@[simp] theorem Device.refreshRange_brk : d.refreshRange.brk = d.brk := by rcases d.refreshRange_only with h | h <;> rw [h] <;> rfl
@[simp] theorem Device.refreshRange_lnk : d.refreshRange.lnk = d.lnk := by rcases d.refreshRange_only with h | h <;> rw [h] <;> rfl
@[simp] theorem Device.refreshRange_alm : d.refreshRange.alm = d.alm := by rcases d.refreshRange_only with h | h <;> rw [h] <;> rfl
@[simp] theorem Device.refreshRange_pins : d.refreshRange.pins = d.pins := by rcases d.refreshRange_only with h | h <;> rw [h] <;> rfl
@[simp] theorem Device.refreshRange_openScan : d.refreshRange.prf.openScan = d.prf.openScan := by
  rcases d.refreshRange_only with h | h <;> rw [h] <;> rfl

/-! ## Collections -/

@[simp] theorem Device.abandonStd_phase : d.abandonStd.std.phase = .idle := by
  unfold Device.abandonStd; split
  · assumption
  · rfl

@[simp] theorem Device.completeStd_phase : d.completeStd.std.phase = .idle := by
  rcases d.std.verdict_cases with channel | drift | adopted
  · rw [Device.completeStd_of_channel channel, Device.failStd_std]; rfl
  · rw [Device.completeStd_of_drift drift, Device.failStd_std]; rfl
  · rw [Device.completeStd_of_adopted (by rcases adopted with a | a <;> simp [a]) (by rcases adopted with a | a <;> simp [a]),
      Device.adopt_std]; rfl

/-- What a standardize sample leaves but STD and its conditions; a result ends the collection (R63, R73). -/
theorem Device.takeStdSample_idle (s : Sample) : (d.takeStdSample s).2.isSome = true → (d.takeStdSample s).1.std.phase = .idle := by
  unfold Device.takeStdSample; dsimp only; repeat' split
  all_goals simp [Std.toIdle]

end

end Sys2Proof.Machine
end

section
/-! PROOFS. ENABLE with the traverse state, the head off the sheet, and measuring in its states (O55, O56, O57): one invariant of the
fields that they speak of, kept by every operation of the traverse. -/

namespace Sys2Proof.Machine

/-! ## The fields that matter -/

/-- What the three invariants read of the part: the traverse with its drive, the presence of operation, range, settings and frame record,
sheet and link state, and whether a sample, a scan record and a collection are open. -/
structure Stance where
  state : TravState
  motion : Motion
  enable : Bool
  op : Option OpKind
  range : Bool
  pending : Bool
  frame : Bool
  sheet : SheetState
  link : LinkState
  sampling : Bool
  scanning : Bool
  collecting : Bool

/-- A collection runs (R62). -/
def StdPhase.busy : StdPhase → Bool
  | .idle => false
  | .settling | .collecting => true

theorem StdPhase.busy_iff (p : StdPhase) : p.busy = true ↔ p ≠ .idle := by cases p <;> simp [StdPhase.busy]

def Device.stance (d : Device) : Stance where
  state := d.trv.state
  motion := d.trv.motion
  enable := d.trv.enable
  op := d.trv.op.map OpRecord.kind
  range := d.trv.range.isSome
  pending := d.trv.pending.isSome
  frame := d.trv.frame.isSome
  sheet := d.brk.sheet
  link := d.lnk.link
  sampling := d.acq.sample.isSome || d.acq.sampleTimer.isSome
  scanning := d.prf.openScan.isSome
  collecting := d.std.phase.busy

/-- The states in which the head is moved, ENABLE asserted (R10). -/
def TravState.moves : TravState → Bool
  | .homing | .approach | .scan | .turn | .point | .parking => true
  | .unhomed | .parked | .standardizing | .halted => false

/-- The states in which samples are taken (R50, R51). -/
def TravState.samples : TravState → Bool
  | .scan | .standardizing | .point => true
  | .unhomed | .homing | .parked | .approach | .turn | .parking | .halted => false

theorem TravState.drives_iff (st : TravState) (x : Motion) : st.drives x = true ↔ st.moves = true ∨ st = .halted ∧ x = .stopping := by
  cases st <;> simp [TravState.drives, TravState.moves]

theorem TravState.samples_iff (st : TravState) : st.samples = true ↔ st = .scan ∨ st = .standardizing ∨ st = .point := by
  cases st <;> simp [TravState.samples]

theorem TravState.moves_of_overSheet {st : TravState} (h : st.overSheet = true) : st.moves = true := by
  cases st <;> simp_all [TravState.moves, TravState.overSheet]

section
variable {o m : Prop}

/-- What holds at every moment of an operation; `m` asks for what measuring adds. -/
structure Stance.grounded (m : Prop) (s : Stance) : Prop where
  rest : s.enable = false → s.motion = .rest
  range : s.op = some .scan → s.range = true
  frame : s.pending = true → s.frame = true
  sampling : m → s.sampling = true → s.state.samples = true

/-- Nothing is measured: any state may be entered. -/
structure Stance.free (m : Prop) (s : Stance) : Prop extends s.grounded m where
  scan : m → s.scanning = false
  std : m → s.collecting = false

/-- What holds once a traverse state is entered, the drive aside; `o` asks for what the sheet adds. -/
structure Stance.placed (o m : Prop) (s : Stance) : Prop extends s.grounded m where
  clear : o → s.sheet = .sheetBreak ∨ s.link = .lost → s.state.overSheet = false
  scan : m → (s.scanning = true ↔ s.state = .scan)
  std : m → s.collecting = true → s.state = .standardizing

/-- The invariant: what holds after every event. -/
structure Stance.sound (o m : Prop) (s : Stance) : Prop extends s.placed o m where
  enable : s.enable = s.state.drives s.motion
  stopping : s.motion = .stopping → s.state = .halted
  toward : o → s.motion.overSheet = true → s.state.overSheet = true
  run : m → s.state = .scan → s.motion = .scanning

theorem Device.sound_iff (d : Device) : d.stance.sound o m ↔
    d.enableFollows ∧ (o → d.offSheet) ∧ (m → d.measuresInPlace) := by
  have sampling : d.stance.sampling = true ↔ d.acq.sample.isSome = true ∨ d.acq.sampleTimer.isSome = true := by simp [Device.stance]
  have collecting : d.stance.collecting = true ↔ d.std.phase ≠ .idle := d.std.phase.busy_iff
  constructor
  · intro h
    refine ⟨⟨h.enable, h.stopping, h.rest, h.range, h.frame⟩, fun on => ⟨h.clear on, h.toward on⟩, fun on => ?_⟩
    exact ⟨h.scan on, fun c => h.std on (collecting.mpr c),
      fun c => (TravState.samples_iff _).mp (h.sampling on (sampling.mpr c)), h.run on⟩
  · rintro ⟨⟨enable, stopping, rest, range, frame⟩, off, measure⟩
    exact ⟨⟨⟨rest, range, frame, fun on c => (TravState.samples_iff _).mpr ((measure on).2.2.1 (sampling.mp c))⟩,
      fun on => (off on).1, fun on => (measure on).1, fun on c => (measure on).2.1 (collecting.mp c)⟩,
      enable, stopping, fun on => (off on).2, fun on => (measure on).2.2.2⟩

/-! ## Steps of a stance -/

section
variable {s : Stance}

/-- The head under way in a state that moves it, not scanning. -/
structure Stance.underWay (o m : Prop) (s : Stance) : Prop extends s.placed o m where
  moves : s.state.moves = true
  offScan : m → s.state ≠ .scan

theorem Stance.grounded.enter (h : s.grounded m) (st : TravState) : { s with state := st, sampling := false }.grounded m :=
  ⟨h.rest, h.range, h.frame, fun _ => nofun⟩

theorem Stance.free.enter (h : s.free m) (st : TravState) : { s with state := st, sampling := false }.free m :=
  ⟨h.togrounded.enter st, h.scan, h.std⟩

theorem Stance.free.placed (h : s.free m) (clear : o → s.sheet = .sheetBreak ∨ s.link = .lost → s.state.overSheet = false)
    (off : s.state ≠ .scan) : s.placed o m :=
  ⟨h.togrounded, clear, fun on => by simp [h.scan on, off], fun on c => by simp [h.std on] at c⟩

theorem Stance.underWay.free (h : s.underWay o m) : s.free m :=
  ⟨h.togrounded, fun on => by simpa [h.offScan on] using h.scan on, fun on => by
    by_contra c
    have std := h.std on (by simpa using c)
    have moves := h.moves
    rw [std] at moves; nomatch moves⟩

/-- The head under way runs with a motion of its own. -/
theorem Stance.underWay.run (h : s.underWay o m) {x : Motion} (moving : x ≠ .stopping)
    (toward : o → x.overSheet = true → s.state.overSheet = true) : { s with enable := true, motion := x }.sound o m where
  rest := nofun
  range := h.range
  frame := h.frame
  sampling := h.sampling
  clear := h.clear
  scan := h.scan
  std := h.std
  enable := ((TravState.drives_iff _ _).mpr (.inl h.moves)).symm
  stopping c := absurd c moving
  toward := toward
  run on c := absurd c (h.offScan on)

/-- A head that stands, nothing measured. -/
theorem Stance.free.stand (h : s.free m) (off : s.enable = false) (still : s.state.moves = false) : s.sound o m := by
  have notOver : s.state.overSheet = false := Bool.eq_false_iff.mpr fun c => by simp [TravState.moves_of_overSheet c] at still
  have off' : s.state ≠ .scan := fun c => by rw [c] at still; nomatch still
  have rest : s.motion = .rest := h.rest off
  refine ⟨h.placed (fun _ _ => notOver) off', ?_, fun c => by simp [rest] at c, fun _ c => by simp [rest, Motion.overSheet] at c,
    fun _ c => absurd c off'⟩
  rw [off, eq_comm, Bool.eq_false_iff]
  simp [TravState.drives_iff, still, rest]

theorem Stance.sound.moves (h : s.sound o m) (on : s.enable = true) (moving : s.motion ≠ .stopping) : s.state.moves = true := by
  have drives := (TravState.drives_iff _ _).mp (h.enable.symm.trans on)
  simpa [moving] using drives

theorem Stance.sound.enabled (h : s.sound o m) (busy : s.motion ≠ .rest) : s.enable = true := by
  simpa using mt h.rest busy

/-- A head that moves off SCAN is under way. -/
theorem Stance.sound.underWay (h : s.sound o m) (busy : s.motion ≠ .rest) (moving : s.motion ≠ .stopping) (other : s.motion ≠ .scanning) :
    s.underWay o m :=
  ⟨h.toplaced, h.moves (h.enabled busy) moving, fun on c => other (h.run on c)⟩

theorem Stance.sound.free (h : s.sound o m) (notScan : s.state ≠ .scan) (notStd : s.state ≠ .standardizing) : s.free m :=
  ⟨h.togrounded, fun on => by simpa [notScan] using h.scan on, fun on => by simpa [notStd] using mt (h.std on) notStd⟩

end

/-! ## What each shared operation does to the stance -/

section
variable (d : Device)

@[simp] theorem Device.goTo_stance (st : TravState) : (d.goTo st).stance = { d.stance with state := st, sampling := false } := by
  simp [Device.stance]
@[simp] theorem Device.endOp_stance (r : OpResult) (x : Option OpResult) : (d.endOp r x).stance = { d.stance with op := none } := by
  simp [Device.stance]
@[simp] theorem Device.closeScan_stance (c : Completion) : (d.closeScan c).stance = { d.stance with scanning := false } := by
  simp [Device.stance]
@[simp] theorem Device.abandonStd_stance : d.abandonStd.stance = { d.stance with collecting := false } := by
  simp [Device.stance, StdPhase.busy]
@[simp] theorem Device.dropEnable_stance : d.dropEnable.stance = { d.stance with enable := false, motion := .rest } := by
  simp [Device.stance]
@[simp] theorem Device.raiseEnable_stance : d.raiseEnable.stance = { d.stance with enable := true } := by
  simp [Device.stance]
@[simp] theorem Device.rise_stance (s : Fin 24) (v : Nat) : (d.rise s v).stance = d.stance := by simp [Device.stance]
@[simp] theorem Device.fall_stance (s : Fin 24) : (d.fall s).stance = d.stance := rfl
@[simp] theorem Device.fallIfActive_stance (s : Fin 24) : (d.fallIfActive s).stance = d.stance := by simp [Device.stance]
@[simp] theorem Device.riseOvertravel_stance : d.riseOvertravel.stance = d.stance := d.rise_stance _ _
@[simp] theorem Device.offer_stance (f : Frame) : (d.offer f).stance = d.stance := by simp [Device.stance]
@[simp] theorem Device.offerDone_stance (k : OpKind) (t : Byte) (r : OpResult) (a : Bool) (x : Option OpResult) :
    (d.offerDone k t r a x).stance = d.stance := by simp [Device.stance]
@[simp] theorem Device.setOp_stance (p : OpRecord) : (d.setOp p).stance = { d.stance with op := some p.kind } := rfl
@[simp] theorem Device.startTimeGating_stance (n : Nat) : (d.startTimeGating n).stance = { d.stance with sampling := true } := by
  simp [Device.stance, Device.startTimeGating, Device.openSampleNow, Device.after]
@[simp] theorem Device.openScanRecord_stance (side : Side) : (d.openScanRecord side).stance = { d.stance with scanning := true } := rfl
@[simp] theorem Device.startEpoch_stance : d.startEpoch.stance = d.stance := rfl
@[simp] theorem Device.superviseChannels_stance (s : Sample) : (d.superviseChannels s).stance = d.stance := by simp [Device.stance]
@[simp] theorem Device.recordClosed_stance (s : Sample) : (d.recordClosed s).stance = d.stance := by
  unfold Device.recordClosed; rw [Device.superviseChannels_stance]; rfl
@[simp] theorem Device.discardTraffic_stance : d.discardTraffic.stance = d.stance := by
  unfold Device.discardTraffic; dsimp only; repeat' split
  all_goals rfl
@[simp] theorem Device.placeRecord_stance (r : ConvRecord) : (d.placeRecord r).stance = d.stance := by
  simp [Device.stance, Device.placeRecord]
@[simp] theorem Device.enterRing_stance (r : ConvRecord) : (d.enterRing r).stance = d.stance := by
  unfold Device.enterRing Device.batchDue; dsimp only; repeat' split
  all_goals rfl

/-- A collection begins, or settings are absent and none does (R62). -/
theorem Device.beginCollection_stance : ∃ b, d.beginCollection.stance = { d.stance with collecting := b } := by
  unfold Device.beginCollection; split
  · exact ⟨_, rfl⟩
  · exact ⟨_, rfl⟩

theorem Device.openAtBoundary_stance (b : Nat) : (d.openAtBoundary b).stance = { d.stance with sampling := true } := rfl

theorem Device.startGating_stance : ∃ b, d.startGating.stance = { d.stance with sampling := b } := by
  unfold Device.startGating; extract_lets next e; split
  · exact ⟨_, rfl⟩
  · exact ⟨d.stance.sampling, rfl⟩

theorem Device.crossBoundary_stance : d.crossBoundary.stance = { d.stance with sampling := true } := by
  unfold Device.crossBoundary; split
  · exact d.openAtBoundary_stance _
  · rw [Device.openAtBoundary_stance, Device.handScanRecord, Device.recordClosed_stance, Device.placeRecord_stance]; rfl

theorem Device.applySettings_stance (s : ScanSettings) : (d.applySettings s).stance = { d.stance with range := d.stance.frame } := by
  simp [Device.stance, Trv.applied]

theorem Device.applyPending_stance : d.applyPending.stance =
    { d.stance with pending := false, range := if d.stance.pending then d.stance.frame else d.stance.range } := by
  cases found : d.trv.pending with
  | none => rw [Device.applyPending_of_none found]; simp [Device.stance, found]
  | some e => rw [Device.applyPending_of_some found, Device.offerDone_stance, Device.applySettings_stance]; simp [Device.stance, found]

theorem Device.refreshRange_stance : d.refreshRange.stance = { d.stance with range := d.rangeInForce.isSome } := by
  simp [Device.stance]

theorem Device.failStd_stance (l : StdLast) (n : Nat) : (d.failStd l n).stance = { d.stance with collecting := false } := by
  simp [Device.stance, Std.toIdle, StdPhase.busy]

theorem Device.adopt_stance (r : RefSet) (l : StdLast) (x : Option (Nat × Nat)) :
    (d.adopt r l x).stance = { d.stance with collecting := false } := by
  have idle (s : Std) : (d.setStd { s.toIdle with ref := some r, count := wrap32 (s.count + 1), last := some l }).stance =
      { d.stance with collecting := false } := rfl
  unfold Device.adopt; dsimp only; repeat' split
  · rw [Device.fallIfActive_stance, idle]
  · rw [Device.rise_stance, Device.fallIfActive_stance, idle]
  · rw [Device.fallIfActive_stance, Device.fallIfActive_stance, idle]

theorem Device.completeStd_stance : d.completeStd.stance = { d.stance with collecting := false } := by
  rcases d.std.verdict_cases with channel | drift | adopted
  · rw [Device.completeStd_of_channel channel, Device.failStd_stance]
  · rw [Device.completeStd_of_drift drift, Device.failStd_stance]
  · rw [Device.completeStd_of_adopted (by rcases adopted with a | a <;> simp [a]) (by rcases adopted with a | a <;> simp [a]),
      Device.adopt_stance]

/-- A standardize sample leaves the collection on, or ends it with a result (R63, R73). -/
theorem Device.takeStdSample_stance (s : Sample) : ∃ b, (d.takeStdSample s).1.stance = { d.stance with collecting := b } ∧
    ((d.takeStdSample s).2.isSome = true → b = false) ∧ (b = true → d.stance.collecting = true) := by
  cases phase : d.std.phase <;> unfold Device.takeStdSample <;> rw [phase] <;> dsimp only
  · exact ⟨false, by simp [Device.stance, phase, StdPhase.busy], fun _ => rfl, nofun⟩
  all_goals
    split
    · exact ⟨false, d.failStd_stance _ _, fun _ => rfl, nofun⟩
  · exact ⟨_, rfl, nofun, fun _ => by simp [Device.stance, phase, StdPhase.busy]⟩
  · split
    · exact ⟨false, Device.completeStd_stance _, fun _ => rfl, nofun⟩
    · exact ⟨_, rfl, nofun, fun _ => by simp [Device.stance, phase, StdPhase.busy]⟩

theorem Device.shutterFailsStd_stance : d.shutterFailsStd.1.stance = { d.stance with collecting := false } := by
  unfold Device.shutterFailsStd; split
  · next idle => simp [Device.stance, idle, StdPhase.busy]
  · exact d.failStd_stance _ _

end

/-! ## Halts and the drive -/

section
variable {d : Device}

theorem Device.restRule_sound (h : d.stance.sound o m) : d.restRule.stance.sound o m := by
  unfold Device.restRule; split
  · next cond =>
    have halted : d.stance.state = .halted := cond.1
    have off : d.stance.enable = false := by
      have rest := cond.2.2
      simp only [Device.atRest, Bool.and_eq_true, Bool.not_eq_true'] at rest
      exact rest.1
    rw [Device.goTo_stance]
    exact ((h.free (by simp [halted]) (by simp [halted])).enter .unhomed).stand off rfl
  · exact h

theorem Device.haltAtOnce_sound (h : d.stance.grounded m) : d.haltAtOnce.stance.sound o m := by
  unfold Device.haltAtOnce
  refine Device.restRule_sound ?_
  rw [Device.endOp_stance]
  unfold Device.enterHalted; dsimp only
  split
  · next halted =>
    have halted : d.stance.state = .halted := by simpa [Device.stance] using halted
    refine Stance.free.stand ⟨⟨fun _ => ?_, nofun, ?_, ?_⟩, fun _ => ?_, fun _ => ?_⟩ ?_ ?_ <;> simp [halted]
    · exact h.frame
    · exact fun on => by simpa [halted] using h.sampling on
    · rfl
  · refine Stance.free.stand ⟨⟨fun _ => ?_, nofun, ?_, ?_⟩, fun _ => ?_, fun _ => ?_⟩ ?_ ?_ <;> simp
    · exact h.frame
    · rfl

theorem Device.driveFault_sound (n : Nat) (h : d.stance.grounded m) : (d.driveFault n).stance.sound o m :=
  Device.haltAtOnce_sound (by rw [Device.rise_stance]; exact h)

theorem Stance.grounded.enabled {s : Stance} (h : s.grounded m) : { s with enable := true }.grounded m :=
  ⟨nofun, h.range, h.frame, h.sampling⟩

/-- With ENABLE asserted or a drive fault instead (R10, R13). -/
theorem Device.withEnable_sound {k : Device → Device} (h : d.stance.grounded m)
    (run : ∀ e : Device, e.stance = { d.stance with enable := true } → (k e).stance.sound o m) : (d.withEnable k).stance.sound o m := by
  unfold Device.withEnable; split
  · exact Device.driveFault_sound 2 h
  · exact run _ d.raiseEnable_stance

theorem Device.startDrive_sound {side : Side} {k : Device → Device} (h : d.stance.grounded m)
    (run : ∀ e : Device, e.stance = { d.stance with enable := true } → (k e).stance.sound o m) :
    (d.startDrive side k).stance.sound o m := by
  unfold Device.startDrive
  refine Device.withEnable_sound h fun e he => ?_
  split
  · exact Device.haltAtOnce_sound (by rw [Device.riseOvertravel_stance, he]; exact h.enabled)
  · exact run e he

/-- A positioning move arrives at once, or runs in the state it was begun in (R21). -/
theorem Device.beginMove_sound {dest : Int} {speed : Nat} {p : Purpose} {arrive : Device → Device} (h : d.stance.underWay o m)
    (toward : o → (Motion.move 0 0 p).overSheet = true → d.stance.state.overSheet = true) (arrives : (arrive d).stance.sound o m) :
    (d.beginMove dest speed p arrive).stance.sound o m := by
  unfold Device.beginMove
  extract_lets dest
  split
  · exact arrives
  · refine Device.startDrive_sound h.togrounded fun e he => ?_
    have moved := h.run (x := .move dest speed p) (by simp) fun on t => toward on (by cases p <;> simp_all [Motion.overSheet])
    show ({ e.stance with motion := .move dest speed p } : Stance).sound o m
    rw [he]; exact moved

/-! ## Scanning and points -/

/-- SCAN is entered from a state in which the head is moved over the sheet (R28). -/
theorem Device.enterScan_sound {side : Side} (h : d.stance.underWay o m) (on : d.stance.enable = true)
    (toward : o → d.stance.state.overSheet = true) : (d.enterScan side).stance.sound o m := by
  unfold Device.enterScan
  obtain ⟨b, gated⟩ := (((d.goTo .scan).setTrv { (d.goTo .scan).trv with motion := .scanning, scanDir := side }).openScanRecord side).startGating_stance
  rw [gated, Device.openScanRecord_stance,
    show ((d.goTo .scan).setTrv { (d.goTo .scan).trv with motion := .scanning, scanDir := side }).stance =
      { (d.goTo .scan).stance with motion := .scanning } from rfl, Device.goTo_stance]
  have off (w : o) : ¬(d.stance.sheet = .sheetBreak ∨ d.stance.link = .lost) := fun c => by simpa [toward w] using h.clear w c
  refine ⟨⟨⟨?_, h.range, h.frame, fun _ _ => rfl⟩, fun w c => absurd c (off w), fun _ => by simp, fun w c => ?_⟩, on, nofun, fun _ _ => rfl,
    fun _ _ => rfl⟩
  · exact fun c => by rw [show _ = true from on] at c; nomatch c
  · exact absurd c (by simp [h.free.std w])

/-- The run toward the range, and its entry (R28, R31). -/
theorem Device.startRun_sound {side : Side} (h : d.stance.underWay o m) (toward : o → d.stance.state.overSheet = true) :
    (Device.startRun side d).stance.sound o m := by
  unfold Device.startRun
  refine Device.startDrive_sound h.togrounded fun e he => ?_
  have runUp := h.run (x := .runUp side) (by simp) fun on _ => toward on
  dsimp only
  have stance : (e.setTrv { e.trv with motion := .runUp side, target := signed side e.scanSpeed, scanDir := side }).stance =
      { d.stance with enable := true, motion := .runUp side } := by
    show ({ e.stance with motion := .runUp side } : Stance) = _
    rw [he]
  split
  · exact Device.enterScan_sound (by rw [stance]; exact runUp.underWay (by simp) (by simp) (by simp)) (by rw [stance])
      (by rw [stance]; exact toward)
  · rw [stance]; exact runUp

theorem Device.moveToRunUp_sound {side : Side} (h : d.stance.underWay o m) (toward : o → d.stance.state.overSheet = true)
    (ranged : d.trv.range = none → d.stance.sound o m) : (d.moveToRunUp side).stance.sound o m := by
  unfold Device.moveToRunUp; split
  · next none => exact ranged none
  · exact Device.beginMove_sound h (fun on _ => toward on) (Device.startRun_sound h toward)

/-- APPROACH may be entered: nothing is measured, and neither a break nor a lost link keeps the head off the sheet. -/
structure Stance.ready (o m : Prop) (s : Stance) : Prop extends s.free m where
  clear : o → ¬(s.sheet = .sheetBreak ∨ s.link = .lost)

theorem Stance.ready.approach {s : Stance} (h : s.ready o m) : { s with state := .approach, sampling := false }.underWay o m :=
  ⟨(h.tofree.enter .approach).placed (fun on c => absurd c (h.clear on)) (by simp), rfl, fun _ => by simp⟩

theorem Device.approachScan_sound (h : d.stance.ready o m) (ranged : d.stance.range = true) : d.approachScan.stance.sound o m := by
  unfold Device.approachScan
  refine Device.moveToRunUp_sound (by rw [Device.goTo_stance]; exact h.approach) (fun _ => by rw [Device.goTo_stance]; rfl) fun absent => ?_
  have absent : d.trv.range = none := by simpa using absent
  simp [Device.stance, absent] at ranged

theorem Device.enterPoint_sound (h : d.stance.underWay o m) (toward : o → d.stance.state.overSheet = true) :
    d.enterPoint.stance.sound o m := by
  unfold Device.enterPoint
  refine Device.withEnable_sound h.togrounded fun e he => ?_
  dsimp only
  rw [Device.startTimeGating_stance]
  show ({ (e.goTo .point).stance with motion := .hold, sampling := true } : Stance).sound o m
  rw [Device.goTo_stance, he]
  have off (w : o) : ¬(d.stance.sheet = .sheetBreak ∨ d.stance.link = .lost) := fun c => by simpa [toward w] using h.clear w c
  exact ⟨⟨⟨nofun, h.range, h.frame, fun _ _ => rfl⟩, fun w c => absurd c (off w), fun w => by simp [h.free.scan w],
    fun w c => by simp [h.free.std w] at c⟩, rfl, nofun, fun _ _ => rfl, nofun⟩

theorem Device.approachPoint_sound {pos : Nat} (h : d.stance.ready o m) : (d.approachPoint pos).stance.sound o m := by
  unfold Device.approachPoint
  have under : (d.goTo .approach).stance.underWay o m := by rw [Device.goTo_stance]; exact h.approach
  have toward : o → (d.goTo .approach).stance.state.overSheet = true := fun _ => by rw [Device.goTo_stance]; rfl
  exact Device.beginMove_sound under (fun on _ => toward on) (Device.enterPoint_sound under toward)

/-- STANDARDIZING is entered by a head that stands (R34, R62). -/
theorem Device.enterStandardizing_sound (h : d.stance.free m) (still : d.stance.enable = false) :
    d.enterStandardizing.stance.sound o m := by
  unfold Device.enterStandardizing
  obtain ⟨b, begun⟩ := (d.goTo .standardizing).beginCollection_stance
  rw [Device.startTimeGating_stance, begun, Device.goTo_stance]
  exact ⟨⟨⟨h.rest, h.range, h.frame, fun _ _ => rfl⟩, fun _ _ => rfl, fun w => by simp [h.scan w], fun _ _ => rfl⟩,
    by simp [still, TravState.drives], fun c => by simp [h.rest still] at c, fun _ c => by simp [h.rest still, Motion.overSheet] at c, nofun⟩

/-! ## The automatic resume (R41) -/

@[simp] theorem Device.motionTaken_trv (d : Device) : d.motionTaken.trv = { d.trv with resume := none } := by
  unfold Device.motionTaken; dsimp only; split <;> simp

theorem Device.motionTaken_stance (d : Device) : d.motionTaken.stance = d.stance := by
  unfold Device.motionTaken; dsimp only; split
  · exact d.fallIfActive_stance _
  · rfl

theorem Device.openScanOp_stance (d : Device) (tag : Byte) (ranged : d.rangeInForce.isSome = true) :
    (d.openScanOp tag).stance = { d.stance with range := true, op := some .scan } := by
  unfold Device.openScanOp
  rw [Device.setOp_stance, Device.refreshRange_stance, ranged]

/-- The checks of a measuring operation leave the sheet RUNNING and the link GOOD. -/
theorem Device.measureCheck_none (h : d.measureCheck = none) : d.brk.sheet = .running ∧ d.lnk.link = .good := by
  unfold Device.measureCheck at h; split at h <;> [nomatch h; skip]
  split at h <;> [nomatch h; skip]
  split at h <;> [nomatch h; skip]
  simp_all

theorem Device.scanCheck_none (h : d.scanCheck = none) : d.rangeInForce.isSome = true ∧ d.measureCheck = none := by
  unfold Device.scanCheck at h; split at h
  · next r s range active =>
    split at h
    · nomatch h
    · exact ⟨by rw [range]; rfl, h⟩
  · nomatch h

theorem Device.pointCheck_none {pos : Nat} (h : d.pointCheck pos = none) : d.measureCheck = none := by
  unfold Device.pointCheck at h; split at h
  · split at h
    · nomatch h
    · exact h
  · nomatch h

theorem Stance.free.ready {s : Stance} (h : s.free m) (sheet : s.sheet = .running) (link : s.link = .good) : s.ready o m :=
  ⟨h, fun _ => by simp [sheet, link]⟩

theorem Device.beginScanParked_sound {tag : Byte} (h : d.stance.free m) (still : d.stance.enable = false)
    (ranged : d.rangeInForce.isSome = true) (sheet : d.brk.sheet = .running) (link : d.lnk.link = .good) :
    (d.beginScanParked tag).stance.sound o m := by
  have opened := d.openScanOp_stance tag ranged
  have free : (d.openScanOp tag).stance.free m := by
    rw [opened]; exact ⟨⟨h.rest, fun _ => rfl, h.frame, h.sampling⟩, h.scan, h.std⟩
  unfold Device.beginScanParked; dsimp only; split
  · exact Device.enterStandardizing_sound free (by rw [opened]; exact still)
  · exact Device.approachScan_sound (free.ready (by rw [opened]; exact sheet) (by rw [opened]; exact link)) (by rw [opened])

theorem Device.beginPoint_sound {tag : Byte} {pos : Nat} (h : d.stance.free m) (sheet : d.brk.sheet = .running) (link : d.lnk.link = .good) :
    (d.beginPoint tag pos).stance.sound o m := by
  unfold Device.beginPoint; dsimp only
  refine Device.approachPoint_sound (Stance.free.ready ?_ ?_ ?_)
  · rw [Device.setOp_stance, Device.refreshRange_stance]
    exact ⟨⟨h.rest, nofun, h.frame, h.sampling⟩, h.scan, h.std⟩
  · rw [Device.setOp_stance, Device.refreshRange_stance]; exact sheet
  · rw [Device.setOp_stance, Device.refreshRange_stance]; exact link

theorem Device.tryResume_sound (h : d.stance.sound o m) : d.tryResume.stance.sound o m := by
  unfold Device.tryResume; split
  · exact h
  split
  · next ready =>
    have parked : d.stance.state = .parked := by simp only [Device.resumeReady, Bool.and_eq_true, decide_eq_true_eq] at ready; exact ready.1.1
    have free : d.motionTaken.stance.free m := by rw [Device.motionTaken_stance]; exact h.free (by simp [parked]) (by simp [parked])
    have still : d.motionTaken.stance.enable = false := by rw [Device.motionTaken_stance, h.enable, parked]; rfl
    have same : d.motionTaken.brk.sheet = d.brk.sheet ∧ d.motionTaken.lnk.link = d.lnk.link ∧ d.motionTaken.rangeInForce = d.rangeInForce := by
      refine ⟨congrArg Stance.sheet d.motionTaken_stance, congrArg Stance.link d.motionTaken_stance, ?_⟩
      unfold Device.rangeInForce; rw [Device.motionTaken_trv]
    split
    · split
      · rw [Device.resumeRefused, Device.offerDone_stance]; exact h
      · next passes =>
        obtain ⟨ranged, measure⟩ := Device.scanCheck_none passes
        obtain ⟨sheet, link⟩ := Device.measureCheck_none measure
        exact Device.beginScanParked_sound free still (by rw [same.2.2]; exact ranged) (same.1.trans sheet) (same.2.1.trans link)
    · split
      · rw [Device.resumeRefused, Device.offerDone_stance]; exact h
      · next passes =>
        obtain ⟨sheet, link⟩ := Device.measureCheck_none (Device.pointCheck_none passes)
        exact Device.beginPoint_sound free (same.1.trans sheet) (same.2.1.trans link)
  · exact h

/-! ## Parking -/

theorem Stance.sound.ended {s : Stance} (h : s.sound o m) : { s with op := none }.sound o m :=
  ⟨⟨⟨h.rest, nofun, h.frame, h.sampling⟩, h.clear, h.scan, h.std⟩, h.enable, h.stopping, h.toward, h.run⟩

theorem Device.parkedOp_sound {ending : Option (OpResult × Option OpResult)} (h : d.stance.sound o m) (parked : d.stance.state = .parked) :
    (d.parkedOp ending).stance.sound o m := by
  have ended (r : OpResult) (x : Option OpResult) : (d.endOp r x).stance.sound o m := by rw [Device.endOp_stance]; exact h.ended
  unfold Device.parkedOp; repeat' split
  · exact h
  · exact ended _ _
  · exact ended _ _
  · exact Device.enterStandardizing_sound (h.free (by simp [parked]) (by simp [parked])) (by rw [h.enable, parked]; rfl)
  · exact ended _ _
  · exact h

theorem Device.enterParked_sound {ending : Option (OpResult × Option OpResult)} (h : d.stance.free m) :
    (Device.enterParked ending d).stance.sound o m := by
  have stands : ((d.goTo .parked).dropEnable).applyPending.stance.sound o m := by
    rw [Device.applyPending_stance, Device.dropEnable_stance, Device.goTo_stance]
    refine Stance.free.stand ⟨⟨fun _ => rfl, fun scan => ?_, nofun, fun _ => nofun⟩, h.scan, h.std⟩ rfl rfl
    dsimp only
    split
    · next waits => exact h.frame waits
    · exact h.range scan
  have parked : ((d.goTo .parked).dropEnable).applyPending.stance.state = .parked := by
    rw [Device.applyPending_stance, Device.dropEnable_stance, Device.goTo_stance]
  have ended := Device.parkedOp_sound (ending := ending) stands parked
  unfold Device.enterParked; dsimp only; split
  · exact Device.tryResume_sound ended
  · exact ended

theorem Stance.free.parking {s : Stance} (h : s.free m) : { s with state := .parking, sampling := false }.underWay o m :=
  ⟨(h.enter .parking).placed (fun _ _ => rfl) (by simp), rfl, fun _ => by simp⟩

theorem Device.enterParking_sound (h : d.stance.free m) : d.enterParking.stance.sound o m := by
  unfold Device.enterParking
  have under : (d.goTo .parking).stance.underWay o m := by rw [Device.goTo_stance]; exact h.parking
  exact Device.beginMove_sound under (fun _ c => by simp [Motion.overSheet] at c) (Device.enterParked_sound under.free)

end

end

end Sys2Proof.Machine
end

section
/-! PROOFS. The invariant of `Stance` through every operation: ramps, steps, homing, breaks and links, standardizes, commands, rows. -/

namespace Sys2Proof.Machine

section
variable {o m : Prop} {d : Device}

/-! ## Arrivals, turns and ramps -/

theorem Device.arrive_sound {p : Purpose} (h : d.stance.underWay o m)
    (toward : o → (Motion.move 0 0 p).overSheet = true → d.stance.state.overSheet = true) : (d.arrive p).stance.sound o m := by
  cases p with
  | park => exact Device.enterParked_sound h.free
  | runUp side => exact Device.startRun_sound h fun on => toward on rfl
  | point => exact Device.enterPoint_sound h fun on => toward on rfl

theorem Device.turnBraked_sound {b : Bool} (h : d.stance.sound o m) (braking : d.stance.motion = .braking b) :
    (d.turnBraked b).stance.sound o m := by
  have under := h.underWay (by simp [braking]) (by simp [braking]) (by simp [braking])
  have toward (on : o) := h.toward on (by rw [braking]; rfl)
  unfold Device.turnBraked; repeat' split
  · exact Device.enterParking_sound under.free
  · exact Device.startRun_sound under toward
  · exact Device.moveToRunUp_sound under toward fun _ => h

/-- The stopping ramp has ended: the head stands in HALTED (R15). -/
theorem Device.stopped_sound (h : d.stance.sound o m) (stopping : d.stance.motion = .stopping) : d.dropEnable.stance.sound o m := by
  have halted := h.stopping stopping
  rw [Device.dropEnable_stance]
  have free := h.free (by simp [halted]) (by simp [halted])
  exact Stance.free.stand ⟨⟨fun _ => rfl, h.range, h.frame, h.sampling⟩, free.scan, free.std⟩ rfl (by simp [halted, TravState.moves])

theorem Device.afterRamp_sound (h : d.stance.sound o m) : d.afterRamp.stance.sound o m := by
  unfold Device.afterRamp; split
  · next dest speed p motion =>
    have motion : d.stance.motion = .move dest speed p := motion
    have under := h.underWay (by simp [motion]) (by simp [motion]) (by simp [motion])
    have toward (on : o) (t : (Motion.move 0 0 p).overSheet = true) := h.toward on (by rw [motion]; cases p <;> simp_all [Motion.overSheet])
    split
    · split
      · exact Device.arrive_sound under toward
      · exact Device.beginMove_sound under toward (Device.arrive_sound under toward)
    · exact h
  · next motion =>
    have motion : d.stance.motion = .reversing := motion
    split
    · have under := h.underWay (by simp [motion]) (by simp [motion]) (by simp [motion])
      have sought := under.run (x := .seek) (by simp) (fun _ c => nomatch c)
      have stance : (d.setTrv { d.trv with motion := .seek }).stance = { d.stance with enable := true, motion := .seek } := by
        rw [← h.enabled (by simp [motion])]; rfl
      rw [stance]; exact sought
    · exact h
  · next motion =>
    split
    · exact Device.turnBraked_sound h motion
    · exact h
  · next motion =>
    dsimp only
    split
    · split
      · rw [Device.endOp_stance]; exact (Device.stopped_sound h motion).ended
      · exact Device.stopped_sound h motion
    · exact h
  all_goals exact h

/-! ## Steps, illegal transitions and losses of position -/

theorem Device.chooseTurn_stance (d : Device) : ∃ b, d.chooseTurn.stance = { d.stance with motion := .braking b } := by
  have kinds (reload : Bool) : (d.trv.op.map (fun o => if reload then { o with stdDue := true, reloadDue := true } else o)).map OpRecord.kind =
      d.trv.op.map OpRecord.kind := by
    cases d.trv.op <;> cases reload <;> rfl
  unfold Device.chooseTurn; split
  · refine ⟨true, ?_⟩
    dsimp only
    simp only [Device.stance, Device.setTrv_trv, kinds]; rfl
  · exact ⟨false, rfl⟩

theorem Device.enterTurn_sound (h : d.stance.sound o m) (scan : d.stance.state = .scan) : d.enterTurn.stance.sound o m := by
  unfold Device.enterTurn
  obtain ⟨b, chosen⟩ := ((((d.goTo .turn).closeScan .complete).countPlan).applyPending).chooseTurn_stance
  have counted : ((d.goTo .turn).closeScan .complete).countPlan.stance = { (d.goTo .turn).stance with scanning := false } :=
    (d.goTo .turn).closeScan_stance .complete
  rw [chosen, Device.applyPending_stance, counted, Device.goTo_stance]
  have enabled : d.stance.enable = true := by rw [h.enable, scan]; rfl
  have off (on : o) : ¬(d.stance.sheet = .sheetBreak ∨ d.stance.link = .lost) := fun c => by simpa [scan, TravState.overSheet] using h.clear on c
  refine ⟨⟨⟨fun c => ?_, fun op => ?_, nofun, fun _ => nofun⟩, fun on c => absurd c (off on), fun on => by simp, fun on c => ?_⟩, enabled,
    nofun, fun _ _ => rfl, nofun⟩
  · rw [show _ = true from enabled] at c; nomatch c
  · dsimp only; split
    · next waits => exact h.frame waits
    · exact h.range op
  · have std := h.std on c
    rw [scan] at std; nomatch std

theorem Device.afterStep_sound {up : Bool} (h : d.stance.sound o m) : (d.afterStep up).stance.sound o m := by
  have approach {s : Side} (motion : d.stance.motion = .runUp s) : (d.enterScan s).stance.sound o m :=
    Device.enterScan_sound (h.underWay (by simp [motion]) (by simp [motion]) (by simp [motion])) (h.enabled (by simp [motion]))
      fun on => h.toward on (by rw [motion]; rfl)
  unfold Device.afterStep; dsimp only
  generalize (if up then Side.ds else Side.ts) = side
  split
  · next scan =>
    have scan : d.stance.state = .scan := scan
    split
    · have crossed : (if d.acq.next = some d.trv.counter then d.crossBoundary else d).stance.sound o m ∧
          (if d.acq.next = some d.trv.counter then d.crossBoundary else d).stance.state = .scan := by
        split
        · rw [Device.crossBoundary_stance]
          exact ⟨⟨⟨⟨h.rest, h.range, h.frame, fun _ _ => by rw [scan]; rfl⟩, h.clear, h.scan, h.std⟩, h.enable, h.stopping, h.toward, h.run⟩, scan⟩
        · exact ⟨h, scan⟩
      generalize (if d.acq.next = some d.trv.counter then d.crossBoundary else d) = e at crossed
      split
      · exact Device.enterTurn_sound crossed.1 crossed.2
      · exact crossed.1
    · exact h
  · split
    · next motion => split <;> [exact approach motion; exact h]
    · exact h
  · split
    · next motion => split <;> [exact approach motion; exact h]
    · exact h
  all_goals exact h

theorem Device.losePosition_sound {n c : Nat} (h : d.stance.sound o m) : (d.losePosition n c).stance.sound o m := by
  unfold Device.losePosition; dsimp only
  have same : ((d.setTrv { d.trv with homed := false }).rise srcPositionLost (codedValue n c)).stance = d.stance := by
    rw [Device.rise_stance]; rfl
  generalize (d.setTrv { d.trv with homed := false }).rise srcPositionLost (codedValue n c) = e at same
  split
  · next enabled =>
    have enabled : d.stance.enable = true := by rw [← same]; exact enabled
    split
    · rw [Device.endOp_stance, same]; exact h.ended
    · rw [Device.endOp_stance]
      show ({ (((e.closeScan .abortedFault).goTo .halted).stance) with motion := .stopping, op := none } : Stance).sound o m
      rw [Device.goTo_stance, Device.closeScan_stance, same]
      refine ⟨⟨⟨fun off => ?_, nofun, h.frame, fun _ => nofun⟩, fun _ _ => rfl, fun _ => by simp, fun on c => ?_⟩, enabled, fun _ => rfl,
        fun _ c => (nomatch c), nofun⟩
      · rw [show _ = true from enabled] at off; nomatch off
      · have std := h.std on c
        have moves := h.enable.symm.trans enabled
        rw [std] at moves; nomatch moves
  · next off =>
    have off : d.stance.enable = false := by rw [← same]; simpa [Device.stance] using off
    rw [Device.endOp_stance, Device.goTo_stance, Device.abandonStd_stance, same]
    refine Stance.free.stand ⟨⟨h.rest, nofun, h.frame, fun _ => nofun⟩, fun on => ?_, fun _ => rfl⟩ off rfl
    by_contra c
    have scan := (h.scan on).mp (by simpa using c)
    rw [h.enable, scan] at off; nomatch off

theorem Device.sampleEncoder_sound {a b : Bool} (h : d.stance.sound o m) : (d.sampleEncoder a b).stance.sound o m := by
  unfold Device.sampleEncoder Device.takeIllegal Device.takeStep; dsimp only; repeat' split
  all_goals first
    | exact h
    | exact Device.losePosition_sound (d := d.setTrv _) h
    | exact Device.losePosition_sound (d := Device.setTrv (d.setTrv _) _) h
    | exact Device.afterStep_sound (d := Device.setTrv (d.setTrv _) _) h

/-! ## Homing -/

theorem Stance.free.homing {s : Stance} (h : s.free m) : { s with state := .homing, sampling := false }.underWay o m :=
  ⟨(h.enter .homing).placed (fun _ _ => rfl) (by simp), rfl, fun _ => by simp⟩

theorem Device.enterHoming_sound (h : d.stance.free m) : d.enterHoming.stance.sound o m := by
  unfold Device.enterHoming
  extract_lets e t f v
  have under : f.stance.underWay o m := by
    show e.stance.underWay o m
    rw [Device.goTo_stance]; exact h.homing
  have drive {side : Side} {x : Motion} {t : Int} (moving : x ≠ .stopping) (off : x.overSheet = false) :
      (f.startDrive side (fun d => d.setTrv { d.trv with motion := x, target := t })).stance.sound o m := by
    refine Device.startDrive_sound under.togrounded fun k hk => ?_
    show ({ k.stance with motion := x } : Stance).sound o m
    rw [hk]; exact under.run moving fun _ c => by simp [off] at c
  split
  · exact drive (by simp) rfl
  · exact drive (by simp) rfl

theorem Device.endBackOff_sound (h : d.stance.sound o m) : d.endBackOff.stance.sound o m := by
  unfold Device.endBackOff; split
  · next cond =>
    have motion : d.stance.motion = .backOff := cond.1
    have under := h.underWay (by simp [motion]) (by simp [motion]) (by simp [motion])
    have stance (t : Int) : (d.setTrv { d.trv with motion := .reversing, target := t }).stance = { d.stance with enable := true, motion := .reversing } := by
      rw [← h.enabled (by simp [motion])]; rfl
    rw [stance]
    exact under.run (x := .reversing) (by simp) fun _ c => nomatch c
  · exact h

theorem Device.homeClosure_sound (h : d.stance.sound o m) : d.homeClosure.stance.sound o m := by
  unfold Device.homeClosure; repeat' split
  · next motion =>
    have motion : d.stance.motion = .seek := motion
    have under := h.underWay (by simp [motion]) (by simp [motion]) (by simp [motion])
    unfold Device.completeHoming; dsimp only
    refine Device.enterParking_sound ?_
    rw [Device.fallIfActive_stance]; exact under.free
  · exact Device.losePosition_sound h
  all_goals exact h

/-! ## Breaks and link losses -/

theorem Device.leaveSheet_sound {c : Completion} {r : OpResult} (h : d.stance.grounded m) (std : m → d.stance.collecting = false) :
    (d.leaveSheet c r).stance.sound o m := by
  unfold Device.leaveSheet; dsimp only
  have under : (((d.goTo .parking).closeScan c).endOp r none).stance.underWay o m := by
    rw [Device.endOp_stance, Device.closeScan_stance, Device.goTo_stance]
    have free : Stance.free m { d.stance with op := none, scanning := false } :=
      ⟨⟨h.rest, nofun, h.frame, h.sampling⟩, fun _ => rfl, std⟩
    exact free.parking
  exact Device.beginMove_sound under (fun _ c => by simp [Motion.overSheet] at c) (Device.enterParked_sound under.free)

/-- A change of sheet or link state leaves the invariant but for `clear`. -/
theorem Stance.sound.off {s : Stance} (h : s.sound o m) (still : s.state.overSheet = false) (x : SheetState) (l : LinkState) :
    { s with sheet := x, link := l }.sound o m :=
  ⟨⟨⟨h.rest, h.range, h.frame, h.sampling⟩, fun _ _ => still, h.scan, h.std⟩, h.enable, h.stopping, h.toward, h.run⟩

/-- A change of sheet and link state that asks for no parking. -/
theorem Stance.sound.eased {s : Stance} (h : s.sound o m) {x : SheetState} {l : LinkState} (sheet : x = .sheetBreak → s.sheet = .sheetBreak)
    (link : l = .lost → s.link = .lost) : { s with sheet := x, link := l }.sound o m :=
  ⟨⟨⟨h.rest, h.range, h.frame, h.sampling⟩, fun on c => h.clear on (c.imp sheet link), h.scan, h.std⟩, h.enable, h.stopping, h.toward,
    h.run⟩

theorem Stance.sound.notCollecting {s : Stance} (h : s.sound o m) (other : s.state ≠ .standardizing) : m → s.collecting = false :=
  fun on => by simpa [other] using mt (h.std on) other

theorem Device.parkOnBreak_sound {s : Stance} (h : s.sound o m) {x : SheetState} (stance : d.stance = { s with sheet := x }) :
    d.parkOnBreak.stance.sound o m := by
  have state : d.trv.state = s.state := by rw [show d.trv.state = d.stance.state from rfl, stance]
  unfold Device.parkOnBreak; split
  · next above =>
    rw [state] at above
    refine Device.leaveSheet_sound (by rw [stance]; exact ⟨h.rest, h.range, h.frame, h.sampling⟩) ?_
    rw [stance]; exact h.notCollecting fun c => by rw [c] at above; nomatch above
  · next off => rw [stance]; exact h.off (by rw [state] at off; simpa using off) x s.link

theorem Device.parkOnLinkLoss_sound {s : Stance} (h : s.sound o m) {l : LinkState} (stance : d.stance = { s with link := l }) :
    d.parkOnLinkLoss.stance.sound o m := by
  have state : d.trv.state = s.state := by rw [show d.trv.state = d.stance.state from rfl, stance]
  unfold Device.parkOnLinkLoss; split
  · next above =>
    rw [state] at above
    refine Device.leaveSheet_sound (by rw [stance]; exact ⟨h.rest, h.range, h.frame, h.sampling⟩) ?_
    rw [stance]; exact h.notCollecting fun c => by rw [c] at above; nomatch above
  · next off =>
    have parked : d.stance.sound o m := by rw [stance]; exact h.off (by rw [state] at off; simpa using off) s.sheet l
    split
    · next std =>
      have std : d.stance.state = .standardizing := std
      refine Device.enterParked_sound ?_
      rw [Device.abandonStd_stance]
      exact ⟨⟨parked.rest, parked.range, parked.frame, parked.sampling⟩, fun on => by simpa [std] using parked.scan on, fun _ => rfl⟩
    · split
      · rw [Device.endOp_stance]; exact parked.ended
      · exact parked

theorem Device.noteResume_stance (d : Device) : d.noteResume.stance = d.stance := by
  unfold Device.noteResume; repeat' split
  all_goals rfl

theorem Device.relinked_stance (d : Device) : d.relinked.stance = { d.stance with link := d.lnk.link.follow d.lnk.quality } := by
  simp [Device.stance]

theorem Device.followLink_sound (h : d.stance.sound o m) : d.followLink.stance.sound o m := by
  rw [Device.followLink_eq]; split
  · exact h
  · split
    · next good => rw [Device.relinked_stance]; exact h.eased id (by simp [good])
    · next degraded => rw [Device.discardTraffic_stance, Device.relinked_stance]; exact h.eased id (by simp [degraded])
    · exact Device.parkOnLinkLoss_sound h (by rw [Device.discardTraffic_stance, Device.relinked_stance])

/-! ## The end of a standardize -/

theorem Device.afterStd_sound {r : OpResult} (h : d.stance.free m) : (d.afterStd r).stance.sound o m := by
  unfold Device.afterStd; split
  · exact Device.enterParked_sound h
  · next p op =>
    split
    · next scan =>
      unfold Device.scanAfterStd; split
      · have stance : (d.reloadPlan p).stance = d.stance := by
          simp [Device.stance, Device.reloadPlan, op]
        have free : (d.reloadPlan p).stance.free m := by rw [stance]; exact h
        dsimp only
        split
        · exact Device.enterParked_sound free
        · next linked =>
          split
          · next sheet =>
            refine Device.approachScan_sound ⟨free, fun _ c => c.elim (fun broken => ?_) linked⟩ ?_
            · rcases sheet with s | s <;> rw [show (d.reloadPlan p).stance.sheet = (d.reloadPlan p).brk.sheet from rfl, s] at broken <;>
                nomatch broken
            · rw [stance]; exact h.range (by simp [Device.stance, op, scan])
          · exact Device.enterParked_sound free
      · exact Device.enterParked_sound h
    · exact Device.enterParked_sound h

theorem Device.reportStd_sound {c : Device × Option OpResult} (h : c.1.stance.sound o m) (done : c.2.isSome = true → c.1.stance.free m) :
    (Device.reportStd c).stance.sound o m := by
  unfold Device.reportStd; split
  · exact h
  · next r result => exact Device.afterStd_sound (done (by rw [result]; rfl))

theorem Stance.sound.idle {s : Stance} (h : s.sound o m) : { s with collecting := false }.sound o m :=
  ⟨⟨⟨h.rest, h.range, h.frame, h.sampling⟩, h.clear, h.scan, fun _ => nofun⟩, h.enable, h.stopping, h.toward, h.run⟩

theorem Device.shutterMismatch_sound (h : d.stance.sound o m) : d.shutterMismatch.stance.sound o m := by
  unfold Device.shutterMismatch; dsimp only
  have same : ((d.setTrv { d.trv with mismatch := none }).rise srcShutter (if d.trv.openCmd then 1 else 0)).stance = d.stance := by
    rw [Device.rise_stance]; rfl
  generalize (d.setTrv { d.trv with mismatch := none }).rise srcShutter (if d.trv.openCmd then 1 else 0) = e at same
  rw [← same] at h
  refine Device.reportStd_sound ?_ fun failed => ?_
  · rw [Device.shutterFailsStd_stance]; exact h.idle
  · have busy : e.std.phase ≠ .idle := fun idle => by simp [Device.shutterFailsStd, idle] at failed
    rw [Device.shutterFailsStd_stance]
    refine ⟨⟨h.rest, h.range, h.frame, h.sampling⟩, fun on => ?_, fun _ => rfl⟩
    simpa [h.std on ((StdPhase.busy_iff _).mpr busy)] using h.scan on

theorem Device.closeTimedSample_sound {p : OpenSample} (timed : d.acq.sampleTimer.isSome = true) (h : d.stance.sound o m) :
    (d.closeTimedSample p).stance.sound o m := by
  have samples (on : m) : d.stance.state.samples = true := h.sampling on (by simp [Device.stance, timed])
  have open' : { d.stance with sampling := true }.sound o m :=
    ⟨⟨⟨h.rest, h.range, h.frame, fun on _ => samples on⟩, h.clear, h.scan, h.std⟩, h.enable, h.stopping, h.toward, h.run⟩
  unfold Device.closeTimedSample; dsimp only
  refine keeps_ite (L := fun e => e.stance.sound o m) (fun std => ?_) (fun _ => ?_)
  · rw [Device.recordClosed_stance]
    have state : d.stance.state = .standardizing := std
    obtain ⟨b, taken, ended, was⟩ := (d.startTimeGating _).takeStdSample_stance (d.closing p)
    rw [Device.startTimeGating_stance] at taken
    refine Device.reportStd_sound ?_ fun result => ?_
    · rw [taken]
      exact ⟨⟨⟨h.rest, h.range, h.frame, fun on _ => samples on⟩, h.clear, h.scan, fun _ _ => state⟩, h.enable, h.stopping, h.toward, h.run⟩
    · rw [taken, ended result]
      exact ⟨⟨h.rest, h.range, h.frame, fun on _ => samples on⟩, fun on => by simpa [state] using h.scan on, fun _ => rfl⟩
  · rw [Device.recordClosed_stance, Device.enterRing_stance]
    show ((d.startTimeGating _).stance).sound o m
    rw [Device.startTimeGating_stance]; exact open'

end

end Sys2Proof.Machine
end

section
/-! PROOFS. The invariant of `Stance` through commands, the Break Detector and every row (O55, O56, O57). -/

namespace Sys2Proof.Machine

section
variable {o m : Prop} {d : Device}

/-! ## Motion commands -/

theorem Device.motionCommand_sound {f : Frame} {len : Nat} {v : Verdict} {c : Option ReplyCode} {start : Device → Device}
    (h : d.stance.sound o m) (starts : v = .taken → c = none → (start d.motionTaken).stance.sound o m) :
    (d.motionCommand f len v c start).1.stance.sound o m := by
  unfold Device.motionCommand; split
  · exact h
  · cases v with
    | refuse r => exact h
    | okNoDone => dsimp only; rw [Device.motionTaken_stance]; exact h
    | taken =>
      cases c with
      | some r => exact h
      | none => exact starts rfl rfl

/-- Commands are taken in a standing state with ENABLE low, or in one that they abort. -/
theorem Device.homeVerdict_taken (h : d.homeVerdict = .taken) :
    d.stance.state = .unhomed ∨ d.stance.state = .parked ∨ d.stance.state = .halted ∧ d.stance.enable = false := by
  unfold Device.homeVerdict at h
  cases state : d.trv.state <;> simp_all [Device.stance]

theorem Device.measureVerdict_taken (h : d.measureVerdict = .taken) :
    d.stance.state = .parked ∨ d.stance.state = .halted ∧ d.stance.enable = false := by
  unfold Device.measureVerdict at h
  cases state : d.trv.state <;> simp_all [Device.stance]
  split at h <;> simp_all

theorem Device.standardizeVerdict_taken (h : d.standardizeVerdict = .taken) : d.stance.state = .parked := by
  unfold Device.standardizeVerdict at h
  cases state : d.trv.state <;> simp_all [Device.stance]

theorem Stance.free.setOp {s : Stance} (h : s.free m) {k : OpKind} (other : k ≠ .scan) : { s with op := some k }.free m :=
  ⟨⟨h.rest, fun c => absurd (Option.some.inj c) other, h.frame, h.sampling⟩, h.scan, h.std⟩

theorem Device.home_sound (f : Frame) (h : d.stance.sound o m) : (Device.home f d).1.stance.sound o m := by
  unfold Device.home
  refine Device.motionCommand_sound h fun taken _ => Device.enterHoming_sound ?_
  have free : d.stance.free m := by
    rcases Device.homeVerdict_taken taken with s | s | ⟨s, _⟩ <;> exact h.free (by simp [s]) (by simp [s])
  rw [Device.setOp_stance, Device.motionTaken_stance]
  exact free.setOp (by simp [newOp])

theorem Device.abortOp_stance (d : Device) : d.abortOp.stance = { d.stance with scanning := false, op := none } := by
  unfold Device.abortOp; rw [Device.endOp_stance, Device.closeScan_stance]

theorem Device.beginPark_sound {tag : Byte} (h : d.stance.sound o m) : (Device.beginPark tag d).stance.sound o m := by
  unfold Device.beginPark; dsimp only
  have aborted := d.abortOp_stance
  split
  · refine Device.enterParked_sound (Stance.free.setOp (s := d.abortOp.abandonStd.stance) ?_ (by simp [newOp]))
    rw [Device.abandonStd_stance, aborted]
    exact ⟨⟨h.rest, nofun, h.frame, h.sampling⟩, fun _ => rfl, fun _ => rfl⟩
  · next other =>
    have other : d.stance.state ≠ .standardizing := fun c => other (by
      rw [show d.abortOp.trv.state = d.abortOp.stance.state from rfl, aborted]; exact c)
    refine Device.enterParking_sound (Stance.free.setOp (s := d.abortOp.stance) ?_ (by simp [newOp]))
    rw [aborted]
    exact ⟨⟨h.rest, nofun, h.frame, h.sampling⟩, fun _ => rfl, h.notCollecting other⟩

theorem Device.beginStop_sound {tag : Byte} (h : d.stance.sound o m) : (Device.beginStop tag d).stance.sound o m := by
  have halted : ((d.abortOp.abandonStd.goTo .halted).setOp (newOp .stop tag)).stance =
      { d.stance with state := .halted, op := some .stop, sampling := false, scanning := false, collecting := false } := by
    rw [Device.setOp_stance, Device.goTo_stance, Device.abandonStd_stance, Device.abortOp_stance]; rfl
  unfold Device.beginStop; dsimp only
  generalize (d.abortOp.abandonStd.goTo .halted).setOp (newOp .stop tag) = e at halted
  have enable : e.trv.enable = d.stance.enable := by rw [show e.trv.enable = e.stance.enable from rfl, halted]
  have free : e.stance.free m := by
    rw [halted]; exact ⟨⟨h.rest, nofun, h.frame, fun _ => nofun⟩, fun _ => rfl, fun _ => rfl⟩
  split
  · next moving =>
    have moving : d.stance.enable = true := enable ▸ moving
    show ({ e.stance with motion := .stopping } : Stance).sound o m
    rw [halted]
    refine ⟨⟨⟨fun off => ?_, nofun, h.frame, fun _ => nofun⟩, fun _ _ => rfl, fun _ => by simp, fun _ => nofun⟩, moving, fun _ => rfl,
      fun _ c => (nomatch c), nofun⟩
    rw [show _ = true from moving] at off; nomatch off
  · next still =>
    have still : e.stance.enable = false := by simpa [Device.stance] using still
    have state : e.stance.state = .halted := by rw [halted]
    refine Device.restRule_sound ?_
    rw [Device.endOp_stance]
    exact (free.stand still (by rw [state]; rfl)).ended

theorem Device.scan_sound (f : Frame) (h : d.stance.sound o m) : (Device.scan f d).1.stance.sound o m := by
  unfold Device.scan
  refine Device.motionCommand_sound h fun taken passes => ?_
  obtain ⟨ranged, measure⟩ := Device.scanCheck_none passes
  obtain ⟨sheet, link⟩ := Device.measureCheck_none measure
  have free : d.stance.free m := by
    rcases Device.measureVerdict_taken taken with s | ⟨s, _⟩ <;> exact h.free (by simp [s]) (by simp [s])
  have still : d.stance.enable = false := by
    rcases Device.measureVerdict_taken taken with s | ⟨_, e⟩
    · rw [h.enable, s]; rfl
    · exact e
  have stance := d.motionTaken_stance
  have same : d.motionTaken.rangeInForce = d.rangeInForce := by
    unfold Device.rangeInForce; rw [Device.motionTaken_trv]
  generalize d.motionTaken = e at stance same
  rw [← stance] at free still
  have sheet : e.brk.sheet = .running := by rw [show e.brk.sheet = e.stance.sheet from rfl, stance]; exact sheet
  have link : e.lnk.link = .good := by rw [show e.lnk.link = e.stance.link from rfl, stance]; exact link
  rw [← same] at ranged
  unfold Device.beginScan; split
  · refine Device.enterParking_sound ?_
    rw [Device.openScanOp_stance _ _ ranged]
    exact ⟨⟨free.rest, fun _ => rfl, free.frame, free.sampling⟩, free.scan, free.std⟩
  · exact Device.beginScanParked_sound free still ranged sheet link

theorem Device.point_sound (f : Frame) (h : d.stance.sound o m) : (Device.point f d).1.stance.sound o m := by
  unfold Device.point
  refine Device.motionCommand_sound h fun taken passes => ?_
  obtain ⟨sheet, link⟩ := Device.measureCheck_none (Device.pointCheck_none passes)
  have free : d.stance.free m := by
    rcases Device.measureVerdict_taken taken with s | ⟨s, _⟩ <;> exact h.free (by simp [s]) (by simp [s])
  have stance := d.motionTaken_stance
  generalize d.motionTaken = e at stance
  refine Device.beginPoint_sound (stance ▸ free) ?_ ?_
  · rw [show e.brk.sheet = e.stance.sheet from rfl, stance]; exact sheet
  · rw [show e.lnk.link = e.stance.link from rfl, stance]; exact link

theorem Device.standardize_sound (f : Frame) (h : d.stance.sound o m) : (Device.standardize f d).1.stance.sound o m := by
  unfold Device.standardize
  refine Device.motionCommand_sound h fun taken _ => ?_
  have parked := Device.standardizeVerdict_taken taken
  have still : d.stance.enable = false := by rw [h.enable, parked]; rfl
  refine Device.enterStandardizing_sound ?_ ?_
  · rw [Device.setOp_stance, Device.motionTaken_stance]
    exact (h.free (by simp [parked]) (by simp [parked])).setOp (by simp [newOp])
  · rw [Device.setOp_stance, Device.motionTaken_stance]; exact still

theorem Device.park_sound (f : Frame) (h : d.stance.sound o m) : (Device.park f d).1.stance.sound o m :=
  Device.motionCommand_sound h fun _ _ => Device.beginPark_sound (by rw [Device.motionTaken_stance]; exact h)

theorem Device.stop_sound (f : Frame) (h : d.stance.sound o m) : (Device.stop f d).1.stance.sound o m :=
  Device.motionCommand_sound h fun _ _ => Device.beginStop_sound (by rw [Device.motionTaken_stance]; exact h)

/-! ## Settings -/

theorem Stance.sound.framed {s : Stance} (h : s.sound o m) : { s with frame := true }.sound o m :=
  ⟨⟨⟨h.rest, h.range, fun _ => rfl, h.sampling⟩, h.clear, h.scan, h.std⟩, h.enable, h.stopping, h.toward, h.run⟩

theorem Device.setFrame_sound (f : Frame) (h : d.stance.sound o m) : (Device.setFrame f d).1.stance.sound o m := by
  unfold Device.setFrame; dsimp only
  split
  · exact h
  next free =>
  have still : d.stance.enable = false ∧ d.stance.state ≠ .scan ∧ d.stance.state ≠ .standardizing := by
    unfold Device.frameBusy at free
    have enable := h.enable
    cases state : d.trv.state <;> simp_all [Device.stance, TravState.drives]
  obtain ⟨still, notScan, notStd⟩ := still
  have framed := h.framed
  have entered {e : Device} {st : TravState} (stance : e.stance = { d.stance with frame := true }) (stands : st.moves = false) :
      (e.goTo st).stance.sound o m := by
    rw [Device.goTo_stance, stance]
    exact ((framed.free notScan notStd).enter st).stand still stands
  split
  · exact h
  split
  · exact h
  unfold Device.replaceFrame; dsimp only
  split
  · exact entered rfl rfl
  split
  · exact entered rfl rfl
  · exact framed

theorem Device.displacePending_stance (d : Device) : d.displacePending.stance = { d.stance with pending := false } := by
  unfold Device.displacePending; split
  · next none => simp [Device.stance, none]
  · rw [Device.offerDone_stance]; rfl

theorem Device.setScan_sound (f : Frame) (h : d.stance.sound o m) : (Device.setScan f d).1.stance.sound o m := by
  unfold Device.setScan; dsimp only
  split
  · exact h
  split
  · exact h
  split
  · exact h
  next record framed =>
  split
  · exact h
  have framed : d.stance.frame = true := by simp [Device.stance, framed]
  unfold Device.takeSettings; dsimp only
  split
  · rw [Device.applySettings_stance, Device.displacePending_stance]
    exact ⟨⟨⟨h.rest, fun _ => framed, nofun, h.sampling⟩, h.clear, h.scan, h.std⟩, h.enable, h.stopping, h.toward, h.run⟩
  · show ({ d.displacePending.stance with pending := true } : Stance).sound o m
    rw [Device.displacePending_stance]
    exact ⟨⟨⟨h.rest, h.range, fun _ => framed, h.sampling⟩, h.clear, h.scan, h.std⟩, h.enable, h.stopping, h.toward, h.run⟩

/-! ## The Break Detector -/

theorem Device.placeBreaks_stance (k : Nat) (d : Device) : (d.placeBreaks k).stance = d.stance := by
  induction k generalizing d with
  | zero => rfl
  | succ k ih =>
    unfold Device.placeBreaks; split
    · rw [ih]; unfold Device.placeBreak; dsimp only; repeat' split
      all_goals rfl
    · rfl

theorem Device.closeRecord_stance (d : Device) : d.closeRecord.stance = d.stance := by
  cases found : d.brk.openRec with
  | none => rw [Device.closeRecord_of_none found]
  | some r =>
    rw [Device.closeRecord_of_some found]
    show (d.finished r).stance = d.stance
    unfold Device.finished; split
    · exact Device.placeBreaks_stance _ _
    · rfl

theorem Device.evaluateSheet_sound (h : d.stance.sound o m) : d.evaluateSheet.stance.sound o m := by
  unfold Device.evaluateSheet; dsimp only; split
  · exact h
  · cases new : d.brk.evaluate with
    | sheetBreak => exact Device.parkOnBreak_sound h rfl
    | running =>
      refine Device.tryResume_sound ?_
      rw [Device.closeRecord_stance]
      exact h.eased (x := .running) nofun id
    | noSheet => exact h.eased (x := .noSheet) nofun id
    | threading => exact h.eased (x := .threading) nofun id

theorem Device.stationInput_sound (n : Fin 8) (v : Bool) (h : d.stance.sound o m) : (d.stationInput n v).stance.sound o m := by
  have moved : (d.moveStationInput n v).stance.sound o m := h
  unfold Device.stationInput; dsimp only; repeat' split
  · exact h
  · unfold Device.presenceSeen; dsimp only; repeat' split
    all_goals first
      | exact moved
      | exact Device.evaluateSheet_sound (by rw [Device.fallIfActive_stance]; exact moved)
      | exact Device.evaluateSheet_sound (d := Device.setStationAt _ n _) moved
  · unfold Device.presenceLost; dsimp only; repeat' split
    all_goals first | exact moved | exact Device.evaluateSheet_sound (d := Device.setStationAt _ n _) moved

theorem Device.qualifyLoss_sound (n : Fin 8) (h : d.stance.sound o m) : (d.qualifyLoss n).stance.sound o m := by
  unfold Device.qualifyLoss; dsimp only; repeat' split
  · unfold Device.declareBreak; dsimp only
    show (Device.rise _ _ _).stance.sound o m
    rw [Device.rise_stance]
    refine Device.evaluateSheet_sound ?_
    rw [Device.noteResume_stance]; exact h
  · refine Device.evaluateSheet_sound ?_
    unfold Device.cascadeLoss; dsimp only; repeat' split
    all_goals first | exact h | (rw [Device.rise_stance]; exact h)
  · exact Device.evaluateSheet_sound (d := Device.setStationAt _ n _) h

theorem Device.closeCascade_stance (d : Device) : d.closeCascade.stance = d.stance := by
  unfold Device.closeCascade; split
  · rfl
  · exact Device.placeBreaks_stance _ _

theorem Device.defineStation_stance (d : Device) (n : Fin 8) (f : StationDef) : (d.defineStation n f).stance = d.stance := by
  unfold Device.defineStation; dsimp only; repeat' split
  all_goals rfl

/-- RESTART leaves the part standing, nothing measured. -/
theorem Device.restarted_sound (tag : Byte) : (d.restartBlocks.startUp 2 tag).stance.sound o m := by
  have state : (d.restartBlocks.startUp 2 tag).trv.state = .unhomed := by rw [Device.startUp_trv]; rfl
  have enable : (d.restartBlocks.startUp 2 tag).trv.enable = false := by rw [Device.startUp_trv]; rfl
  have motion : (d.restartBlocks.startUp 2 tag).trv.motion = .rest := by rw [Device.startUp_trv]; rfl
  have op : (d.restartBlocks.startUp 2 tag).trv.op = none := by rw [Device.startUp_trv]; rfl
  have pending : (d.restartBlocks.startUp 2 tag).trv.pending = none := by rw [Device.startUp_trv]; rfl
  have acq : (d.restartBlocks.startUp 2 tag).acq.sample = none ∧ (d.restartBlocks.startUp 2 tag).acq.sampleTimer = none := by
    rw [Device.startUp_acq]; exact ⟨rfl, rfl⟩
  have scan : (d.restartBlocks.startUp 2 tag).prf.openScan = none := by rw [Device.startUp_prf]; rfl
  have phase : (d.restartBlocks.startUp 2 tag).std.phase = .idle := by rw [Device.startUp_std]; rfl
  generalize d.restartBlocks.startUp 2 tag = e at state enable motion op pending acq scan phase
  exact Stance.free.stand
    ⟨⟨fun _ => motion, by simp [Device.stance, op], by simp [Device.stance, pending], by simp [Device.stance, acq]⟩,
      by simp [Device.stance, scan], by simp [Device.stance, phase, StdPhase.busy]⟩
    enable (by simp [Device.stance, state, TravState.moves])

theorem Device.restart_sound (f : Frame) (h : d.stance.sound o m) : (Device.restart f d).1.stance.sound o m := by
  unfold Device.restart; split
  · exact h
  · dsimp only; exact Device.restarted_sound f.tag

/-! ## Every operation, and every row -/

theorem Device.sound_handled {k : Byte} {x : Handler} (f : Frame) (mem : (k, x) ∈ handlerIndex) (h : d.stance.sound o m) :
    (x f d).1.stance.sound o m :=
  handlerIndex_induction (p := fun x => (x f d).1.stance.sound o m) (fun _ reads => (reads f d).symm ▸ h)
    (Device.restart_sound f h) (Device.setFrame_sound f h) (Device.home_sound f h) (Device.park_sound f h) (Device.scan_sound f h) (Device.point_sound f h)
    (Device.standardize_sound f h) (Device.stop_sound f h) (Device.setScan_sound f h)
    (by unfold Device.setTach; dsimp only; split <;> exact h)
    (by unfold Device.setStdSettings; dsimp only; repeat' split
        all_goals exact h)
    (by unfold Device.setCalref; dsimp only; repeat' split
        all_goals exact h)
    (by unfold Device.setTable; dsimp only; repeat' split
        all_goals exact h)
    (by rw [show (d.setWindow f).1.stance = d.stance by simp [Device.stance]]; exact h)
    (by unfold Device.setStation; dsimp only; repeat' split
        all_goals first | exact h | exact Device.evaluateSheet_sound (by rw [Device.defineStation_stance]; exact h))
    (by unfold Device.setBreak; dsimp only; split <;> exact h)
    (by
      rcases Device.ack_cases f d with same | ⟨s, _, acked⟩
      · rw [same]; exact h
      · rw [acked, show ((d.acknowledge s).examine).stance = d.stance by simp [Device.stance]]; exact h)
    (by unfold Device.setAlarmMode; dsimp only; repeat' split
        all_goals first | exact h | (rw [show (Device.examine (d.setAlm _)).stance = d.stance by simp [Device.stance]]; exact h)) mem

theorem Device.sound_live (o m : Prop) : LiveKeeps (fun d => d.stance.sound o m) where
  changed _ h := h
  offerState {d} h := by rw [show d.offerState.stance = d.stance by simp [Device.stance]]; exact h
  replyBegun _ h := h
  alarmBegun {d} f h := by rw [show (d.beginAlarm f).stance = d.stance by simp [Device.stance]]; exact h
  noticeTaken _ h := h
  startedBegun {d} f h := by rw [show (d.beginStarted f).stance = d.stance by simp [Device.stance]]; exact h
  reportBegun f h := by unfold Device.beginReport; dsimp only; split <;> exact h
  batchBegun _ h := h
  commandDropped _ h := h
  commandAppended _ _ h := h
  replyPushed _ _ h := h
  handled f mem h := Device.sound_handled f mem h
  linkError _ h := Device.followLink_sound h
  linkGood h := Device.followLink_sound h
  receiver _ h := h
  breakCounted _ _ h := h
  overflowPlaced {d} h := by rw [show d.placeOverflow.stance = d.stance by simp [Device.stance]]; exact h
  encoder _ _ h := Device.sampleEncoder_sound h
  homeClosed h := Device.homeClosure_sound h
  homeOpened h := Device.endBackOff_sound h
  limitClosed {d} s h := by
    have moved : (d.setLimit s true).riseOvertravel.stance.sound o m := by
      rw [Device.riseOvertravel_stance, show (d.setLimit s true).stance = d.stance by simp [Device.stance]]; exact h
    unfold Device.limitClosed; split
    · exact moved
    · exact Device.haltAtOnce_sound moved.togrounded
  limitOpened {d} s _ h := by
    have moved : (d.setLimit s false).stance.sound o m := by rw [show (d.setLimit s false).stance = d.stance by simp [Device.stance]]; exact h
    refine Device.endBackOff_sound ?_
    split
    · exact moved
    · rw [Device.fallIfActive_stance]; exact moved
  readyLost _ h := Device.driveFault_sound 1 h.togrounded
  stallEnded n _ h := by
    unfold Device.stallEnd; split
    · exact Device.driveFault_sound 3 h.togrounded
    · exact h
  restEnded h := Device.restRule_sound (d := Device.setTrv _ _) h
  periodStarted {d} _ h := by
    refine Device.afterRamp_sound ?_
    rw [show d.rampStep.startPeriod.stance = d.rampStep.stance from rfl, show d.rampStep.stance = d.stance by
      unfold Device.rampStep Device.superviseStall; dsimp only; repeat' split
      all_goals rfl]
    exact h
  feedback {d} c h := by
    rw [show (d.setPins { d.pins with closed := c }).superviseShutter.stance = d.stance by
      unfold Device.superviseShutter; split <;> [exact Device.fallIfActive_stance _ _; rfl]]
    exact h
  mismatched _ h := Device.shutterMismatch_sound h
  resumed h := Device.tryResume_sound h
  stationInput n v h := Device.stationInput_sound n v h
  qualified n _ h := Device.qualifyLoss_sound n h
  restored _ _ h := Device.evaluateSheet_sound (d := Device.setStationAt _ _ _) h
  cascadeClosed {d} _ h := by rw [Device.closeCascade_stance]; exact h
  breaksPlaced k h := by rw [Device.placeBreaks_stance]; exact h
  sampled timed h := by
    unfold Device.sampleExpired; split
    · exact h
    · exact Device.closeTimedSample_sound timed h

/-- A part at its reset values stands, nothing measured. -/
theorem Device.blank_sound (trv : ∃ t, d.trv = { Trv.reset with mismatch := t }) (acq : d.acq = .reset) (prf : d.prf = .reset)
    (std : d.std = .reset) : d.stance.sound o m := by
  obtain ⟨t, trv⟩ := trv
  exact Stance.free.stand
    ⟨⟨fun _ => by simp [Device.stance, trv, Trv.reset], by simp [Device.stance, trv, Trv.reset], by simp [Device.stance, trv, Trv.reset],
      by simp [Device.stance, acq, Acq.reset]⟩, by simp [Device.stance, prf, Prf.reset], by simp [Device.stance, std, Std.reset, StdPhase.busy]⟩
    (by simp [Device.stance, trv, Trv.reset]) (by simp [Device.stance, trv, Trv.reset, TravState.moves])

theorem Device.sound_rows (o m : Prop) : RowKeeps (fun d => d.stance.sound o m) where
  live := FieldKeeps.awake.toLiveKeeps.and (Device.sound_live o m)
  time _ h := h
  wires _ _ _ h := h
  wire _ _ _ _ _ h := h
  held _ := Device.blank_sound ⟨none, rfl⟩ rfl rfl rfl
  coldStarted d cause strap := Device.blank_sound ⟨_, d.coldStart_trv cause strap⟩
    (by unfold Device.coldStart; rw [Device.startUp_acq]; rfl) (d.coldStart_prf cause strap) (d.coldStart_std cause strap)
  highTimeEnded h := h
  counted {d} f h := by
    rw [show (d.onSample f).stance = d.stance by simp [Device.stance, Device.onSample]]; exact h
  calState _ _ _ h := h
  tach _ _ _ _ h := h
  lineFreed h := h

end

/-- Settles O55: ENABLE is right after every operation of the traverse. -/
theorem stepKeepsEnable : Obligations.StepKeepsEnable := fun _ _ h run =>
  (((Device.sound_rows False False).step run ((Device.sound_iff _).mpr ⟨h, False.elim, False.elim⟩)) |> (Device.sound_iff _).mp).1

/-- Settles O56: no operation runs toward the sheet but in a state over it, and a break or a lost link leaves such states. -/
theorem stepKeepsOffSheet : Obligations.StepKeepsOffSheet := fun _ _ enable off run =>
  (((Device.sound_rows True False).step run ((Device.sound_iff _).mpr ⟨enable, fun _ => off, False.elim⟩)) |> (Device.sound_iff _).mp).2.1 trivial

/-- Settles O57: a scan record, a collection and a sample each begin and end with their states. -/
theorem stepKeepsMeasuringInPlace : Obligations.StepKeepsMeasuringInPlace := fun _ _ enable measures run =>
  (((Device.sound_rows False True).step run ((Device.sound_iff _).mpr ⟨enable, False.elim, fun _ => measures⟩)) |> (Device.sound_iff _).mp).2.2 trivial

end Sys2Proof.Machine
end

section
/-! PROOFS. The machine, its resets, and the answers that nothing stands in the way of (O1 to O7, O9, O10, O20, O53). -/

namespace Sys2Proof.Machine

/-- Settles O1: a step reads the queue's front. -/
theorem stepRunsFront : Obligations.StepRunsFront := ⟨fun _ _ _ => rfl, fun _ => rfl⟩

/-- Settles O2: every row ends in the part that `rowDevice` names. -/
theorem everyRowCompletes : Obligations.EveryRowCompletes := fun c s => ⟨rowDevice c s.dev, exec_eq c s⟩

/-- Settles O3: the reset tables, field by field. -/
theorem resetLeaves : Obligations.ResetLeaves := by
  unfold Obligations.ResetLeaves
  refine ⟨rfl, ?_, ?_, ?_, ?_, ?_, ?_, ?_, ?_, ?_, ?_, ?_, ?_⟩ <;> decide +kernel

/-- Settles O4: the row holds the part. -/
theorem resetPinHolds : Obligations.ResetPinHolds := fun _ _ => rfl

/-! ## The part held in reset -/

/-- A row that reports a change of an input moves at most a wire of a part that is held in reset. -/
theorem Device.edge_held {d : Device} {old new : Bool} {act : Device → Device} (still : d = d.held) (acts : act d = (act d).held) :
    d.edge old new act = (d.edge old new act).held := by
  unfold Device.edge; split
  · exact still
  · exact acts

theorem rowDevice_held (c : Instr) (d : Device) (other : ∀ (dt : Nat) (strap : Bool), c ≠ .resetPinRelease dt strap) :
    rowDevice c d.held = (rowDevice c d.held).held := by
  cases c with
  | resetPinRelease dt strap => exact absurd rfl (other dt strap)
  | homeSwitchClose dt => rw [row_homeSwitchClose]; exact Device.edge_held rfl rfl
  | homeSwitchOpen dt => rw [row_homeSwitchOpen]; exact Device.edge_held rfl rfl
  | limitSwitchClose dt side => rw [row_limitSwitchClose]; cases side <;> exact Device.edge_held rfl rfl
  | limitSwitchOpen dt side => rw [row_limitSwitchOpen]; cases side <;> exact Device.edge_held rfl rfl
  | readyFall dt => rw [row_readyFall]; exact Device.edge_held rfl rfl
  | shutterFeedbackChange dt closed => rw [row_shutterFeedbackChange]; exact Device.edge_held rfl rfl
  | calRisingEdge dt => rw [row_calRisingEdge]; exact Device.edge_held rfl rfl
  | calFallingEdge dt => rw [row_calFallingEdge]; exact Device.edge_held rfl rfl
  | sheetPresentChange dt sheet => rw [row_sheetPresentChange]; exact Device.edge_held rfl rfl
  | hrdyRise dt => rw [row_hrdyRise]; exact Device.edge_held rfl rfl
  | qualifyExpiry dt n =>
    rw [row_qualifyExpiry, show ((d.held.advance dt).station n).qualifyTimer = none by simp [Device.station, Device.held, Device.blank, Brk.reset, Station.reset]]
    rfl
  | restoreExpiry dt n =>
    rw [row_restoreExpiry, show ((d.held.advance dt).station n).restoreTimer = none by simp [Device.station, Device.held, Device.blank, Brk.reset, Station.reset]]
    rfl
  | _ => rfl

/-- Settles O5: a row moves wires, clock and strap of a held part alone. -/
theorem heldPartStaysBlank : Obligations.HeldPartStaysBlank := by
  intro c s _ still other
  refine ⟨rowDevice c s.dev, exec_eq c s, ?_⟩
  rw [still]; exact rowDevice_held c s.dev other

/-! ## Power-on and RESTART -/

/-- The alarm entries that a start leaves: OVERTRAVEL latched where a limit switch is closed (R16, R171). -/
def Pins.startEntries (p : Pins) : Vector AlarmEntry 24 :=
  if p.limitTs || p.limitDs then Alm.reset.entries.set 1 ⟨.requested, true, 0, some 0, some 0, some (p.switchCode * 16777216)⟩
  else Alm.reset.entries

/-- OVERTRAVEL where the wires ask for it, on a part whose time base starts now. -/
theorem Device.overtravelAtStart {d : Device} (alm : d.alm = .reset) (fresh : d.timeBase = d.clk) (counter : d.trv.counter = 0) :
    (if d.pins.limitTs ∨ d.pins.limitDs then d.riseOvertravel else d) = d.setAlm { Alm.reset with entries := d.pins.startEntries } := by
  have closed : (d.pins.limitTs = true ∨ d.pins.limitDs = true) ↔ (d.pins.limitTs || d.pins.limitDs) = true := by simp
  unfold Pins.startEntries
  split
  · next limit =>
    have latched : (d.entry srcOvertravel).afterRise d.now (codedValue d.pins.switchCode d.trv.counter) =
        ⟨.requested, true, 0, some 0, some 0, some (d.pins.switchCode * 16777216)⟩ := by
      have now : d.now = 0 := by simp [Device.now, fresh, wrap32]
      rw [Device.entry, alm, Alm.reset_entry, now, counter]; simp [AlarmEntry.afterRise, AlarmEntry.reset, codedValue]
    rw [if_pos (closed.mp limit), Device.riseOvertravel, Device.rise, latched, Device.examine_of_hold (by rw [Device.setEntry, alm]; rfl),
      Device.setEntry, alm]
    rfl
  · next limit =>
    rw [if_neg (fun c => limit (closed.mpr c)), show ({ Alm.reset with entries := Alm.reset.entries } : Alm) = d.alm from alm.symm]; rfl

/-- What every reset ends with, on a part whose Alarm Controller and traverse are at their reset values (R195, R196). -/
theorem Device.startUp_of_reset {d : Device} (cause : Nat) (tag : Byte) (alm : d.alm = .reset) (counter : d.trv.counter = 0)
    (openCmd : d.trv.openCmd = false) : d.startUp cause tag =
      { d with
        timeBase := d.clk
        trv := { d.trv with mismatch := if d.pins.closed then none else some (d.clk + 500000) }
        alm := { Alm.reset with entries := d.pins.startEntries }
        lnk := { d.lnk with eventQ := [d.started cause tag] } } := by
  have raised := Device.overtravelAtStart (d := (d.setTimeBase d.clk).setLnk { d.lnk with eventQ := [d.started cause tag] }) alm rfl counter
  unfold Device.startUp
  extract_lets e l f g
  rw [show g = f.setAlm { Alm.reset with entries := d.pins.startEntries } from raised]
  have quiet : (f.setAlm { Alm.reset with entries := d.pins.startEntries }).cond srcShutter = false := by
    show ((if d.pins.limitTs || d.pins.limitDs then _ else Alm.reset.entries : Vector AlarmEntry 24)[srcShutter]).live = false
    split <;> simp [Alm.reset, AlarmEntry.reset, srcShutter]
  unfold Device.superviseShutter Device.fallIfActive
  have agrees : (f.setAlm { Alm.reset with entries := d.pins.startEntries }).shutterAgrees = d.pins.closed := by
    show (d.pins.closed != d.trv.openCmd) = _
    rw [openCmd]; cases d.pins.closed <;> rfl
  rw [agrees]
  cases d.pins.closed
  · rfl
  · rw [if_pos rfl, Device.setTrv_cond, quiet]; rfl

theorem Device.coldStart_eq (d : Device) (cause : Nat) (strap : Bool) : d.coldStart cause strap =
    { clk := d.clk, timeBase := d.clk, stateChanged := false, pins := { d.pins with reset := false },
      trv := { Trv.reset with mismatch := if d.pins.closed then none else some (d.clk + 500000) },
      acq := .reset, std := .reset, cnv := .reset, prf := .reset, win := Vector.replicate 8 Window.reset, brk := .reset,
      alm := { Alm.reset with entries := d.pins.startEntries },
      lnk := { Lnk.reset strap with
        eventQ := [((d.blank (.reset strap)).setPins { d.pins with reset := false }).started cause 0] } } := by
  unfold Device.coldStart
  rw [Device.startUp_of_reset cause 0 rfl rfl rfl]; rfl

/-- Nothing is configured after power-on (R196). -/
theorem Device.started_blank (d : Device) (cause : Nat) (strap : Bool) (p : Pins) : ((d.blank (.reset strap)).setPins p).started cause 0 =
    ⟨0xC0, 0, [BitVec.ofNat 8 cause, boolByte strap, 0, 0, 0, 0, 0, 0, 0]⟩ := by
  have mask : ((d.blank (.reset strap)).setPins p).configMask = 0 := by
    have stations : allEight.any (fun n => (((d.blank (.reset strap)).setPins p).station n).definition.isSome) = false := by
      simp [Device.station, Device.blank, Brk.reset, Station.reset]
    have windows : allEight.any (fun n => (((d.blank (.reset strap)).setPins p).window n).definition.isSome) = false := by
      simp [Device.window, Device.blank, Window.reset]
    unfold Device.configMask
    rw [stations, windows]; rfl
  unfold Device.started
  rw [mask, show beBytes 2 0 = [0, 0] by decide, show ((d.blank (.reset strap)).setPins p).brk.breakNumber = 0 from rfl,
    show beBytes 4 0 = [0, 0, 0, 0] by decide]
  rfl

/-- Settles O6: both starts are the cold start, which is worked out field by field. -/
theorem powerOnStarts : Obligations.PowerOnStarts := by
  intro s dt strap d started
  have start (cause : Nat) (byte : Byte) (named : BitVec.ofNat 8 cause = byte) : d.coldStart cause strap = started byte := by
    rw [Device.coldStart_eq, Device.started_blank, named]; rfl
  refine ⟨fun awake => ?_, fun asleep => ?_⟩
  · rw [exec_eq, row_powerOn, if_neg (by rw [show (s.dev.advance dt).pins.reset = false from awake]; simp), ← start 0 0 rfl]; rfl
  · rw [exec_eq, row_resetPinRelease, if_pos asleep, ← start 1 1 rfl]; rfl

/-- Every block at its RESTART values (R197), by the block it stood in. -/
theorem Device.restartBlocks_eq (d : Device) : d.restartBlocks =
    { d with
      stateChanged := false
      trv := { Trv.reset with frame := d.trv.frame, active := d.trv.active, range := d.trv.range }
      acq := { Acq.reset with ppm := d.acq.ppm }
      std := { Std.reset with settings := d.std.settings, calRbw := d.std.calRbw, calM := d.std.calM, calD0 := d.std.calD0 }
      cnv := ⟨d.cnv.bw.restarted, d.cnv.water.restarted, d.cnv.cal.restarted⟩
      prf := .reset
      win := d.win.map (fun w => { Window.reset with definition := w.definition })
      brk := { d.restartedBrk with sheet := d.restartedBrk.evaluate }
      alm := .reset
      lnk := { Lnk.reset d.lnk.baud with rx := d.lnk.rx, tx := d.lnk.tx } } := by
  unfold Device.restartBlocks; dsimp only; rw [Device.restartBreaks_eq]; rfl

theorem Device.restartedStation_definition (d : Device) (n : Fin 8) : (d.restartedStation n).definition = (d.station n).definition := by
  unfold Device.restartedStation Device.stationStarted; split
  · rfl
  · split <;> rfl

theorem Device.restartBlocks_station (d : Device) (n : Fin 8) : d.restartBlocks.station n = d.restartedStation n := by
  unfold Device.station; rw [Device.restartBlocks_eq]; simp [Device.restartedBrk]

theorem Device.restartBlocks_window (d : Device) (n : Fin 8) :
    d.restartBlocks.window n = { Window.reset with definition := (d.window n).definition } := by
  unfold Device.window; rw [Device.restartBlocks_eq]; simp

/-- RESTART keeps what is configured (R197). -/
theorem Device.restartBlocks_configMask (d : Device) : d.restartBlocks.configMask = d.configMask := by
  have stations : allEight.any (fun n => (d.restartBlocks.station n).definition.isSome) =
      allEight.any (fun n => (d.station n).definition.isSome) := by
    simp only [Device.restartBlocks_station, Device.restartedStation_definition]
  have windows : allEight.any (fun n => (d.restartBlocks.window n).definition.isSome) =
      allEight.any (fun n => (d.window n).definition.isSome) := by
    simp only [Device.restartBlocks_window]
  unfold Device.configMask
  rw [stations, windows, Device.restartBlocks_eq]; rfl

/-- A station after RESTART, field by field (R130, R151). -/
theorem Device.restartedStation_eq (d : Device) (n : Fin 8) : d.restartedStation n =
    ⟨(d.station n).definition,
     if (d.station n).state = .disabled then .disabled else if d.showsSheet n then .restoring else .noSheet, none,
     if (d.station n).state ≠ .disabled ∧ d.showsSheet n = true then
       some (d.clk + ((d.station n).definition.map StationDef.restore).getD 0 * 1000) else none, 0, 0, 0⟩ := by
  have shows : (d.pins.stations[n] != (d.station n).cleared.polarity) = d.showsSheet n := rfl
  unfold Device.restartedStation Device.stationStarted
  rw [shows]
  by_cases off : (d.station n).state = .disabled
  · simp [off, Station.cleared]
  · cases d.showsSheet n <;> simp [off, Station.cleared, Device.after]

/-- After RESTART no station holds sheet: the sheet is RUNNING where none is enabled (R136). -/
theorem Device.restartedBrk_evaluate (d : Device) :
    d.restartedBrk.evaluate = if ∀ n : Fin 8, (d.station n).state = .disabled then .running else .noSheet := by
  have holds (n : Fin 8) : (decide (d.restartedBrk.stations[n].state = .disabled) || d.restartedBrk.stations[n].state.holds) =
      decide ((d.station n).state = .disabled) := by
    rw [show d.restartedBrk.stations[n] = d.restartedStation n by simp [Device.restartedBrk], Device.restartedStation_eq]
    by_cases off : (d.station n).state = .disabled
    · simp [off]
    · cases d.showsSheet n <;> simp [off, StationState.holds]
  have all : d.restartedBrk.allHold = true ↔ ∀ n : Fin 8, (d.station n).state = .disabled := by
    unfold Brk.allHold
    simp only [holds, List.all_eq_true, decide_eq_true_eq]
    exact ⟨fun h n => h n (mem_allEight n), fun h n _ => h n⟩
  rw [Brk.evaluate_of_none rfl]
  exact if_congr all rfl rfl

theorem Device.restartBlocks_started (d : Device) (tag : Byte) : d.restartBlocks.started 2 tag =
    ⟨0xC0, tag, [2, boolByte d.lnk.baud] ++ beBytes 2 d.configMask ++ [BitVec.ofNat 8 d.restartedHistory.length] ++
      beBytes 4 d.brk.breakNumber⟩ := by
  unfold Device.started
  rw [Device.restartBlocks_configMask, Device.restartBlocks_eq]; rfl

/-- The part that RESTART leaves (R197, R198). -/
def Device.restarted (d : Device) (tag : Byte) : Device :=
  { clk := d.clk
    timeBase := d.clk
    stateChanged := false
    pins := d.pins
    trv := { Trv.reset with
      frame := d.trv.frame
      active := d.trv.active
      range := d.trv.range
      mismatch := if d.pins.closed then none else some (d.clk + 500000) }
    acq := { Acq.reset with ppm := d.acq.ppm }
    std := { Std.reset with settings := d.std.settings, calRbw := d.std.calRbw, calM := d.std.calM, calD0 := d.std.calD0 }
    cnv := ⟨d.cnv.bw.restarted, d.cnv.water.restarted, d.cnv.cal.restarted⟩
    prf := .reset
    win := d.win.map (fun w => { Window.reset with definition := w.definition })
    brk := { d.restartedBrk with sheet := d.restartedBrk.evaluate }
    alm := { Alm.reset with entries := d.pins.startEntries }
    lnk := { Lnk.reset d.lnk.baud with
      rx := d.lnk.rx
      tx := d.lnk.tx
      eventQ := [⟨0xC0, tag, [2, boolByte d.lnk.baud] ++ beBytes 2 d.configMask ++ [BitVec.ofNat 8 d.restartedHistory.length] ++
        beBytes 4 d.brk.breakNumber⟩] } }

theorem Device.restart_leaves (d : Device) (tag : Byte) : d.restartBlocks.startUp 2 tag = d.restarted tag := by
  rw [Device.startUp_of_reset (d := d.restartBlocks) 2 tag (by rw [Device.restartBlocks_eq]) (by rw [Device.restartBlocks_eq]; rfl)
    (by rw [Device.restartBlocks_eq]; rfl), Device.restartBlocks_started, Device.restartBlocks_eq]
  rfl

theorem Device.restart_of_empty {f : Frame} {d : Device} (empty : f.payload = []) : Device.restart f d = (d.restarted f.tag, none) := by
  unfold Device.restart
  rw [if_neg (fun c => c empty), Device.restart_leaves]

/-- The row of a command that is carried out at once without a reply. -/
theorem State.command_silent {s : State} {dt : Nat} {h : Handler} {kind tag : Byte} {p : List Byte} {e : Device}
    (hd : (s.dev.advance dt).clear) (answer : h ⟨kind, tag, p⟩ (s.dev.advance dt) = (e, none)) :
    s.command dt h kind tag p = s.ends e := by
  have carried : (s.dev.advance dt).carryOut h ⟨kind, tag, p⟩ = e.settle := by simp only [Device.carryOut, answer]
  simp only [State.command, State.onDevice, State.ends, State.becomes, Device.hostCommand_of_clear hd, carried,
    Device.settle_of_unchanged (Device.settle_stateChanged _)]

theorem Device.restarted_station (d : Device) (tag : Byte) (n : Fin 8) : (d.restarted tag).station n = d.restartedStation n := by
  simp [Device.station, Device.restarted, Device.restartedBrk]

/-- Settles O7: RESTART block by block, then the start. -/
theorem restartKeepsConfiguration : Obligations.RestartKeepsConfiguration := by
  intro s dt tag d clear
  have row : exec (.restart dt tag []) s = s.ends (d.restarted tag) :=
    State.command_silent clear (Device.restart_of_empty (f := ⟨0x03, tag, []⟩) rfl)
  refine ⟨d.restarted tag, row, rfl, rfl, rfl, rfl, rfl, rfl, rfl, rfl, rfl, fun n => ?_, rfl, rfl, rfl, rfl, rfl, rfl, rfl, rfl, fun n => ?_,
    d.restartedBrk_evaluate⟩
  · simp [Device.window, Device.restarted, Window.reset]
  · rw [Device.restarted_station]; exact d.restartedStation_eq n

/-! ## Reset is sound -/

/-- The part right after reset is the one that a power-on leaves. -/
theorem Device.reset_eq_coldStart : Device.reset = Device.reset.coldStart 0 false := by decide +kernel

/-- Settles O53: the reset state is a power-on's, which every invariant of the rows allows. -/
theorem resetIsSound : Obligations.ResetIsSound := by
  have start {P : Device → Prop} (K : RowKeeps P) : P Device.reset := Device.reset_eq_coldStart ▸ K.coldStarted Device.reset 0 false
  obtain ⟨enable, off, measures⟩ := (Device.sound_iff _).mp (start (Device.sound_rows True True))
  have breaks := start (Device.breaksStand_keeps True)
  have follow := Device.conditionsFollow_iff.mpr ⟨start Device.ownersLevels_keeps, breaks.raised trivial, breaks.timers trivial⟩
  exact ⟨rfl, fun _ => ⟨rfl, rfl, rfl, rfl, rfl⟩, enable, off trivial, measures trivial, start Device.queuesSound_rows,
    start Device.linkSound_rows, (Device.recordStands_iff _).mpr (start (Device.breaksStand_keeps False)),
    ⟨Nat.zero_le _, rfl, Nat.zero_le _, Nat.zero_le _⟩, nofun, follow, start Device.alarmsServed_rows⟩

/-! ## Readings and refusals -/

/-- Settles O20: the end of an event by whether a state changed and whether a notice waits. -/
theorem stateNoticeWaitsOnce : Obligations.StateNoticeWaitsOnce := by
  intro d now fresh waits
  have waiting : waits ↔ (hasState d.lnk.eventQ || hasState d.lnk.overflow) = true := by
    simp [waits, hasState, or_and_right, exists_or]
  refine ⟨Device.settle_of_unchanged, fun changed waits => ?_, fun changed free => ?_⟩
  · unfold Device.settle Device.offerState
    rw [if_pos changed, if_pos (waiting.mp waits)]
    have same (q : List Frame) : fresh q = refreshState d.statePayload q := by
      refine List.map_congr_left fun f _ => ?_
      split
      · next state => rw [← state]; rfl
      · rfl
    rw [same, same]
  · unfold Device.settle Device.offerState
    rw [if_pos changed, if_neg (fun w => free (waiting.mpr w))]; rfl

end Sys2Proof.Machine
end

section
/-! PROOFS. The answers of the command owners: what a refusal leaves, wrong lengths, unknown kinds, GET_FRAME, and the dispatch
of the command queue (R3, R178, R182 to R184). -/

namespace Sys2Proof.Machine

/-! ## Refusals -/

/-- An owner's answer is OK, ACCEPTED or none at all, or a bare code that comes with the part as it was. -/
def Device.answersCleanly (d : Device) (r : Device × Option Answer) : Prop :=
  (∃ c, r = (d, some (.only c))) ∨ r.2 = none ∨ ∃ a, r.2 = some a ∧ (a.code = .ok ∨ a.code = .accepted)

/-- An owner that always answers so. -/
def Handler.AnswersCleanly (h : Handler) : Prop := ∀ (f : Frame) (d : Device), d.answersCleanly (h f d)

/-- An owner that refuses a payload of another length than `n` (R184). -/
def Handler.WantsLength (n : Nat) (h : Handler) : Prop := ∀ f d, f.payload.length ≠ n → h f d = (d, some (.only .badLength))

section
variable {d e : Device}

theorem answersCleanly_only (c : ReplyCode) : d.answersCleanly (d, some (.only c)) := .inl ⟨c, rfl⟩

theorem answersCleanly_ok (data : List Byte) : d.answersCleanly (e, some (.ok data)) := .inr (.inr ⟨_, rfl, .inl rfl⟩)

theorem answersCleanly_flagged (a r : Bool) : d.answersCleanly (e, some (.flagged a r)) := .inr (.inr ⟨_, rfl, .inl rfl⟩)

theorem answersCleanly_accepted : d.answersCleanly (e, some (.only .accepted)) := .inr (.inr ⟨_, rfl, .inr rfl⟩)

theorem answersCleanly_ite {c : Prop} [Decidable c] {x y : Device × Option Answer} (hx : d.answersCleanly x)
    (hy : d.answersCleanly y) : d.answersCleanly (if c then x else y) := by
  split <;> assumption

/-- The shape of most owners: a first check that refuses, and the rest. -/
theorem answersCleanly_unless {c : Prop} [Decidable c] {code : ReplyCode} {y : Device × Option Answer}
    (hy : d.answersCleanly y) : d.answersCleanly (if c then (d, some (.only code)) else y) :=
  answersCleanly_ite (answersCleanly_only code) hy

theorem motionCommand_answersCleanly (f : Frame) (n : Nat) (v : Verdict) (check : Option ReplyCode) (start : Device → Device) :
    d.answersCleanly (d.motionCommand f n v check start) := by
  refine answersCleanly_unless ?_
  match v, check with
  | .refuse c, _ => exact answersCleanly_only c
  | .okNoDone, _ => exact answersCleanly_ok _
  | .taken, some c => exact answersCleanly_only c
  | .taken, none => exact answersCleanly_accepted
end

/-- Every owner in the index answers cleanly. -/
theorem handler_answersCleanly {k : Byte} {h : Handler} (mem : (k, h) ∈ handlerIndex) : h.AnswersCleanly := by
  have all : ∀ e ∈ handlerIndex, Handler.AnswersCleanly e.2 := by
    simp only [handlerIndex, List.forall_mem_cons]
    refine ⟨?getStatus, ?getLink, ?restart, ?setFrame, ?getFrame, ?home, ?park, ?scan, ?point, ?standardize, ?stop, ?setScan,
      ?getScan, ?setTach, ?getChannels, ?setStd, ?setCalref, ?getStd, ?setTable, ?getTable, ?convert, ?getProfile, ?getPoint,
      ?setWindow, ?getWindow, ?setStation, ?setBreak, ?getStations, ?getBreaks, ?ack, ?setAlarmMode, ?getAlarms, by simp⟩
    case home | park | scan | point | standardize | stop => exact fun f d => motionCommand_answersCleanly f _ _ _ _
    case getFrame | getScan | getChannels | getStd => exact fun f d => answersCleanly_ok _
    case getStatus | getLink | getStations => exact fun f d => answersCleanly_unless (answersCleanly_ok _)
    case restart => exact fun f d => answersCleanly_unless (.inr (.inl rfl))
    case setTach | setBreak => exact fun f d => answersCleanly_unless (answersCleanly_flagged _ _)
    case setFrame | setStd =>
      exact fun f d => answersCleanly_unless (answersCleanly_unless (answersCleanly_unless (answersCleanly_flagged _ _)))
    case setWindow => exact fun f d => answersCleanly_unless (answersCleanly_unless (answersCleanly_flagged _ _))
    case setCalref | getTable | convert | getPoint | getWindow | getBreaks | setAlarmMode | getAlarms =>
      exact fun f d => answersCleanly_unless (answersCleanly_unless (answersCleanly_ok _))
    case setTable =>
      exact fun f d => answersCleanly_unless (answersCleanly_unless (answersCleanly_unless (answersCleanly_ok _)))
    case setStation =>
      exact fun f d => answersCleanly_unless (answersCleanly_unless (answersCleanly_unless (answersCleanly_unless
        (answersCleanly_flagged _ _))))
    case setScan =>
      intro f d
      refine answersCleanly_unless (answersCleanly_unless ?_)
      match d.trv.frame with
      | none => exact answersCleanly_only _
      | some fr => exact answersCleanly_unless (answersCleanly_flagged _ _)
    case getProfile =>
      intro f d
      refine answersCleanly_unless ?_
      dsimp only
      split
      · exact answersCleanly_only _
      split
      · exact answersCleanly_only _
      · exact answersCleanly_ite (answersCleanly_ok _) (answersCleanly_ite (answersCleanly_ok _) (answersCleanly_only _))
    case ack =>
      intro f d
      refine answersCleanly_unless (answersCleanly_unless ?_)
      dsimp only
      split
      · exact answersCleanly_only _
      · exact answersCleanly_ok _
  exact all _ mem

theorem getTable_wantsLength : Handler.WantsLength 1 Device.getTable := fun _ _ wrong => if_pos wrong

theorem motionCommand_badLength {d : Device} {f : Frame} {n : Nat} (v : Verdict) (check : Option ReplyCode)
    (start : Device → Device) (wrong : f.payload.length ≠ n) :
    d.motionCommand f n v check start = (d, some (.only .badLength)) := if_pos wrong

/-- A payload must be empty. -/
theorem wantsLength_zero {h : Handler} (empty : ∀ f d, f.payload ≠ [] → h f d = (d, some (.only .badLength))) :
    h.WantsLength 0 := fun f d wrong => empty f d fun none => wrong (by simp [none])

/-- Settles O11: every owner's checks come before what it changes. -/
theorem refusalChangesNothing : Obligations.RefusalChangesNothing := by
  unfold Obligations.RefusalChangesNothing
  refine ⟨fun kind f d e a answer notOk notAccepted => ?_, fun f d wrong => ?_, ?_⟩
  · rcases handlerOf_cases kind with ⟨k, mem⟩ | unknown
    · rcases handler_answersCleanly mem f d with ⟨c, refused⟩ | silent | ⟨b, given, ok | accepted⟩
      · obtain ⟨rfl, same⟩ := Prod.mk.inj (answer.symm.trans refused)
        cases same
        exact ⟨rfl, rfl, rfl, fun _ => rfl⟩
      · simp [answer] at silent
      · rw [answer] at given; cases given; exact absurd ok notOk
      · rw [answer] at given; cases given; exact absurd accepted notAccepted
    · rw [unknown] at answer
      cases answer
      exact ⟨rfl, rfl, rfl, fun known => absurd rfl known⟩
  · show Device.setTable f d = _
    by_cases short : f.payload.length < 2
    · exact if_pos short
    · exact (if_neg short).trans (if_pos (wrong.resolve_left short))
  · have wants : ∀ e ∈ [((0x01 : Byte), 0), (0x02, 0), (0x03, 0), (0x18, 0), (0x19, 0), (0x1A, 0), (0x1B, 4), (0x1C, 0), (0x1D, 0),
        (0x1E, 30), (0x20, 2), (0x29, 13), (0x31, 1), (0x32, 24), (0x38, 2), (0x39, 1), (0x40, 13), (0x41, 1), (0x48, 7),
        (0x49, 4), (0x4A, 0), (0x4B, 1), (0x50, 1), (0x51, 7), (0x52, 1)], Handler.WantsLength e.2 (handlerOf e.1) := by
      simp only [List.forall_mem_cons]
      refine ⟨wantsLength_zero fun f d wrong => if_pos wrong, wantsLength_zero fun f d wrong => if_pos wrong,
        wantsLength_zero fun f d wrong => if_pos wrong, ?_⟩
      refine ⟨?_, ?_, ?_, ?_, ?_, ?_, ?_, ?_, ?_, ?_, ?_, ?_, ?_, ?_, ?_, ?_, ?_, ?stations, ?_, ?_, ?_, ?_, by simp⟩
      case stations => exact wantsLength_zero fun f d wrong => if_pos wrong
      all_goals exact fun f d wrong => if_pos wrong
    exact fun e mem f d wrong => wants e mem f d wrong

/-! ## Kinds that no owner has, and GET_FRAME -/

/-- The kinds of the two indexes are the same (10 section 10.9). -/
theorem handlerIndex_kinds : handlerIndex.map Prod.fst = commandKinds := rfl

/-- A kind that the command index does not name has no owner (R183). -/
theorem handlerOf_unknown {kind : Byte} (unknown : kind ∉ commandKinds) : handlerOf kind = Device.unknownKind := by
  have notFound : handlerIndex.find? (fun e => e.1 = kind) = none := by
    refine List.find?_eq_none.mpr fun e mem same => unknown ?_
    rw [← handlerIndex_kinds, ← of_decide_eq_true same]
    exact List.mem_map_of_mem mem
  simp only [handlerOf, notFound, Option.map_none, Option.getD_none]

/-- Settles O10. -/
theorem unknownKindRefused : Obligations.UnknownKindRefused := by
  unfold Obligations.UnknownKindRefused
  intro s dt kind tag p d formed hd
  have unknown : kind ∉ commandKinds := by
    have both : (decide (p.length ≤ 250) && !(commandKinds.contains kind)) = true := formed
    simpa using (Bool.and_eq_true_iff.mp both).2
  have row := State.command_replies (tag := tag) (p := p) (h := Device.unknownKind) (kind := kind) hd rfl
  have reply : (Answer.mk .badKind false false [kind]).frame ⟨kind, tag, p⟩ = ⟨0xFF, tag, [2, 0, kind]⟩ := by
    simp [Answer.frame, flagsByte, ReplyCode.code]
  rw [reply] at row
  exact ⟨row, by rw [handlerOf_unknown unknown]; rfl⟩

/-- Settles O9. -/
theorem frameIsReported : Obligations.FrameIsReported := by
  unfold Obligations.FrameIsReported
  intro record
  have answer : ∀ f d, Device.getFrame f d = (d, some (.ok (record d))) := by
    intro f d
    cases frame : d.trv.frame with
    | none =>
      have filler : 0 :: frameRecordBytes none = record d := by
        simp only [record, frame]; decide
      rw [← filler, Device.getFrame, frame]; rfl
    | some x => simp [Device.getFrame, frame, record, frameRecordBytes, opt16, presence, boolByte]
  exact ⟨fun f d => answer f d, fun s dt tag p hd => State.command_ok hd (answer _ _)⟩

/-! ## Dispatch -/

/-- A command row is the arrival of its frame at the owner of its kind. -/
theorem exec_of_frame {c : Instr} {kind tag : Byte} {p : List Byte} (frame : frameOf c = some (kind, tag, p)) :
    ∃ (dt : Nat) (h : Handler), ∀ s, exec c s = s.command dt h kind tag p := by
  cases c <;> cases frame <;> exact ⟨_, _, fun _ => rfl⟩

/-- With the reply queue full nothing is dispatched (R182). -/
theorem Device.dispatchLoop_of_full {d : Device} (full : 8 ≤ d.lnk.replyQ.length) (n : Nat) : d.dispatchLoop n = d := by
  cases n with
  | zero => rfl
  | succ n => exact if_neg fun ⟨_, room⟩ => by omega

/-- A command that finds the reply queue full (R177, R178, R182). -/
theorem Device.hostCommand_of_full {d : Device} (awake : d.pins.reset = false) (full : 8 ≤ d.lnk.replyQ.length) (h : Handler)
    (f : Frame) : d.hostCommand h f =
      (if d.lnk.cmdQ.length < 8 then d.setLnk (d.lnk.append f) else d.linkError .overrun).settle.arbitrate := by
  have waits : ¬(d.lnk.cmdQ = [] ∧ d.lnk.replyQ.length < 8) := by omega
  have undispatched : (d.setLnk (d.lnk.append f)).dispatchAll = d.setLnk (d.lnk.append f) :=
    Device.dispatchLoop_of_full (d := d.setLnk (d.lnk.append f)) full _
  simp only [Device.hostCommand, Device.event, Device.live, awake, waits, undispatched, Bool.false_eq_true, if_false]

/-- Settles O12. -/
theorem commandsDispatchInOrder : Obligations.CommandsDispatchInOrder := by
  unfold Obligations.CommandsDispatchInOrder
  refine ⟨fun d f rest waits room => ?_, fun c s kind tag p frame awake full => ?_⟩
  · dsimp only
    have next : d.dispatchAll = d.dispatchOne.dispatchLoop rest.length := by
      rw [Device.dispatchAll, waits]
      exact if_pos ⟨by simp [waits], room⟩
    rw [next, Device.dispatchOne_of_cons waits]
    rfl
  · obtain ⟨dt, h, row⟩ := exec_of_frame frame
    have arrives := Device.hostCommand_of_full (d := s.dev.advance dt) awake full h ⟨kind, tag, p⟩
    refine ⟨dt, fun room => (row s).trans ?_, fun noRoom => (row s).trans ?_⟩
    · rw [if_pos room] at arrives
      exact congrArg (fun e => s.becomes e) arrives
    · rw [if_neg (by omega)] at arrives
      exact congrArg (fun e => s.becomes e) arrives

end Sys2Proof.Machine
end

section
/-! PROOFS. The host link's line: the receiver, the events of the line, the transmit arbiter, the notices (R172 to R179, R186 to
R191). -/

namespace Sys2Proof.Machine

/-! ## How a row ends -/

/-- The row of an event while the part is not held in reset. -/
theorem exec_ends {c : Instr} {s : State} {d e : Device} {act : Device → Device} (row : rowDevice c s.dev = d.event act)
    (awake : d.pins.reset = false) (acts : act d = e) : exec c s = s.ends e := by
  have live : d.event act = (act d).settle.arbitrate := if_neg (by simp [awake])
  rw [exec_eq, row, live, acts]; rfl

/-- The row of an event that nothing settles after. -/
theorem exec_becomes {c : Instr} {s : State} {e : Device} (row : rowDevice c s.dev = e) : exec c s = s.becomes e := by
  rw [exec_eq, row]; rfl

/-- An expiry brings the clock to the deadline (log 2). -/
theorem exec_expires {c : Instr} {s : State} {d e : Device} {x : Timer} {t : Nat} {act : Device → Device}
    (row : rowDevice c s.dev = d.expiry x (fun d => d.event act)) (runs : x = some t) (awake : d.pins.reset = false)
    (acts : act (d.setClk (max d.clk t)) = e) : exec c s = s.ends e :=
  exec_ends (d := d.setClk (max d.clk t)) (row.trans (by rw [runs]; rfl)) awake acts

/-! ## The receiver -/

theorem Rx.run_cons (gap : Timer) (r : Rx) (b : Byte) (bs : List Byte) :
    Rx.run gap r (b :: bs) = ((Rx.run gap (r.take gap b).1 bs).1, (r.take gap b).2 :: (Rx.run gap (r.take gap b).1 bs).2) := rfl

theorem Rx.run_append (gap : Timer) (r : Rx) (bs cs : List Byte) : Rx.run gap r (bs ++ cs) =
    ((Rx.run gap (Rx.run gap r bs).1 cs).1, (Rx.run gap r bs).2 ++ (Rx.run gap (Rx.run gap r bs).1 cs).2) := by
  induction bs generalizing r with
  | nil => rfl
  | cons b bs ih => simp [Rx.run, ih]

/-- A payload byte that is not the last. -/
theorem Rx.take_payload_more {r : Rx} {gap : Timer} {b : Byte} (phase : r.state = .payload)
    (more : r.payload.length + 1 < r.length.toNat) :
    r.take gap b = ({ r with payload := r.payload ++ [b], gap := gap }, .nothing) := by
  have notAll : ¬r.length.toNat ≤ (r.payload ++ [b]).length := by simpa using more
  simp only [Rx.take, phase, notAll, if_false]

/-- The last payload byte. -/
theorem Rx.take_payload_last {r : Rx} {gap : Timer} {b : Byte} (phase : r.state = .payload)
    (last : r.length.toNat ≤ r.payload.length + 1) :
    r.take gap b = ({ r with state := .checkHigh, payload := r.payload ++ [b], gap := gap }, .nothing) := by
  have all : r.length.toNat ≤ (r.payload ++ [b]).length := by simpa using last
  simp only [Rx.take, phase, all, if_true]

/-- The receiver takes the rest of a payload, and no more. -/
theorem Rx.run_payload {gap : Timer} {r : Rx} {rest : List Byte} (ne : rest ≠ []) (phase : r.state = .payload)
    (len : r.length.toNat = r.payload.length + rest.length) :
    Rx.run gap r rest =
      ({ r with state := .checkHigh, payload := r.payload ++ rest, gap := gap }, List.replicate rest.length .nothing) := by
  induction rest generalizing r with
  | nil => exact absurd rfl ne
  | cons b rest ih =>
    rw [List.length_cons] at len
    rw [Rx.run_cons]
    cases rest with
    | nil => rw [Rx.take_payload_last phase (by simp [len])]; rfl
    | cons c rest =>
      have onward := ih (r := { r with payload := r.payload ++ [b], gap := gap }) (by simp) phase (by simp [len]; omega)
      rw [Rx.take_payload_more phase (by rw [len, List.length_cons]; omega), onward]
      simp [List.replicate_succ]

/-- Sync, the length, the kind and the tag bring a receiver in HUNT to the payload, or past an empty one (R174). -/
theorem Rx.run_head (gap : Timer) {r : Rx} {f : Frame} (short : f.payload.length ≤ 250) (hunts : r.state = .hunt) :
    Rx.run gap r [0xA5, BitVec.ofNat 8 f.payload.length, f.kind, f.tag] =
      (⟨if f.payload = [] then .checkHigh else .payload, BitVec.ofNat 8 f.payload.length, f.kind, f.tag, [], 0, gap⟩,
        List.replicate 4 .nothing) := by
  have len : (BitVec.ofNat 8 f.payload.length).toNat = f.payload.length := by
    rw [BitVec.toNat_ofNat]; exact Nat.mod_eq_of_lt (by omega)
  have empty : BitVec.ofNat 8 f.payload.length = 0 ↔ f.payload = [] := by
    rw [BitVec.toNat_eq, len, ← List.length_eq_zero_iff]; rfl
  have fits : ¬250 < (BitVec.ofNat 8 f.payload.length).toNat := by omega
  simp only [Rx.run, Rx.take, hunts, fits, Rx.reset, empty, if_true, if_false]
  rfl

/-- The bytes that the check covers bring the receiver to the check (R174, R177). -/
theorem Rx.run_body (gap : Timer) {r : Rx} {f : Frame} (short : f.payload.length ≤ 250) (hunts : r.state = .hunt) :
    Rx.run gap r (0xA5 :: f.body) =
      (⟨.checkHigh, BitVec.ofNat 8 f.payload.length, f.kind, f.tag, f.payload, 0, gap⟩,
        List.replicate (f.payload.length + 4) .nothing) := by
  rw [show 0xA5 :: f.body = [0xA5, BitVec.ofNat 8 f.payload.length, f.kind, f.tag] ++ f.payload from rfl, Rx.run_append,
    Rx.run_head gap short hunts]
  by_cases empty : f.payload = []
  · simp [empty, Rx.run]
  · have len : (BitVec.ofNat 8 f.payload.length).toNat = f.payload.length := by
      rw [BitVec.toNat_ofNat]; exact Nat.mod_eq_of_lt (by omega)
    rw [if_neg empty, Rx.run_payload empty rfl (by simp [len])]
    exact Prod.ext rfl (List.replicate_append_replicate.trans (by rw [Nat.add_comm]))

/-- The two bytes of a check, and the check they make (10 section 10.1). -/
theorem check_bytes (v : BitVec 16) : ∃ hi lo : Byte, beBytes 2 v.toNat = [hi, lo] ∧ hi ++ lo = v := by
  refine ⟨BitVec.ofNat 8 (v.toNat / 256), BitVec.ofNat 8 v.toNat, by simp [beBytes], BitVec.eq_of_toNat_eq ?_⟩
  have small := v.isLt
  rw [BitVec.toNat_append, BitVec.toNat_ofNat, BitVec.toNat_ofNat, Nat.shiftLeft_eq, ← Nat.shiftLeft_eq,
    ← Nat.shiftLeft_add_eq_or_of_lt (Nat.mod_lt _ (by decide)), Nat.shiftLeft_eq]
  omega

/-- Settles O13: the body by induction on the payload, then the check. -/
theorem receiverAssembles : Obligations.ReceiverAssembles := by
  unfold Obligations.ReceiverAssembles
  refine ⟨by decide +kernel, fun f gap r short hunts => ?_⟩
  obtain ⟨hi, lo, bytes, whole⟩ := check_bytes (crc f.body)
  rw [Frame.wire, bytes, Rx.run_append, Rx.run_body gap short hunts]
  have last : hi ++ lo = crc (Rx.body ⟨.checkLow, BitVec.ofNat 8 f.payload.length, f.kind, f.tag, f.payload, hi, gap⟩) := whole
  simp only [Rx.run, Rx.take, last, if_true, Rx.frame]
  rw [show f.payload.length + 5 = f.payload.length + 4 + 1 from rfl, List.replicate_succ' (n := f.payload.length + 4)]
  simp


/-- What a character with a valid stop bit does (R174, R177). -/
theorem Device.rxByte_valid {d : Device} {b : Byte} {r : Rx} {e : RxEvent}
    (taken : d.lnk.rx.take (some (d.clk + 2000)) b = (r, e)) :
    d.rxByte b true = (d.setLnk { d.lnk with rx := r }).received e := by
  have now : d.lnk.rx.take (d.after 2) b = (r, e) := taken
  simp only [Device.rxByte, if_true, now]

/-- What a character with a low stop bit does (R176). -/
theorem Device.rxByte_broken {d : Device} {b : Byte} {r : Rx} {e : RxEvent} (taken : d.lnk.rx.takeBroken = (r, e)) :
    d.rxByte b false = (d.setLnk { d.lnk with rx := r }).received e := by
  simp only [Device.rxByte, Bool.false_eq_true, if_false, taken]

/-- An error abandons the frame, adds 8 to the quality counter and one to its own count (R179). -/
theorem Device.received_failed (d : Device) (e : RxError) :
    (d.setLnk { d.lnk with rx := .reset }).received (.failed e) =
      (d.setLnk { d.lnk with rx := .reset, quality := min 255 (d.lnk.quality + 8), counts := d.lnk.counts.bump e }).followLink :=
  rfl

/-- Settles O14: the receiver's step by its state. -/
theorem receiverErrors : Obligations.ReceiverErrors := by
  unfold Obligations.ReceiverErrors
  intro s dt b stop d worse x goesOn awake
  have valid : ∀ {r e}, x.take (some (d.clk + 2000)) b = (r, e) → exec (.rxByte dt b true) s =
      s.ends ((d.setLnk { d.lnk with rx := r }).received e) := fun taken =>
    exec_ends (row_rxByte ..) awake (Device.rxByte_valid taken)
  have broken : ∀ {r e}, x.takeBroken = (r, e) → exec (.rxByte dt b false) s =
      s.ends ((d.setLnk { d.lnk with rx := r }).received e) := fun taken =>
    exec_ends (row_rxByte ..) awake (Device.rxByte_broken taken)
  have on : ∀ r : Rx, x.take (some (d.clk + 2000)) b = ({ r with gap := some (d.clk + 2000) }, .nothing) → goesOn r :=
    fun r taken => valid taken
  refine ⟨fun phase fits => on _ ?_, fun phase => on _ ?_, fun phase => on _ ?_,
    fun phase more => on _ (Rx.take_payload_more phase more), fun phase last => on _ (Rx.take_payload_last phase last),
    fun phase => on _ ?_, ?hunt, ?sync, ?tooLong, ?framing, ?lineLow⟩
  · simp only [Rx.take, phase, not_lt.mpr fits, if_false]
  · simp only [Rx.take, phase]
  · simp only [Rx.take, phase]
  · simp only [Rx.take, phase]
  case hunt =>
    intro ⟨phase, other⟩
    cases stop with
    | false => exact broken (r := x) (e := .nothing) (by simp only [Rx.takeBroken, show x.state = .hunt from phase])
    | true =>
      refine valid (r := x) (e := .nothing) ?_
      simp only [Rx.take, show x.state = .hunt from phase, other.resolve_left (by simp), if_false]
  case sync =>
    intro ⟨phase, stops, sync⟩
    subst stops
    refine valid (r := { Rx.reset with state := .length, gap := some (d.clk + 2000) }) (e := .nothing) ?_
    simp only [Rx.take, show x.state = .hunt from phase, sync, if_true]
  case tooLong =>
    intro ⟨phase, stops, long⟩
    subst stops
    refine (valid (r := .reset) (e := .failed .length) ?_).trans (congrArg s.ends (d.received_failed .length))
    simp only [Rx.take, show x.state = .length from phase, long, if_true]
  case framing =>
    intro ⟨notHunt, notLow, stops⟩
    subst stops
    refine (broken (r := .reset) (e := .failed .framing) ?_).trans (congrArg s.ends (d.received_failed .framing))
    cases phase : x.state with
    | hunt => exact absurd phase notHunt
    | lineLow => exact absurd phase notLow
    | length | kind | tag | payload | checkHigh | checkLow => simp only [Rx.takeBroken, phase]
  case lineLow =>
    intro phase
    cases stop with
    | false => exact broken (r := x) (e := .nothing) (by simp only [Rx.takeBroken, show x.state = .lineLow from phase])
    | true => exact valid (r := x) (e := .nothing) (by simp only [Rx.take, show x.state = .lineLow from phase])

/-- Settles O15. -/
theorem frameCompletes : Obligations.FrameCompletes := by
  unfold Obligations.FrameCompletes
  intro s dt b d r c good awake phase
  have taken : r.take (some (d.clk + 2000)) b = (.reset, if good then .complete r.frame else .failed .crc) := by
    simp only [Rx.take, phase]; rfl
  have row := exec_ends (row_rxByte ..) awake (Device.rxByte_valid taken)
  refine ⟨fun bad => ?_, fun ⟨ok, room⟩ => ?_, fun ⟨ok, noRoom⟩ => ?_⟩
  · rw [if_neg bad] at row; exact row
  · rw [if_pos ok] at row; exact row.trans (congrArg s.ends (if_pos room))
  · rw [if_pos ok] at row; exact row.trans (congrArg s.ends (if_neg (Nat.not_lt.mpr noRoom)))

/-! ## The other events of the line -/

/-- Settles O16. -/
theorem lineEventsAct : Obligations.LineEventsAct := by
  unfold Obligations.LineEventsAct
  intro s dt t d awake
  refine ⟨fun runs => exec_expires (row_gapTimeout ..) runs awake rfl, fun high => exec_becomes ?_, fun low => exec_becomes ?_,
    fun sends => ?_, fun low => ?_, rfl⟩
  · exact (row_lineBreak ..).trans ((if_neg (Bool.eq_false_iff.mp awake)).trans (if_neg high))
  · exact (row_lineBreakEnd ..).trans ((if_neg (Bool.eq_false_iff.mp awake)).trans (if_pos low))
  · obtain ⟨f, sending⟩ := Option.ne_none_iff_exists'.mp sends
    exact exec_ends (d := d.setLnk { d.lnk with tx := none }) (row_txFrameEnd_some _ _ sending) awake rfl
  · refine exec_ends (d := d.setPins { d.pins with hrdy := true }) ((row_hrdyRise ..).trans (if_neg ?_)) awake rfl
    exact Bool.eq_false_iff.mp low

/-! ## The transmit arbiter -/

/-- With the line free and the host ready the arbiter chooses (R189). -/
theorem Device.arbitrate_of_ready {d : Device} (free : d.lnk.tx = none) (ready : d.pins.hrdy = true) : d.arbitrate =
    if d.lnk.startedHold then
      match d.lnk.eventQ with
      | f :: _ => if f.kind = startedKind then d.beginStarted f else d
      | [] => d
    else d.beginNext := if_pos (by simp [Device.lineReady, free, ready])

/-- The report's next frame is begun: the header takes the skip count (R190, R107). -/
theorem Device.beginReport_header {d : Device} {f : Frame} (header : f.kind = profileKind) : d.beginReport f =
    (d.setPrf { d.prf with report := ⟨d.prf.report.frames, d.prf.report.next + 1⟩, skip := 0 }).setLnk { d.lnk with
      tx := some { f with payload := f.payload.take 42 ++ beBytes 2 d.prf.skip ++ f.payload.drop 44 } } := by
  have two : (beBytes 2 d.prf.skip).length = 2 := beBytes_length ..
  simp only [Device.beginReport, header, if_true, patch, two]
  rfl

/-- The batch is begun: it takes the skipped-batch count (R190, R112). -/
theorem Device.beginBatch_eq (d : Device) (f : Frame) : d.beginBatch f =
    (d.setPrf { d.prf with batch := none, skippedBatches := 0 }).setLnk { d.lnk with
      tx := some { f with payload := f.payload.take 10 ++ beBytes 2 d.prf.skippedBatches ++ f.payload.drop 12 } } := by
  have two : (beBytes 2 d.prf.skippedBatches).length = 2 := beBytes_length ..
  simp only [Device.beginBatch, patch, two]
  rfl

/-- An event notice is begun: a STATE notice takes the states as they stand (R188, R190). -/
theorem Device.beginNotice_eq (d : Device) (f : Frame) : d.beginNotice f =
    d.setLnk { d.lnk with eventQ := d.lnk.eventQ.tail, tx := some (if f.kind = stateKind then { f with
      payload := [d.trv.state.code, boolByte d.trv.homed, d.brk.sheet.code, d.lnk.link.code] ++ f.payload.drop 4 } else f) } := rfl

/-- Settles O18: the arbiter's order by what waits. -/
theorem arbiterOrder : Obligations.ArbiterOrder := by
  unfold Obligations.ArbiterOrder
  intro d f rest l p
  refine ⟨fun busy => if_neg ?_, fun free ready => ?_⟩
  · rcases busy with sends | notReady
    · simpa [Device.lineReady] using fun none => absurd none sends
    · simp [Device.lineReady, notReady]
  have act := Device.arbitrate_of_ready free ready
  refine ⟨fun hold queue started => ?_, fun hold other => ?_, fun released queue => ?_, fun released replies queue => ?_,
    fun released replies alarms queue => ?_, fun released replies alarms events => ?_⟩
  · rw [act, if_pos hold, show d.lnk.eventQ = f :: rest from queue]
    refine (if_pos started).trans ?_
    rw [Device.beginStarted, Device.takeNotice, show d.lnk.eventQ = f :: rest from queue]; rfl
  · rw [act, if_pos hold]
    cases queue : d.lnk.eventQ with
    | nil => rfl
    | cons g gs => exact if_neg (other g (by simp [l, queue]))
  · have next : d.arbitrate = d.beginReply f := by
      rw [act, if_neg (by simpa using released), Device.beginNext, show d.lnk.replyQ = f :: rest from queue]
    rw [next, Device.beginReply, show d.lnk.replyQ = f :: rest from queue]; rfl
  · have next : d.arbitrate = d.beginAlarm f := by
      rw [act, if_neg (by simpa using released), Device.beginNext, show d.lnk.replyQ = [] from replies,
        show d.lnk.alarmQ = f :: rest from queue]
    rw [next, Device.beginAlarm, show d.lnk.alarmQ = f :: rest from queue]; rfl
  · have next : d.arbitrate = d.beginNotice f := by
      rw [act, if_neg (by simpa using released), Device.beginNext, show d.lnk.replyQ = [] from replies,
        show d.lnk.alarmQ = [] from alarms, show d.lnk.eventQ = f :: rest from queue]
    rw [next, Device.beginNotice_eq, show d.lnk.eventQ = f :: rest from queue]; rfl
  · have next : d.arbitrate = if d.lnk.link = .good then
        match d.prf.report.unbegun, d.prf.batch with
        | f :: _, _ => d.beginReport f
        | [], some f => d.beginBatch f
        | [], none => d
      else d := by
      rw [act, if_neg (by simpa using released), Device.beginNext, show d.lnk.replyQ = [] from replies,
        show d.lnk.alarmQ = [] from alarms, show d.lnk.eventQ = [] from events] <;> rfl
    refine ⟨fun bad => next.trans (if_neg bad), fun good report header => ?_, fun good report segment => ?_,
      fun good report batch => ?_, fun report batch => ?_⟩
    · rw [next, if_pos good, show d.prf.report.unbegun = f :: rest from report]
      exact Device.beginReport_header header
    · rw [next, if_pos good, show d.prf.report.unbegun = f :: rest from report]
      exact if_neg segment
    · rw [next, if_pos good, show d.prf.report.unbegun = [] from report, show d.prf.batch = some f from batch]
      exact Device.beginBatch_eq d f
    · rw [next, show d.prf.report.unbegun = [] from report, show d.prf.batch = none from batch]
      exact ite_self d

/-! ## The notices -/

/-- An operation that ends offers its DONE (R19, R185). -/
theorem Device.endOp_of_some {d : Device} {o : OpRecord} (op : d.trv.op = some o) (r : OpResult) (std : Option OpResult) :
    d.endOp r std = (d.setTrv { d.trv with op := none }).offer (o.done r.code d.trv.state.code
      ((std.map OpResult.code).getD 255)) := by
  have bit : flagsByte o.adjusted false = if o.adjusted then 1 else 0 := by cases o.adjusted <;> decide
  have result : ((if o.kind = .standardize then some r else std).map OpResult.code).getD 255 =
      if o.kind = .standardize then r.code else (std.map OpResult.code).getD 255 := by split <;> rfl
  simp only [Device.endOp, op, Device.offerDone, bit, result]
  rfl

/-- Settles O19. -/
theorem noticesKeepOrder : Obligations.NoticesKeepOrder := by
  unfold Obligations.NoticesKeepOrder
  have few : ∀ d : Device, d.lnk.eventRoom = true ↔ d.lnk.eventQ.length < 8 := fun d => by simp [Lnk.eventRoom]
  refine ⟨fun d o r std op => ?_, fun d f => ?_, fun s dt f rest => ?_⟩
  · rw [Device.endOp_of_some op]; rfl
  · have noPlace : 8 ≤ d.lnk.eventQ.length ∨ d.lnk.overflow ≠ [] → ¬(d.lnk.eventRoom ∧ d.lnk.overflow = []) := by
      rw [few, not_and_or, not_lt]; exact id
    refine ⟨fun room empty => Device.offer_placed ⟨(few d).mpr room, empty⟩,
      fun full => ⟨fun done many => ?_, fun other => ?_⟩⟩
    · rw [Device.offer_lost (noPlace full) ⟨done, many⟩, sat16, Nat.min_comm]
    refine Device.offer_kept (noPlace full) ?_
    rw [not_and_or, not_le]; exact other
  · intro d awake waits
    refine ⟨fun room => exec_ends (row_overflowPlacement ..) awake ?_, fun full => exec_ends (row_overflowPlacement ..) awake ?_⟩
    all_goals rw [Device.placeOverflow, waits]
    · exact if_pos ((few d).mpr room)
    · exact if_neg fun room => absurd ((few d).mp room) (not_lt.mpr full)

end Sys2Proof.Machine
end

section
/-! PROOFS. The commands that store a record: the frame, the scan settings, the settings of the blocks, the tables (R1, R2, R22,
R35 to R37, R56, R60, R61, R77, R115, R131). -/

namespace Sys2Proof.Machine

section
variable {s : State} {dt : Nat} {tag : Byte} {p : List Byte} {h : Handler} {kind : Byte} (hd : (s.dev.advance dt).clear)
include hd

/-- The row of a command whose owner answers OK with flags. -/
theorem State.command_flagged {e : Device} {a r : Bool} {flags : Byte} (byte : flagsByte a r = flags)
    (answer : h ⟨kind, tag, p⟩ (s.dev.advance dt) = (e, some (.flagged a r))) :
    s.command dt h kind tag p = s.replies e (kind + 0x80) tag [0, flags] := by
  have reply : (Answer.flagged a r).frame ⟨kind, tag, p⟩ = ⟨kind + 0x80, tag, [0, flags]⟩ := by
    simp [Answer.frame, Answer.flagged, ReplyCode.code, byte]
  rw [State.command_replies hd answer, reply]; rfl
end

@[simp] theorem flagsByte_adjusted (a : Bool) : flagsByte a false = if a then 1 else 0 := by cases a <;> decide

/-! ## SET_FRAME -/

/-- An entry to a state with the shutter shut, by a traverse whose shutter is shut. -/
theorem Device.goTo_shut {d : Device} {st : TravState} (shut : d.trv.openCmd = false) (shuts : st.opens = false) : d.goTo st =
    (d.setTrv { d.trv with state := st, resume := if st = .halted ∨ st = .approach then none else d.trv.resume }).stopSampling.setChanged
      true := by
  rw [Device.goTo, shuts]; exact if_pos shut

theorem FrameRecord.refused_iff (f : FrameRecord) : f.refused = true ↔ 262143 < f.softLow ∨ 262143 < f.softHigh ∨
    262143 < f.homeOffset ∨ 262143 < f.park ∨ f.softHigh < f.softLow + 4000 ∨ f.park < f.softLow ∨ f.softHigh < f.park := by
  simp only [FrameRecord.refused, Bool.or_eq_true, decide_eq_true_iff, or_assoc]

theorem Device.frameBusy_iff (d : Device) : d.frameBusy = false ↔
    d.trv.state = .unhomed ∨ d.trv.state = .parked ∨ d.trv.state = .halted ∧ d.trv.enable = false := by
  unfold Device.frameBusy
  cases d.trv.state <;> simp

theorem Option.any_decide {α : Type} {p : α → Prop} [DecidablePred p] (x : Option α) :
    x.any (fun a => decide (p a)) = true ↔ ∃ a ∈ x, p a := by
  cases x <;> simp

/-- Settles O21. -/
theorem setFrameActs : Obligations.SetFrameActs := by
  unfold Obligations.SetFrameActs
  intro s dt tag p d x clamped may bad moved away hd follows
  have free : may → d.frameBusy = false := (Device.frameBusy_iff d).mpr
  have shut : may → d.trv.openCmd = false := by
    intro at'
    rw [show d.trv.openCmd = d.trv.state.opens from follows]
    rcases at' with at' | at' | ⟨at', _⟩ <;> rw [at'] <;> rfl
  have answer : may → p.length = 24 → ¬bad → Device.setFrame ⟨0x10, tag, p⟩ d = (d.replaceFrame x,
      some (.flagged (decide (x.homeTolerance ≠ field p 12 2 ∨ x.homingSpeed ≠ field p 18 2 ∨ x.travelSpeed ≠ field p 20 2 ∨
        x.accel ≠ field p 22 2)) false)) := fun may len good => by
    rw [Device.setFrame]
    refine (if_neg (Bool.eq_false_iff.mp (free may))).trans ((if_neg (not_not.mpr len)).trans (if_neg ?_))
    exact fun refused => good ((FrameRecord.refused_iff _).mp refused)
  have flags : flagsByte (decide (x.homeTolerance ≠ field p 12 2 ∨ x.homingSpeed ≠ field p 18 2 ∨ x.travelSpeed ≠ field p 20 2 ∨
      x.accel ≠ field p 22 2)) false = clamped := by
    rw [flagsByte_adjusted]
    simp only [clamped, decide_eq_true_eq, ← not_and_or, ne_eq, ite_not]
  have row : may → p.length = 24 → ¬bad → exec (.setFrame dt tag p) s = s.replies (d.replaceFrame x) 0x90 tag [0, clamped] :=
    fun may len good => State.command_flagged hd flags (answer may len good)
  have movedIf : (d.trv.homed = true ∧ d.trv.frame.any (fun o => decide (o.homeOffset ≠ x.homeOffset)) = true) ↔ moved :=
    and_congr_right fun _ => Option.any_decide _
  have awayIf : (d.trv.state = .parked ∧ d.trv.frame.any (fun o => decide (o.park ≠ x.park)) = true) ↔ away :=
    and_congr_right fun _ => Option.any_decide _
  refine ⟨fun busy => ?_, fun may len => ?_, fun may len bad => ?_, fun may len good moved => (row may len good).trans ?_,
    fun may len good stays away => (row may len good).trans ?_, fun may len good stays rests => (row may len good).trans ?_⟩
  · exact State.command_refused hd (h := Device.setFrame) (c := .busy) (by decide)
      (if_pos (by simpa using mt (Device.frameBusy_iff d).mp busy))
  · exact State.command_refused hd (h := Device.setFrame) (c := .badLength) (by decide)
      ((if_neg (Bool.eq_false_iff.mp (free may))).trans (if_pos len))
  · exact State.command_refused hd (h := Device.setFrame) (c := .badValue) (by decide)
      ((if_neg (Bool.eq_false_iff.mp (free may))).trans ((if_neg (not_not.mpr len)).trans
        (if_pos ((FrameRecord.refused_iff _).mpr bad))))
  · refine congrArg (fun e => s.replies e 0x90 tag [0, clamped]) ((if_pos (movedIf.mpr moved)).trans ?_)
    exact Device.goTo_shut (shut may) rfl
  · refine congrArg (fun e => s.replies e 0x90 tag [0, clamped]) ((if_neg (mt movedIf.mp stays)).trans
      ((if_pos (awayIf.mpr away)).trans ?_))
    exact Device.goTo_shut (shut may) rfl
  · exact congrArg (fun e => s.replies e 0x90 tag [0, clamped]) ((if_neg (mt movedIf.mp stays)).trans
      (if_neg (mt awayIf.mp rests)))

/-! ## SET_SCAN -/

/-- The link once a DONE or STATE notice has been offered (R186, R187). -/
def Lnk.offered (l : Lnk) (f : Frame) : Lnk :=
  if l.eventRoom ∧ l.overflow = [] then { l with eventQ := l.eventQ ++ [f] }
  else if f.kind = doneKind ∧ 8 ≤ (l.overflow.filter (fun g => g.kind = doneKind)).length then
    { l with counts := { l.counts with lostDone := sat16 (l.counts.lostDone + 1) } }
  else { l with overflow := l.overflow ++ [f] }

/-- An offer reads and writes the link alone. -/
theorem Device.offer_eq (d : Device) (f : Frame) : d.offer f = d.setLnk (d.lnk.offered f) := by
  unfold Device.offer Lnk.offered
  split
  · rfl
  split <;> rfl

theorem Device.offer_setTrv (d : Device) (t : Trv) (f : Frame) : (d.setTrv t).offer f = (d.offer f).setTrv t := by
  rw [Device.offer_eq, Device.offer_eq]; rfl

theorem Device.displacePending_of_none {d : Device} (none : d.trv.pending = none) : d.displacePending = d := by
  simp only [Device.displacePending, none]

/-- A displaced record's DONE carries REPLACED (R36). -/
theorem Device.displacePending_of_some {d : Device} {q : Byte × ScanSettings} (waits : d.trv.pending = some q) :
    d.displacePending = (d.offer ⟨0xC1, q.1, [0x1E, 9, 0, d.trv.state.code, 255]⟩).setTrv { d.trv with pending := none } := by
  simp only [Device.displacePending, waits]
  exact Device.offer_setTrv d _ _

/-- The link once the pending record is displaced. -/
def Device.displacedLink (d : Device) : Lnk :=
  match d.trv.pending with
  | none => d.lnk
  | some q => d.lnk.offered ⟨0xC1, q.1, [0x1E, 9, 0, d.trv.state.code, 255]⟩

theorem Device.displacePending_eq (d : Device) :
    d.displacePending = (d.setLnk d.displacedLink).setTrv { d.trv with pending := none } := by
  cases waits : d.trv.pending with
  | none =>
    have same : { d.trv with pending := none } = d.trv := by rw [← waits]
    rw [Device.displacePending_of_none waits, Device.displacedLink, waits, same]; rfl
  | some q => rw [Device.displacePending_of_some waits, Device.offer_eq, Device.displacedLink, waits]

/-- The settings cut the sheet as those last used did (R22, R36). -/
def Device.cutsAs (d : Device) (x : ScanSettings) (q : EffRange) : Bool :=
  match d.trv.active, d.trv.range with
  | some k, some r => k.sameCuts x && r.sameEnds q
  | _, _ => false

theorem Device.cutsAs_iff (d : Device) (x : ScanSettings) (q : EffRange) : d.cutsAs x q = true ↔
    ∃ k r, d.trv.active = some k ∧ d.trv.range = some r ∧ k.sameCuts x = true ∧ r.sameEnds q = true := by
  unfold Device.cutsAs
  cases d.trv.active <;> cases d.trv.range <;> simp

/-- Applying settings while a frame record is in force (R22, R36, R104). -/
theorem Device.applySettings_eq {d : Device} {f : FrameRecord} (frame : d.trv.frame = some f) (x : ScanSettings) :
    let e := d.setTrv
      { d.trv with active := some x, range := some (effectiveRange f x), planCount := min d.trv.planCount x.base }
    d.applySettings x = if d.cutsAs x (effectiveRange f x) then e else e.startEpoch := by
  simp only [Device.applySettings, frame, Option.map_some, Device.cutsAs]
  cases d.trv.active <;> cases d.trv.range <;> rfl

/-- The bits of SET_SCAN's options byte, when no other is set (R35). -/
theorem scanSettingsOf_eq {p : List Byte} (options : field p 26 1 ≤ 3) : scanSettingsOf p =
    { scanSettingsOf p with autoResume := decide (2 ≤ field p 26 1) } := by
  have bit : (field p 26 1 / 2 % 2 = 1) = (2 ≤ field p 26 1) := by
    generalize field p 26 1 = n at options
    interval_cases n <;> decide
  simp only [scanSettingsOf, bit]

theorem Device.settled_iff (st : TravState) : st.settled = true ↔ st = .unhomed ∨ st = .parked ∨ st = .halted := by
  cases st <;> simp [TravState.settled]

theorem flagsByte_eq (a r : Bool) : flagsByte a r = (if a then 1 else 0) + (if r then 2 else 0) := by
  cases a <;> cases r <;> decide

/-- Settles O36. -/
theorem scanSettingsAreTaken : Obligations.ScanSettingsAreTaken := by
  unfold Obligations.ScanSettingsAreTaken
  intro s dt tag p f d x t low high settled bad adjusted flags hd
  have settles : d.trv.state.settled = true ↔ settled := Device.settled_iff _
  have range : effectiveRange f x = ⟨low, high, t⟩ := rfl
  have refused : (scanRefused p f || !((effectiveRange f (scanSettingsOf p)).usable (scanSettingsOf p).pitch)) = true ↔ bad := by
    simp only [scanRefused, EffRange.usable, Bool.or_eq_true, decide_eq_true_iff, Bool.not_eq_true', decide_eq_false_iff_not, not_le,
      or_assoc, bad]
    rfl
  have read : ¬bad → scanSettingsOf p = x := fun good => scanSettingsOf_eq (by simp only [bad] at good; omega)
  have adjusts : flagsByte (scanClamped p || decide ((effectiveRange f (scanSettingsOf p)).low ≠ (scanSettingsOf p).low ∨
      (effectiveRange f (scanSettingsOf p)).high ≠ (scanSettingsOf p).high)) d.trv.pending.isSome = flags := by
    have iff : (scanClamped p || decide ((effectiveRange f (scanSettingsOf p)).low ≠ (scanSettingsOf p).low ∨
        (effectiveRange f (scanSettingsOf p)).high ≠ (scanSettingsOf p).high)) = true ↔ adjusted := by
      simp only [scanClamped, Bool.or_eq_true, decide_eq_true_iff, or_assoc]; rfl
    rw [flagsByte_eq]
    simp only [iff, flags]
  have notBusy : field p 0 1 ≠ 0 ∨ settled → ¬(field p 0 1 = 0 ∧ d.trv.state.settled = false) := by
    intro may ⟨zero, unsettled⟩
    exact Bool.eq_false_iff.mp unsettled (settles.mpr (may.resolve_left (not_not.mpr zero)))
  have answer : p.length = 30 → field p 0 1 ≠ 0 ∨ settled → d.trv.frame = some f → ¬bad →
      exec (.setScan dt tag p) s = s.replies (d.takeSettings tag x) 0x9E tag [0, flags] := by
    intro len may frame good
    refine State.command_flagged hd (h := Device.setScan) adjusts ((if_neg (not_not.mpr len)).trans ((if_neg (notBusy may)).trans ?_))
    dsimp only
    rw [show (s.dev.advance dt).trv.frame = some f from frame]
    exact (if_neg (mt refused.mp good)).trans (by rw [read good])
  refine ⟨fun wrong => ?_, fun len zero moving => ?_, fun len may none => ?_, fun len may frame refuses => ?_,
    fun len moving mode frame good none => ?_, fun q len moving mode frame good waits => ?_, fun len at' frame good => ?_⟩
  · exact State.command_refused hd (h := Device.setScan) (c := .badLength) (by decide) (if_pos wrong)
  · exact State.command_refused hd (h := Device.setScan) (c := .busy) (by decide) ((if_neg (not_not.mpr len)).trans
      (if_pos ⟨zero, Bool.eq_false_iff.mpr (mt settles.mp moving)⟩))
  · refine State.command_refused hd (h := Device.setScan) (c := .unconfigured) (by decide)
      ((if_neg (not_not.mpr len)).trans ((if_neg (notBusy may)).trans ?_))
    rw [show (s.dev.advance dt).trv.frame = Option.none from none]
  · refine State.command_refused hd (h := Device.setScan) (c := .badValue) (by decide)
      ((if_neg (not_not.mpr len)).trans ((if_neg (notBusy may)).trans ?_))
    rw [show (s.dev.advance dt).trv.frame = some f from frame]
    exact if_pos (refused.mpr refuses)
  · rw [answer len (.inl (by omega)) frame good, Device.takeSettings, Device.displacePending_of_none none]
    exact congrArg (fun e => s.replies e 0x9E tag [0, flags]) (if_neg (mt settles.mp moving))
  · rw [answer len (.inl (by omega)) frame good, Device.takeSettings, Device.displacePending_of_some waits]
    exact congrArg (fun e => s.replies e 0x9E tag [0, flags]) (if_neg (mt settles.mp moving))
  · refine ⟨_, answer len (.inr at') frame good, ?_⟩
    rw [Device.takeSettings, Device.displacePending_eq]
    generalize displaced : (d.setLnk d.displacedLink).setTrv { d.trv with pending := none } = e
    have applied := Device.applySettings_eq (d := e) (f := f) (by rw [← displaced]; exact frame) x
    have same : e.cutsAs x ⟨low, high, t⟩ = true ↔ ∃ k r, d.trv.active = some k ∧ d.trv.range = some r ∧
        (k.pitch = x.pitch ∧ k.p0 = x.p0 ∧ k.width = x.width ∧ k.count = x.count) ∧ r.low = low ∧ r.high = high := by
      rw [Device.cutsAs_iff, ← displaced]
      simp only [ScanSettings.sameCuts, EffRange.sameEnds, decide_eq_true_iff]
      rfl
    dsimp only
    rw [if_pos (by rw [← displaced]; exact settles.mpr at'), applied, range, ← displaced]
    rw [← displaced] at same
    refine ⟨?_, fun k r active range pitch p0 width count lo hi => ?_, fun differ => ?_, ?_, ?_, ?_, ?_, ?_, ?_, ?_, fun none => ?_,
      fun q waits => ?_⟩
    · split <;> rfl
    · rw [if_pos (same.mpr ⟨k, r, active, range, ⟨pitch, p0, width, count⟩, lo, hi⟩)]; rfl
    · rw [if_neg]
      · rfl
      · refine mt same.mp fun ⟨k, r, active, range, ⟨pitch, p0, width, count⟩, lo, hi⟩ => ?_
        rcases differ k r active range with h | h | h | h | h | h <;> exact h ‹_›
    iterate 7 (split <;> rfl)
    · have same : d.displacedLink = d.lnk := by rw [Device.displacedLink, none]
      split <;> exact same
    · have same : d.displacedLink = (d.offer ⟨0xC1, q.1, [0x1E, 9, 0, d.trv.state.code, 255]⟩).lnk := by
        rw [Device.displacedLink, waits, Device.offer_eq]; rfl
      split <;> exact same

/-! ## The settings of the blocks -/

/-- The ADJUSTED flag of a record of which the same fields stand as were sent (R184). -/
theorem flagsByte_unless {changed same : Prop} [Decidable changed] [Decidable same] (iff : changed ↔ ¬same) :
    flagsByte (decide changed) false = if decide same then 0 else 1 := by
  by_cases h : same <;> simp [iff, h]

theorem windowRefused_iff (p : List Byte) : windowRefused p = true ↔ 7 < field p 0 1 ∨ 1 < field p 1 1 ∨ 7 < field p 2 1 ∨
    599 < field p 3 2 ∨ 3 < field p 5 1 ∨ 3 < field p 6 1 ∨ field p 12 1 = 0 ∨ 2 < field p 12 1 ∨
    field p 6 1 = 3 ∧ field p 7 2 < field p 9 2 := by
  simp only [windowRefused, Bool.or_eq_true, decide_eq_true_iff, or_assoc]
  omega

/-- The limits that SET_WINDOW's limit byte names (R115). -/
theorem windowDefOf_eq {p : List Byte} (limits : field p 6 1 ≤ 3) : windowDefOf p =
    { windowDefOf p with
      high := if field p 6 1 = 1 ∨ field p 6 1 = 3 then some (field p 7 2) else none,
      low := if field p 6 1 = 2 ∨ field p 6 1 = 3 then some (field p 9 2) else none } := by
  have high : field p 6 1 % 2 = 1 ↔ field p 6 1 = 1 ∨ field p 6 1 = 3 := by omega
  have low : field p 6 1 / 2 = 1 ↔ field p 6 1 = 2 ∨ field p 6 1 = 3 := by omega
  simp only [windowDefOf, high, low]

/-- The measurement that SET_WINDOW's byte names (R115). -/
theorem windowMeasOf_eq (n : Nat) : windowMeasOf n = match n with
    | 0 => .bw | 1 => .moist | 2 => .dry | _ => .cal := by
  unfold windowMeasOf
  rcases n with _ | _ | _ | n <;> rfl

/-- SET_CALREF's refusals (R61). -/
theorem calref_refused_iff (p : List Byte) :
    (let n := field p 0 1
     let d0 := if n / 4 % 2 = 1 then some (field p 9 4) else none
     7 < n ∨ (if n % 2 = 1 then some (field p 1 4) else none) = some 0 ∨
       (if n / 2 % 2 = 1 then some (field p 5 4) else none) = some 0 ∨ d0 = some 0 ∨
       d0.any (fun v => decide (65536 < v)) = true) ↔
    7 < field p 0 1 ∨ field p 0 1 % 2 = 1 ∧ field p 1 4 = 0 ∨ field p 0 1 / 2 % 2 = 1 ∧ field p 5 4 = 0 ∨
      field p 0 1 / 4 % 2 = 1 ∧ (field p 9 4 = 0 ∨ 65536 < field p 9 4) := by
  have above : (if field p 0 1 / 4 % 2 = 1 then some (field p 9 4) else none).any (fun v => decide (65536 < v)) = true ↔
      field p 0 1 / 4 % 2 = 1 ∧ 65536 < field p 9 4 := by split <;> simp [*]
  simp only [above, Option.ite_none_right_eq_some, Option.some.injEq, and_or_left]

/-- Settles O41. -/
theorem settingsAreStored : Obligations.SettingsAreStored := by
  unfold Obligations.SettingsAreStored
  intro s dt tag p d flag hd
  refine ⟨fun len => ?tach, ⟨fun busy => ?_, fun free wrong => ?_, fun free len bad => ?_, fun free len good => ?_⟩,
    fun len => ⟨fun bad => ?_, fun good => ?_⟩, fun len => ?brk, fun len => ⟨fun bad => ?_, fun good n number => ?_⟩⟩
  case tach => exact State.command_flagged hd (h := Device.setTach) (flagsByte_unless Iff.rfl) (if_neg (not_not.mpr len))
  case brk =>
    exact State.command_flagged hd (h := Device.setBreak) (flagsByte_unless not_and_or.symm) (if_neg (not_not.mpr len))
  · exact State.command_refused hd (h := Device.setStdSettings) (c := .busy) (by decide) (if_pos busy)
  · exact State.command_refused hd (h := Device.setStdSettings) (c := .badLength) (by decide) ((if_neg free).trans (if_pos wrong))
  · exact State.command_refused hd (h := Device.setStdSettings) (c := .badValue) (by decide)
      ((if_neg free).trans ((if_neg (not_not.mpr len)).trans (if_pos bad)))
  · refine State.command_flagged hd (h := Device.setStdSettings) (flagsByte_unless ?_)
      ((if_neg free).trans ((if_neg (not_not.mpr len)).trans (if_neg (not_lt.mpr good))))
    simp only [not_and_or]; rfl
  · exact State.command_refused hd (h := Device.setCalref) (c := .badValue) (by decide)
      ((if_neg (not_not.mpr len)).trans (if_pos ((calref_refused_iff p).mpr bad)))
  · exact State.command_ok hd (h := Device.setCalref) (data := [])
      ((if_neg (not_not.mpr len)).trans (if_neg (mt (calref_refused_iff p).mp good)))
  · exact State.command_refused hd (h := Device.setWindow) (c := .badValue) (by decide)
      ((if_neg (not_not.mpr len)).trans (if_pos ((windowRefused_iff p).mpr bad)))
  · have which : Fin.ofNat 8 (field p 0 1) = n := by rw [← number]; exact Fin.ofNat_val_eq_self n
    have inRange : field p 6 1 ≤ 3 := by omega
    intro w e
    have stored : windowDefOf p = w := by
      rw [windowDefOf_eq inRange, windowDefOf, windowMeasOf_eq] <;> rfl
    refine State.command_flagged hd (h := Device.setWindow) (a := decide (w.base ≠ field p 3 2)) (flagsByte_unless ?_)
      ((if_neg (not_not.mpr len)).trans ((if_neg (mt (windowRefused_iff p).mp good)).trans ?_))
    · rw [Nat.dvd_iff_div_mul_eq]
    · dsimp only
      rw [which, stored]
      rfl

/-! ## The tables -/

/-- A table's statistics after a record (R91). -/
theorem LinTable.counted_eq (t : LinTable) (q : Option Nat) (f : MeasFlags) : t.counted q f =
    if q ≠ none ∧ t.knots ≠ [] then
      ⟨t.knots, min (t.converted + 1) 4294967295, if f.underEnd then min (t.underCount + 1) 4294967295 else t.underCount,
        if f.overEnd then min (t.overCount + 1) 4294967295 else t.overCount⟩
    else t := by
  simp only [LinTable.counted, Option.isSome_iff_ne_none]; rfl

/-- The number that the bytes of a number make (10 section 10.1). -/
theorem foldl_beBytes (n v acc : Nat) :
    (beBytes n v).foldl (fun acc b => acc * 256 + b.toNat) acc = acc * 256 ^ n + v % 256 ^ n := by
  induction n generalizing acc with
  | zero => simp [beBytes, Nat.mod_one]
  | succ n ih =>
    have split : v % 256 ^ (n + 1) = v % 256 ^ n + 256 ^ n * (v / 256 ^ n % 256) := by rw [pow_succ, Nat.mod_mul]
    rw [beBytes, List.foldl_cons, ih, BitVec.toNat_ofNat, split]
    ring

theorem beValue_beBytes {n v : Nat} (small : v < 256 ^ n) : beValue (beBytes n v) = v := by
  rw [beValue, foldl_beBytes, Nat.mod_eq_of_lt small]; simp

/-- A field that stands after the bytes before it. -/
theorem field_append {before : List Byte} {offset n v : Nat} (at' : before.length = offset) (small : v < 256 ^ n)
    (after : List Byte) : field (before ++ (beBytes n v ++ after)) offset n = v := by
  have taken : (beBytes n v ++ after).take n = beBytes n v := by
    rw [List.take_append_of_le_length (by simp), List.take_of_length_le (by simp)]
  rw [field, List.drop_append_of_le_length at'.ge, List.drop_of_length_le at'.le, List.nil_append, taken, beValue_beBytes small]

/-- A knot as it is sent: its x in four bytes, its y in two (05 section 5.1). -/
def knotBytes (k : Nat × Nat) : List Byte := beBytes 4 k.1 ++ beBytes 2 k.2

theorem knotBytes_length (ks : List (Nat × Nat)) : (ks.flatMap knotBytes).length = 6 * ks.length := by
  induction ks with
  | nil => rfl
  | cons k ks ih => simp [ih, knotBytes]; omega

/-- The knots of a payload are the ones sent. -/
theorem knotsAt_sent {head : List Byte} {ks : List (Nat × Nat)} (two : head.length = 2)
    (small : ∀ k ∈ ks, k.1 < 4294967296 ∧ k.2 < 65536) : knotsAt (head ++ ks.flatMap knotBytes) ks.length = ks := by
  refine List.ext_getElem (by simp [knotsAt]) fun i _ inside => ?_
  have split : ks = ks.take i ++ ks[i] :: ks.drop (i + 1) := by simp
  have sent : ks.flatMap knotBytes = (ks.take i).flatMap knotBytes ++ (knotBytes ks[i] ++ (ks.drop (i + 1)).flatMap knotBytes) := by
    rw [← List.flatMap_cons, ← List.flatMap_append, ← split]
  obtain ⟨x, y⟩ := small ks[i] (List.getElem_mem inside)
  have before : ((ks.take i).flatMap knotBytes).length = 6 * i := by
    rw [knotBytes_length, List.length_take_of_le inside.le]
  simp only [knotsAt, List.getElem_map, List.getElem_range, sent, knotBytes, List.append_assoc]
  refine Prod.ext ?_ ?_
  · rw [← List.append_assoc]
    exact field_append (by simp [two, before]) (by omega) _
  · rw [← List.append_assoc, ← List.append_assoc]
    exact field_append (by simp [two, before]; omega) (by omega) _

/-- Strictly increasing x values, neighbour by neighbour or pair by pair (R77). -/
theorem increasing_iff (ks : List (Nat × Nat)) : increasing ks = true ↔ ks.Pairwise (fun k q => k.1 < q.1) := by
  have chain : increasing ks = true ↔ ks.IsChain (fun k q => k.1 < q.1) := by
    induction ks using increasing.induct with
    | case1 k q ks ih => simp [increasing, ih]
    | case2 ks short =>
      match ks, short with
      | [], _ => simp [increasing]
      | [k], _ => simp [increasing]
      | k :: q :: ks, short => exact absurd rfl (short k q ks)
  rw [chain]
  have trans : IsTrans (Nat × Nat) (fun k q => k.1 < q.1) := ⟨fun _ _ _ => lt_trans⟩
  exact List.isChain_iff_pairwise

/-- Settles O42. -/
theorem tableReadsBack : Obligations.TableReadsBack := by
  unfold Obligations.TableReadsBack
  refine ⟨fun d scanning q => ?_, fun s dt tag n knots => ?_⟩
  · have counts : ∀ c : Cnv, d.cnv.counted (convertRecord d.cnv d.std.ref scanning q) = c →
        d.convertSample scanning q = (d.setCnv c, convertRecord d.cnv d.std.ref scanning q) := fun c same => by rw [← same]; rfl
    refine (fun same => ⟨same, counts _ same⟩) ?_
    generalize convertRecord d.cnv d.std.ref scanning q = r
    by_cases converted : r.form = .converted
    · simp only [Cnv.counted, converted, if_true, LinTable.counted_eq, true_and]
    · simp only [Cnv.counted, converted, if_false, false_and]
  · intro d sent p table hd n256 count256 small
    have byte : ∀ m, m < 256 → (BitVec.ofNat 8 m).toNat = m := fun m h => (BitVec.toNat_ofNat ..).trans (Nat.mod_eq_of_lt h)
    have number : field p 0 1 = n := by simpa [field, p, beValue] using byte n n256
    have count : field p 1 1 = knots.length := by simpa [field, p, beValue] using byte _ count256
    have read : knotsAt p knots.length = knots := knotsAt_sent (head := [_, _]) rfl small
    have length : p.length = 2 + 6 * knots.length := by
      rw [← knotBytes_length, Nat.add_comm]; rfl
    have long : ¬p.length < 2 := by omega
    have asked : field [BitVec.ofNat 8 n] 0 1 = n := by simpa [field, beValue] using byte n n256
    have judged : (2 < n ∨ knots.length = 1 ∨ 16 < knots.length ∨ knots.any (fun k => decide (ratioMax < k.1)) = true ∨
        (!increasing knots) = true) ↔ (2 < n ∨ knots.length = 1 ∨ 16 < knots.length ∨ (∃ k ∈ knots, 98304 < k.1) ∨
          ¬knots.Pairwise (fun k q => k.1 < q.1)) := by
      have ordered : (!increasing knots) = true ↔ ¬knots.Pairwise (fun k q => k.1 < q.1) := by
        rw [← increasing_iff]; simp
      simp only [ordered, List.any_eq_true, decide_eq_true_eq]
      rfl
    have answer : Device.setTable ⟨0x30, tag, p⟩ d = if 2 < n ∨ knots.length = 1 ∨ 16 < knots.length ∨
        knots.any (fun k => decide (ratioMax < k.1)) = true ∨ (!increasing knots) = true then (d, some (.only .badValue))
        else (d.setCnv (d.cnv.setTable n table), some (.ok [])) := by
      unfold Device.setTable
      dsimp only
      rw [if_neg long, count, number, read, if_neg (not_not.mpr length)]
    refine ⟨fun bad => ?_, fun isTable notOne few low rising => ?_, fun beyond => ?_⟩
    · exact State.command_refused hd (h := Device.setTable) (c := .badValue) (by decide)
        (answer.trans (if_pos (judged.mpr bad)))
    · have good : ¬(2 < n ∨ knots.length = 1 ∨ 16 < knots.length ∨ (∃ k ∈ knots, 98304 < k.1) ∨
          ¬knots.Pairwise (fun k q => k.1 < q.1)) := by
        rintro (h | h | h | ⟨k, mem, h⟩ | h)
        · omega
        · exact notOne h
        · omega
        · exact absurd (low k mem) (not_le.mpr h)
        · exact h rising
      intro c
      have stored : d.cnv.setTable n table = c := by
        rcases n with _ | _ | n <;> rfl
      have back : c.table n = table := by rw [← stored]; rcases n with _ | _ | n <;> rfl
      refine ⟨?_, fun s' hd' same => ?_⟩
      · exact State.command_ok hd (h := Device.setTable) (data := []) (stored ▸ answer.trans (if_neg (mt judged.mp good)))
      · have reply : [0, 0] ++ p ++ List.replicate 12 0 = [0, 0] ++ ([BitVec.ofNat 8 n, BitVec.ofNat 8 table.knots.length] ++
            table.knots.flatMap (fun k => beBytes 4 k.1 ++ beBytes 2 k.2) ++ beBytes 4 table.converted ++
            beBytes 4 table.underCount ++ beBytes 4 table.overCount) := by
          have zeros : List.replicate 12 (0 : Byte) = beBytes 4 0 ++ beBytes 4 0 ++ beBytes 4 0 := by decide
          rw [zeros]; simp [p, sent, table]
        rw [reply]
        refine State.command_ok hd' (h := Device.getTable) (kind := 0x31) ((if_neg (not_not.mpr rfl)).trans ?_)
        dsimp only
        rw [asked, show (s'.dev.advance dt).cnv = c from same, back]
        exact if_neg (by omega)
    · refine State.command_refused hd (h := Device.getTable) (kind := 0x31) (c := .badValue) (by decide)
        ((if_neg (not_not.mpr rfl)).trans ?_)
      dsimp only
      rw [asked]
      exact if_pos beyond

end Sys2Proof.Machine
end

section
/-! PROOFS. The arithmetic: roundings, the tables' interpolation, the filter, the windows' persistence (R86, R98, R103, R119 to
R123). -/

namespace Sys2Proof.Machine

/-! ## Rounding -/

/-- A rounded quotient is the nearest, a half going up. -/
theorem roundHalfUp_near {den : Nat} (pos : 0 < den) (num : Nat) :
    2 * den * roundHalfUp num den ≤ 2 * num + den ∧ 2 * num + den < 2 * den * (roundHalfUp num den + 1) := by
  have lo : den * roundHalfUp num den ≤ num + den / 2 := Nat.mul_div_le _ _
  have hi : num + den / 2 < den * (roundHalfUp num den + 1) := Nat.lt_mul_div_succ _ pos
  rw [Nat.mul_assoc, Nat.mul_assoc]
  omega

theorem roundHalfUp_le {num den n : Nat} (pos : 0 < den) (h : num ≤ n * den) : roundHalfUp num den ≤ n := by
  refine Nat.lt_succ_iff.mp ((Nat.div_lt_iff_lt_mul pos).mpr ?_)
  rw [Nat.succ_mul]; omega

theorem roundHalfUp_zero {den : Nat} (pos : 0 < den) : roundHalfUp 0 den = 0 :=
  Nat.le_zero.mp (roundHalfUp_le pos (by simp))

/-- The signed quotient rounded half away from zero: the magnitude is the nearest, the sign the numerator's (R86, R103). -/
theorem roundHalfAway_nearest {den : Nat} (pos : 0 < den) (num : Int) :
    2 * den * (roundHalfAway num den).natAbs ≤ 2 * num.natAbs + den ∧
    2 * num.natAbs + den < 2 * den * ((roundHalfAway num den).natAbs + 1) ∧
    (0 ≤ num → 0 ≤ roundHalfAway num den) ∧ (num ≤ 0 → roundHalfAway num den ≤ 0) := by
  have magnitude : (roundHalfAway num den).natAbs = roundHalfUp num.natAbs den := by unfold roundHalfAway; split <;> simp
  rw [magnitude]
  refine ⟨(roundHalfUp_near pos _).1, (roundHalfUp_near pos _).2, fun nonneg => ?_, fun nonpos => ?_⟩
  · rw [roundHalfAway, if_neg (not_lt.mpr nonneg)]; exact Int.natCast_nonneg _
  · unfold roundHalfAway
    split
    · exact neg_nonpos.mpr (Int.natCast_nonneg _)
    · have zero : num = 0 := by omega
      simp [zero, roundHalfUp_zero pos]

/-- A part of the way from one value to another, rounded, ends between them (R86, R103). -/
theorem roundStep_between {a b t den : Nat} (pos : 0 < den) (part : t ≤ den) :
    let v := ((a : Int) + roundHalfAway (((b : Int) - a) * t) den).toNat
    min a b ≤ v ∧ v ≤ max a b ∧ (v : Int) - a = roundHalfAway (((b : Int) - a) * t) den := by
  have bound : ∀ n : Nat, roundHalfUp (n * t) den ≤ n := fun n => roundHalfUp_le pos (Nat.mul_le_mul_left n part)
  rcases le_total a b with up | down
  · have way : ((b : Int) - a) * t = ((b - a) * t : Nat) := by rw [Nat.cast_mul, Nat.cast_sub up]
    have step : roundHalfAway (((b : Int) - a) * t) den = roundHalfUp ((b - a) * t) den := by
      rw [way, roundHalfAway, if_neg (by omega), Int.natAbs_natCast]
    have := bound (b - a)
    rw [step]
    generalize roundHalfUp ((b - a) * t) den = r at *
    omega
  · have way : ((b : Int) - a) * t = -((a - b) * t : Nat) := by rw [Nat.cast_mul, Nat.cast_sub down]; ring
    have step : roundHalfAway (((b : Int) - a) * t) den = -(roundHalfUp ((a - b) * t) den : Int) := by
      rw [way, roundHalfAway, Int.natAbs_neg, Int.natAbs_natCast]
      split
      · rfl
      · have none : (a - b) * t = 0 := by omega
        rw [none, roundHalfUp_zero pos]; rfl
    have := bound (a - b)
    rw [step]
    generalize roundHalfUp ((a - b) * t) den = r at *
    omega

/-! ## Interpolation -/

/-- Inside an interval the value stands between the interval's two (R86). -/
theorem interpolate_between {k l : Nat × Nat} {q : Nat} (lo : k.1 ≤ q) (hi : q < l.1) :
    min k.2 l.2 ≤ interpolate k l q ∧ interpolate k l q ≤ max k.2 l.2 ∧
    (interpolate k l q : Int) - k.2 = roundHalfAway (((l.2 : Int) - k.2) * ((q : Int) - k.1)) (l.1 - k.1) := by
  have way : ((q : Int) - k.1) = ((q - k.1 : Nat) : Int) := (Nat.cast_sub lo).symm
  rw [interpolate, way]
  exact roundStep_between (by omega) (by omega)

theorem interpolate_self (k l : Nat × Nat) (lo : k.1 < l.1) : interpolate k l k.1 = k.2 := by
  have at' : (interpolate k l k.1 : Int) - k.2 = 0 := by
    rw [(interpolate_between le_rfl lo).2.2, sub_self, mul_zero, roundHalfAway, if_neg (lt_irrefl 0), Int.natAbs_zero,
      roundHalfUp_zero (by omega)]
    rfl
  omega

section
variable {k : Nat × Nat} {ks : List (Nat × Nat)} {q : Nat}

/-- From a first knot at most at `q`: at a knot, its own y. -/
theorem linearizeFrom_knot (rising : (k :: ks).Pairwise (fun k l => k.1 < l.1)) {m : Nat × Nat} (mem : m ∈ k :: ks)
    (at' : m.1 = q) : linearizeFrom k ks q = ⟨m.2, false, false⟩ := by
  induction ks generalizing k with
  | nil =>
    obtain rfl : m = k := by simpa using mem
    simp [linearizeFrom, at']
  | cons k' ks ih =>
    obtain ⟨above, rest⟩ := List.pairwise_cons.mp rising
    rw [linearizeFrom]
    rcases List.mem_cons.mp mem with rfl | later
    · have next := above k' (by simp)
      rw [if_pos (by omega), ← at', interpolate_self _ _ next]
    · have reached : k'.1 ≤ m.1 := by
        rcases List.mem_cons.mp later with rfl | beyond
        · exact le_rfl
        · exact ((List.pairwise_cons.mp rest).1 m beyond).le
      rw [if_neg (by omega)]
      exact ih rest later

/-- Beyond the last knot: its y with OVER. -/
theorem linearizeFrom_beyond (rising : (k :: ks).Pairwise (fun k l => k.1 < l.1)) {m : Nat × Nat} (last : (k :: ks).getLast? = some m)
    (beyond : m.1 < q) : linearizeFrom k ks q = ⟨m.2, false, true⟩ := by
  induction ks generalizing k with
  | nil =>
    obtain rfl : k = m := by simpa using last
    simp [linearizeFrom, beyond]
  | cons k' ks ih =>
    obtain ⟨_, rest⟩ := List.pairwise_cons.mp rising
    rw [List.getLast?_cons_cons] at last
    have reached : k'.1 ≤ m.1 := by
      rcases List.mem_cons.mp (List.mem_of_getLast? last) with rfl | later
      · exact le_rfl
      · exact ((List.pairwise_cons.mp rest).1 m later).le
    rw [linearizeFrom, if_neg (by omega)]
    exact ih rest last

/-- Between two neighbouring knots: the interpolated value. -/
theorem linearizeFrom_between (rising : (k :: ks).Pairwise (fun k l => k.1 < l.1)) {i : Nat} {a b : Nat × Nat}
    (first : (k :: ks)[i]? = some a) (second : (k :: ks)[i + 1]? = some b) (lo : a.1 ≤ q) (hi : q < b.1) :
    linearizeFrom k ks q = ⟨interpolate a b q, false, false⟩ := by
  induction ks generalizing k i with
  | nil => simp at second
  | cons k' ks ih =>
    obtain ⟨_, rest⟩ := List.pairwise_cons.mp rising
    rw [linearizeFrom]
    cases i with
    | zero =>
      obtain rfl : k = a := by simpa using first
      obtain rfl : k' = b := by simpa using second
      rw [if_pos hi]
    | succ i =>
      rw [List.getElem?_cons_succ] at first second
      have reached : k'.1 ≤ a.1 := by
        rcases List.mem_cons.mp (List.mem_of_getElem? first) with rfl | later
        · exact le_rfl
        · exact ((List.pairwise_cons.mp rest).1 a later).le
      rw [if_neg (by omega)]
      exact ih rest first second
end

theorem linearize_cons (k : Nat × Nat) (ks : List (Nat × Nat)) (q : Nat) :
    linearize (k :: ks) q = some (if q < k.1 then ⟨k.2, true, false⟩ else linearizeFrom k ks q) := rfl

/-- Settles O44. -/
theorem roundedStepsStayBetween : Obligations.RoundedStepsStayBetween := by
  unfold Obligations.RoundedStepsStayBetween
  intro nearest
  refine ⟨fun knots q v rising value => ?_, fun q => rfl, fun weight f s part => ?_, fun sum count => ⟨rfl, fun pos => ?_⟩⟩
  · match knots with
    | [] => exact absurd value (by simp [linearize])
    | k :: ks =>
      have least : ∀ m ∈ k :: ks, k.1 ≤ m.1 := fun m mem => by
        rcases List.mem_cons.mp mem with rfl | later
        · exact le_rfl
        · exact ((List.pairwise_cons.mp rising).1 m later).le
      rw [linearize_cons] at value
      obtain rfl := Option.some.inj value
      refine ⟨fun m mem at' => ?_, fun m first below => ?_, fun m last beyond => ?_, fun i a b ith next lo hi => ?_⟩
      · rw [if_neg (by have := least m mem; omega)]
        exact linearizeFrom_knot rising mem at'
      · obtain rfl : k = m := by simpa using first
        exact if_pos below
      · rw [if_neg (by have := least m (List.mem_of_getLast? last); omega)]
        exact linearizeFrom_beyond rising last beyond
      · rw [if_neg (by have := least a (List.mem_of_getElem? ith); omega), linearizeFrom_between rising ith next lo hi]
        obtain ⟨above, below, step⟩ := interpolate_between lo hi
        refine ⟨above, below, rfl, rfl, ?_⟩
        simp only [nearest, step]
        exact roundHalfAway_nearest (by omega) _
  · obtain ⟨above, below, step⟩ := roundStep_between (a := f) (b := s) (t := weight) (den := 256) (by decide) part
    refine ⟨above, below, ?_, ?_⟩
    · obtain ⟨_, _, all⟩ := roundStep_between (a := f) (b := s) (t := 256) (den := 256) (by decide) le_rfl
      obtain ⟨lo, hi, nonneg, nonpos⟩ := roundHalfAway_nearest (den := 256) (by decide) (((s : Int) - f) * (256 : Nat))
      change ((filterStep 256 f s : Int)) - f = _ at all
      omega
    · change ((filterStep weight f s : Int)) - f = _ at step
      simp only [nearest, step]
      exact roundHalfAway_nearest (by decide) _
  · exact ⟨_, if_neg pos.ne', (roundHalfUp_near pos sum).1, (roundHalfUp_near pos sum).2⟩

/-! ## The windows -/

section
variable (f : WindowDef)

/-- The mean of an evaluation's values is out of the window's limits (R120). -/
def WindowDef.outOf (values : List Nat) : Prop :=
  (∃ h ∈ f.high, h < values.sum / values.length) ∨ ∃ h ∈ f.low, values.sum / values.length < h

/-- What of a window the persistence rules read and write. -/
def Window.core (w : Window) : WindowState × Nat × Option ExcursionRecord := (w.state, w.counter, w.excursion)

/-- A window after a run of evaluations. -/
def Window.ran (w : Window) (es : List (Nat × List Nat)) : Window := es.foldl (fun x e => x.evaluated f e.1 e.2) w

theorem Window.ran_snoc (w : Window) (es : List (Nat × List Nat)) (e : Nat × List Nat) :
    w.ran f (es ++ [e]) = (w.ran f es).evaluated f e.1 e.2 := by simp [Window.ran]

theorem WindowDef.judge_eq (v : Nat) : f.judge v =
    if ∃ h ∈ f.high, h < v then .above else if ∃ h ∈ f.low, v < h then .below else .within := by
  simp only [WindowDef.judge, Option.any_decide]

theorem WindowDef.judge_above (v : Nat) : f.judge v = .above ↔ ∃ h ∈ f.high, h < v := by
  rw [WindowDef.judge_eq]
  split
  · exact iff_of_true rfl ‹_›
  · split <;> exact iff_of_false nofun ‹_›

theorem WindowDef.judge_within (v : Nat) : f.judge v = .within ↔ ¬((∃ h ∈ f.high, h < v) ∨ ∃ h ∈ f.low, v < h) := by
  rw [WindowDef.judge_eq, not_or]
  split <;> rename_i high
  · exact ⟨nofun, fun neither => absurd high neither.1⟩
  split <;> rename_i low
  · exact ⟨nofun, fun neither => absurd low neither.2⟩
  · exact ⟨fun _ => ⟨high, low⟩, fun _ => rfl⟩

/-- An evaluation without data leaves the core (R119). -/
theorem Window.evaluated_empty (w : Window) (scan : Nat) : (w.evaluated f scan []).core = w.core := rfl

/-- An evaluation out of limits (R121, R123). -/
theorem Window.evaluated_out {values : List Nat} (heard : values ≠ []) (out : f.outOf values) (w : Window) (scan : Nat) :
    (w.evaluated f scan values).core =
      let n := windowNext w.state w.counter (max 1 f.persistence) true
      (n.1, n.2, if n.1 = .excursion ∧ w.state ≠ .excursion then
        some ⟨decide (∃ h ∈ f.high, h < values.sum / values.length), values.sum / values.length, scan⟩ else w.excursion) := by
  have outcome : decide (f.judge (values.sum / values.length) ≠ .within) = true :=
    decide_eq_true fun within => (f.judge_within _).mp within out
  have above : decide (f.judge (values.sum / values.length) = .above) = decide (∃ h ∈ f.high, h < values.sum / values.length) :=
    decide_eq_decide.mpr (f.judge_above _)
  simp only [Window.evaluated, if_neg heard, outcome, above, Window.core, WindowDef.runLength]

/-- An evaluation within limits never enters EXCURSION (R121). -/
theorem Window.evaluated_within {values : List Nat} (heard : values ≠ []) (within : ¬f.outOf values) (w : Window) (scan : Nat) :
    (w.evaluated f scan values).core =
      let n := windowNext w.state w.counter (max 1 f.persistence) false
      (n.1, n.2, w.excursion) := by
  have outcome : decide (f.judge (values.sum / values.length) ≠ .within) = false :=
    decide_eq_false (not_not.mpr ((f.judge_within _).mpr within))
  have stays : ¬((windowNext w.state w.counter (max 1 f.persistence) false).1 = .excursion ∧ w.state ≠ .excursion) := by
    rintro ⟨enters, left⟩
    cases state : w.state with
    | excursion => exact left state
    | normal | pending => simp [windowNext, state] at enters
  simp only [Window.evaluated, if_neg heard, outcome, Window.core, WindowDef.runLength, if_neg stays]

/-- The core after an evaluation depends on the core before it alone. -/
theorem Window.evaluated_congr {w x : Window} (same : w.core = x.core) (scan : Nat) (values : List Nat) :
    (w.evaluated f scan values).core = (x.evaluated f scan values).core := by
  obtain ⟨state, counter, excursion⟩ : w.state = x.state ∧ w.counter = x.counter ∧ w.excursion = x.excursion := by
    simpa [Window.core] using same
  by_cases empty : values = []
  · subst empty; exact same
  · simp only [Window.evaluated, if_neg empty, Window.core, state, counter, excursion]

/-- Evaluations without data change neither state nor counter (R119). -/
theorem Window.ran_heard (es : List (Nat × List Nat)) {w x : Window} (same : w.core = x.core) :
    (w.ran f es).core = (x.ran f (es.filter (fun e => !e.2.isEmpty))).core := by
  induction es generalizing w x with
  | nil => exact same
  | cons e es ih =>
    by_cases empty : e.2 = []
    · have drops : (e :: es).filter (fun e => !e.2.isEmpty) = es.filter (fun e => !e.2.isEmpty) := by simp [empty]
      rw [drops]
      exact ih ((congrArg (fun v => (w.evaluated f e.1 v).core) empty).trans same)
    · have keeps : (e :: es).filter (fun e => !e.2.isEmpty) = e :: es.filter (fun e => !e.2.isEmpty) := by simp [empty]
      rw [keeps]
      exact ih (Window.evaluated_congr f same _ _)

/-- A run of evaluations out of limits from NORMAL (R121, R123). -/
theorem Window.ran_out {w : Window} {es : List (Nat × List Nat)} (heard : ∀ e ∈ es, e.2 ≠ []) (out : ∀ e ∈ es, f.outOf e.2)
    (normal : w.state = .normal) (zero : w.counter = 0) :
    let p := max 1 f.persistence
    (es.length = 0 → (w.ran f es).core = (.normal, 0, w.excursion)) ∧
    (0 < es.length → es.length < p → (w.ran f es).core = (.pending, es.length, w.excursion)) ∧
    (p ≤ es.length → ∃ e, es[p - 1]? = some e ∧ (w.ran f es).core = (.excursion, 0,
      some ⟨decide (∃ h ∈ f.high, h < e.2.sum / e.2.length), e.2.sum / e.2.length, e.1⟩)) := by
  intro p
  have pos : 0 < p := by simp only [p]; omega
  induction es using List.reverseRecOn with
  | nil => exact ⟨fun _ => by simp [Window.ran, Window.core, normal, zero], fun h => absurd h (by simp), fun h => by simp at h; omega⟩
  | append_singleton es e ih =>
    obtain ⟨none, some, all⟩ := ih (fun e mem => heard e (by simp [mem])) (fun e mem => out e (by simp [mem]))
    have step := Window.evaluated_out f (heard e (by simp)) (out e (by simp)) (w.ran f es) e.1
    rw [Window.ran_snoc, step, List.length_append, List.length_singleton]
    refine ⟨fun h => absurd h (by omega), fun _ few => ?_, fun many => ?_⟩
    · rcases Nat.eq_zero_or_pos es.length with empty | some'
      · have before := none empty
        simp only [Window.core, Prod.mk.injEq] at before
        obtain ⟨state, counter, record⟩ := before
        have notOne : max 1 f.persistence ≠ 1 := by simp only [p] at few; omega
        simp [windowNext, state, record, notOne, empty]
      · have before := some some' (by omega)
        simp only [Window.core, Prod.mk.injEq] at before
        obtain ⟨state, counter, record⟩ := before
        have more : ¬max 1 f.persistence ≤ es.length + 1 := by simp only [p] at few; omega
        simp [windowNext, state, counter, record, more]
    · rcases Nat.lt_or_ge es.length p with last | past
      · have here : p - 1 = es.length := by omega
        refine ⟨e, by rw [here, List.getElem?_append_right le_rfl]; simp, ?_⟩
        rcases Nat.eq_zero_or_pos es.length with empty | some'
        · have before := none empty
          simp only [Window.core, Prod.mk.injEq] at before
          have one : max 1 f.persistence = 1 := by simp only [p] at many last; omega
          simp [windowNext, before.1, one]
        · have before := some some' last
          simp only [Window.core, Prod.mk.injEq] at before
          have reached : max 1 f.persistence ≤ es.length + 1 := many
          simp [windowNext, before.1, before.2.1, reached]
      · obtain ⟨e', at', before⟩ := all past
        refine ⟨e', by rw [List.getElem?_append_left (by omega)]; exact at', ?_⟩
        simp only [Window.core, Prod.mk.injEq] at before
        simp [windowNext, before.1, before.2.2]

/-- A run of evaluations within limits from EXCURSION (R121). -/
theorem Window.ran_within {w : Window} {es : List (Nat × List Nat)} (heard : ∀ e ∈ es, e.2 ≠ [])
    (within : ∀ e ∈ es, ¬f.outOf e.2) (excursion : w.state = .excursion) (zero : w.counter = 0) :
    (w.ran f es).core = if es.length < max 1 f.persistence then (.excursion, es.length, w.excursion)
      else (.normal, 0, w.excursion) := by
  induction es using List.reverseRecOn with
  | nil => simp [Window.ran, Window.core, excursion, zero]
  | append_singleton es e ih =>
    have before := ih (fun e mem => heard e (by simp [mem])) (fun e mem => within e (by simp [mem]))
    have step := Window.evaluated_within f (heard e (by simp)) (within e (by simp)) (w.ran f es) e.1
    rw [Window.ran_snoc, step, List.length_append, List.length_singleton]
    rcases Nat.lt_or_ge es.length (max 1 f.persistence) with few | many
    · rw [if_pos few] at before
      simp only [Window.core, Prod.mk.injEq] at before
      by_cases reached : max 1 f.persistence ≤ es.length + 1
      · simp only [windowNext, before.1, before.2.1, before.2.2, reached, if_true, if_neg (not_lt.mpr reached)]
      · simp only [windowNext, before.1, before.2.1, before.2.2, reached, if_false, if_pos (not_le.mp reached)]
    · rw [if_neg (by omega)] at before
      simp only [Window.core, Prod.mk.injEq] at before
      have past : ¬es.length + 1 < max 1 f.persistence := by omega
      simp only [windowNext, before.1, before.2.2, past, if_false]

/-- One evaluation within limits ends PENDING, and those that follow keep NORMAL (R121). -/
theorem Window.ran_back {w : Window} {es : List (Nat × List Nat)} (heard : ∀ e ∈ es, e.2 ≠ [])
    (within : ∀ e ∈ es, ¬f.outOf e.2) (pending : w.state = .pending) :
    (w.ran f es).state = (if es = [] then .pending else .normal) ∧ (es ≠ [] → (w.ran f es).counter = 0) := by
  induction es using List.reverseRecOn with
  | nil => simp [Window.ran, pending]
  | append_singleton es e ih =>
    obtain ⟨before, _⟩ := ih (fun e mem => heard e (by simp [mem])) (fun e mem => within e (by simp [mem]))
    have step := Window.evaluated_within f (heard e (by simp)) (within e (by simp)) (w.ran f es) e.1
    have next : windowNext (w.ran f es).state (w.ran f es).counter (max 1 f.persistence) false = (.normal, 0) := by
      rw [before]; split <;> rfl
    simp only [Window.core, next, Prod.mk.injEq] at step
    rw [Window.ran_snoc]
    simp [step.1, step.2.1]
end

/-- Settles O47: the run is that of the evaluations with data, and runs grow at their end. -/
theorem windowPersistence : Obligations.WindowPersistence := by
  unfold Obligations.WindowPersistence
  intro f w evals p mean out run after heard
  have same : after.core = (w.ran f heard).core := Window.ran_heard f evals rfl
  have data : ∀ e ∈ heard, e.2 ≠ [] := fun e mem => by simpa [heard] using (List.mem_filter.mp mem).2
  have parts : ∀ {st c x}, (w.ran f heard).core = (st, c, x) → after.state = st ∧ after.counter = c ∧ after.excursion = x := by
    intro st c x core
    simpa [Window.core] using same.trans core
  refine ⟨parts rfl, fun allOut normal zero => ?_, fun allIn excursion zero => ?_, fun allIn pending some => ?_⟩
  · obtain ⟨none, few, many⟩ := Window.ran_out f data allOut normal zero
    refine ⟨fun h => ?_, fun h k => ?_, fun h => ?_⟩
    · obtain ⟨state, counter, _⟩ := parts (none h); exact ⟨state, counter⟩
    · obtain ⟨state, counter, _⟩ := parts (few h k); exact ⟨state, counter⟩
    · obtain ⟨e, at', core⟩ := many h
      obtain ⟨state, counter, record⟩ := parts core
      refine ⟨state, counter, fun e' also => ?_⟩
      obtain rfl := Option.some.inj (at'.symm.trans also)
      exact record
  · have core := Window.ran_within f data allIn excursion zero
    refine ⟨?_, fun few => ?_, fun many => ?_⟩
    · split at core <;> exact (parts core).2.2
    · rw [if_pos few] at core
      obtain ⟨state, counter, _⟩ := parts core; exact ⟨state, counter⟩
    · rw [if_neg (not_lt.mpr many)] at core
      obtain ⟨state, counter, _⟩ := parts core; exact ⟨state, counter⟩
  · obtain ⟨state, counter⟩ := Window.ran_back f data allIn pending
    have nonempty : heard ≠ [] := List.length_pos_iff.mp some
    obtain ⟨state', counter', _⟩ := parts rfl
    rw [if_neg nonempty] at state
    exact ⟨state'.trans state, counter'.trans (counter nonempty)⟩

end Sys2Proof.Machine
end

section
/-! PROOFS. CONVERT and the reading commands (R82 to R92, R109, R111, R126, R149, R193, 10 section 10.8). -/

namespace Sys2Proof.Machine

/-! ## CONVERT -/

theorem clampRatio_eq (q : Nat) : clampRatio q = (min q 98304, decide (98304 < q)) := by
  unfold clampRatio ratioMax
  split
  · simp [*, Nat.le_of_lt]
  · simp_all

/-- A converted record by its three stages (R82 to R89). -/
theorem convertWith_eq (c : Cnv) (ref : RefSet) (s : Sample) :
    let qb := clampRatio (rate s.bw s.dur * 65536 / ref.rBw)
    let qw := clampRatio (rate s.mw s.dur * 65536 / rate s.mr s.dur * 65536 / ref.m)
    let duty := s.calHigh * 65536 / s.calTotal
    let b := measured c.bw qb.1 qb.2
    let w := if rate s.mr s.dur = 0 then (none, noRefFlags) else measured c.water qw.1 qw.2
    let k := if s.calTotal = 0 then (none, { MeasFlags.clear with noSignal := true })
      else measured c.cal (duty - ref.d0) (decide (duty < ref.d0))
    convertWith c ref s =
      { sample := s, form := .converted, qBw := some qb.1, qW := if rate s.mr s.dur = 0 then none else some qw.1,
        qC := if s.calTotal = 0 then none else some (duty - ref.d0), bw := b.1, water := w.1, cal := k.1,
        moisture := moistureOf b.1 w.1, dry := dryOf b.1 w.1, bwFlags := b.2, waterFlags := w.2, calFlags := k.2,
        wet := wetOf b.1 w.1 } := by
  by_cases noMr : rate s.mr s.dur = 0 <;> by_cases noCal : s.calTotal = 0 <;>
    simp only [convertWith, waterStage, calStage, noMr, noCal, if_true, if_false]

/-- Settles O43. -/
theorem convertAnswers : Obligations.ConvertAnswers := by
  unfold Obligations.ConvertAnswers
  intro s dt tag p d dur bad sample off through hd len
  have answer : ¬bad → Device.convert ⟨0x32, tag, p⟩ d = (d, some (.ok (convertRecord d.cnv d.std.ref false sample).valueBytes)) :=
    fun good => (if_neg (not_not.mpr len)).trans (if_neg good)
  refine ⟨fun bad => ?_, fun good raw => ?_, fun r good ref => ?_⟩
  · exact State.command_refused hd (h := Device.convert) (c := .badValue) (by decide)
      ((if_neg (not_not.mpr len)).trans (if_pos bad))
  · refine State.command_ok hd (h := Device.convert) ((answer good).trans ?_)
    rw [raw]; rfl
  · intro rate' clamped qb qw duty b w c
    refine State.command_ok hd (h := Device.convert) ((answer good).trans ?_)
    rw [ref, convertRecord_eq_convertWith (by simp), convertWith_eq]
    have thru : ∀ t q clamp, measured t q clamp = through t q clamp := fun _ _ _ => rfl
    have off' : MeasFlags.clear = off := rfl
    simp only [clampRatio_eq, thru, rate, noRefFlags, off', sample, b, w, c, qb, qw, duty, clamped, rate', dur]

/-! ## Layouts -/

/-- A flag's weight in a byte. -/
theorem weight_eq (n : Nat) (b : Bool) : (if b then 2 ^ n else 0) = 2 ^ n * (if b then 1 else 0) := by
  cases b <;> simp

theorem flatMap_length_const {α : Type} {f : α → List Byte} {n : Nat} (each : ∀ a, (f a).length = n) (l : List α) :
    (l.flatMap f).length = n * l.length := by
  induction l with
  | nil => rfl
  | cons a l ih => rw [List.flatMap_cons, List.length_append, each, ih, List.length_cons]; ring

theorem sliceEntries_eq (k : Nat) (ss : List Slice) : sliceEntries k ss = (ss.mapIdx (fun j s => s.entry (k + j))).flatten := by
  induction ss generalizing k with
  | nil => rfl
  | cons s ss ih =>
    rw [sliceEntries, ih, List.mapIdx_cons, List.flatten_cons]
    simp only [Nat.add_zero, Nat.add_assoc, Nat.add_comm 1]

theorem Slice.entry_length (s : Slice) (k : Nat) : (s.entry k).length = 12 := by simp [Slice.entry, opt16]

theorem sliceEntries_length (k : Nat) (ss : List Slice) : (sliceEntries k ss).length = 12 * ss.length := by
  induction ss generalizing k with
  | nil => rfl
  | cons s ss ih => simp only [sliceEntries, List.length_append, ih, Slice.entry_length, List.length_cons]; ring

theorem Profile.segments_eq (w : Profile) : w.segments = (w.map.count + 19) / 20 := rfl

theorem BreakRecord.notice_length (r : BreakRecord) : r.notice.payload.length = 17 + 5 * r.losses.length := by
  have five : ∀ l : LossEntry, l.bytes.length = 5 := fun l => by simp [LossEntry.bytes]
  simp only [BreakRecord.notice, List.length_append, flatMap_length_const five, beBytes_length, opt16, List.length_cons,
    List.length_nil]

theorem RingEntry.summary_length (e : RingEntry) : e.summary.length = 7 := by simp [RingEntry.summary, opt16]

/-- Settles O46. -/
theorem readersAnswer : Obligations.ReadersAnswer := by
  unfold Obligations.ReadersAnswer
  intro bit value
  refine ⟨?profile, ?notice, ?point, ?codes, ?readers⟩
  case profile =>
    intro w src notice skipped i source direction completion edge both coverage entry
    have hsource : src.code = source := rfl
    have hdirection : w.dir.code = direction := rfl
    have hcompletion : w.completion.code = completion := rfl
    refine ⟨?_, ?_, ?_, ?_⟩
    · have flags : presenceBits [w.bw.isSome, w.bw.isSome, w.moisture.isSome, w.moisture.isSome, w.cal.isSome, w.cal.isSome,
          w.tsEdge.isSome, w.dsEdge.isSome] = bit 0 w.bw.isSome + bit 1 w.bw.isSome + bit 2 w.moisture.isSome +
          bit 3 w.moisture.isSome + bit 4 w.cal.isSome + bit 5 w.cal.isSome + bit 6 w.tsEdge.isSome + bit 7 w.dsEdge.isSome := by
        simp only [presenceBits, bit, weight_eq]; omega
      rw [Profile.header, flags, hsource, hdirection, hcompletion, Profile.segments_eq]
      simp only [opt16, opt24, value, both, edge, bit, List.append_assoc]
      rfl
    · simp [Profile.header, opt16, opt24]
    · have entries : ∀ k x, Slice.entry x k = entry k x := by
        intro k x
        have flags : x.coverage + 4 * presenceBits [x.edge, x.clamped, x.bw.isSome, x.water.isSome, x.moisture.isSome, x.cal.isSome] =
            coverage x + bit 2 x.edge + bit 3 x.clamped + bit 4 x.bw.isSome + bit 5 x.water.isSome + bit 6 x.moisture.isSome +
            bit 7 x.cal.isSome := by
          simp only [presenceBits, bit, weight_eq, coverage, Slice.coverage]; omega
        rw [Slice.entry, flags]; rfl
      rw [Profile.segment, sliceEntries_eq, hsource]
      simp only [entries]
    · rw [Profile.segment, List.length_append, sliceEntries_length]
      simp
  case notice =>
    refine fun r => ⟨?_, r.notice_length⟩
    have restored : boolByte r.restore.isSome = if r.restore = none then 0 else 1 := by cases r.restore <;> rfl
    rw [BreakRecord.notice, restored]
    rfl
  case point =>
    intro ring period batch held newest pos
    have first : (ring.take batch).head? = ring.head? := by
      cases ring <;> cases batch <;> simp_all
    refine ⟨?_, ?_⟩
    · have flags : ∀ r : ConvRecord, presenceBits [r.bw.isSome, r.water.isSome, r.cal.isSome, decide (r.form = .raw),
          r.bwFlags.held || r.waterFlags.held || r.calFlags.held, decide (r.sample.sheet ≠ .all)] =
          bit 0 r.bw.isSome + bit 1 r.water.isSome + bit 2 r.cal.isSome + bit 3 (r.form = .raw) +
          bit 4 (r.bwFlags.held || r.waterFlags.held || r.calFlags.held) + bit 5 (r.sample.sheet ≠ .all) := by
        intro r
        simp only [presenceBits, bit, weight_eq]; omega
      have each : ∀ e : RingEntry, e.summary = value e.record.bw ++ value e.record.water ++ value e.record.cal ++
          [BitVec.ofNat 8 (bit 0 e.record.bw.isSome + bit 1 e.record.water.isSome + bit 2 e.record.cal.isSome +
            bit 3 (e.record.form = .raw) + bit 4 (held e.record.bwFlags || held e.record.waterFlags || held e.record.calFlags) +
            bit 5 (e.record.sample.sheet ≠ .all))] := fun e => by rw [RingEntry.summary, flags]; rfl
      have zero : beBytes 2 0 = [0, 0] := by decide
      simp only [pointData, first, zero, funext each, newest, opt32, List.append_assoc, List.cons_append, List.nil_append]
      rfl
    · rw [pointData]
      simp only [List.length_append, flatMap_length_const RingEntry.summary_length, opt32, beBytes_length, List.length_take,
        List.length_cons, List.length_nil]
  case codes => exact ⟨rfl, rfl, rfl, rfl⟩
  case readers =>
    intro s dt tag p d ok no n there hd
    have reads : ∀ (h : Handler) (kind : Byte) (data : List Byte) (p : List Byte), h ⟨kind, tag, p⟩ d = (d, some (.ok data)) →
        s.command dt h kind tag p = ok (kind + 0x80) data := fun h kind data p answer => State.command_ok hd answer
    refine ⟨?getScan, ?getChannels, ?getStd, fun len => ?getProfile, fun len => ⟨?getPoint, fun beyond => ?_, fun i number => ?_,
      ?getBreaks, ?getAlarms⟩, ?getLink, ?getStations⟩
    case getScan =>
      refine (reads Device.getScan 0x1F _ p rfl).trans (congrArg _ ?_)
      simp only [List.append_assoc, List.cons_append, List.nil_append]
      congr
      · cases d.trv.active <;> rfl
      · cases d.trv.pending <;> rfl
    case getChannels =>
      refine (reads Device.getChannels 0x21 _ p rfl).trans (congrArg _ ?_)
      simp only [List.append_assoc, List.cons_append, List.nil_append, Option.map_map]
      congr
      cases d.acq.last <;> rfl
    case getStd =>
      refine (reads Device.getStd 0x2A _ p rfl).trans (congrArg _ ?_)
      have flags : BitVec.ofNat 8 (presenceBits [d.std.calRbw.isSome, d.std.calM.isSome, d.std.calD0.isSome]) =
          there d.std.calRbw.isSome + 2 * there d.std.calM.isSome + 4 * there d.std.calD0.isSome := by
        generalize d.std.calRbw.isSome = a, d.std.calM.isSome = b, d.std.calD0.isSome = c
        revert a b c; decide
      simp only [List.append_assoc, List.cons_append, List.nil_append, flags]
      congr
      · cases d.std.settings <;> rfl
      · cases d.std.ref with
        | none => rfl
        | some r => simp only [Option.map_some, Option.getD_some]; rfl
      · funext l
        have mask : [(l.mask.map (BitVec.ofNat 8)).getD 255] = beBytes 1 (l.mask.getD (256 ^ 1 - 1)) := by
          cases l.mask <;> simp [beBytes]
        rw [mask]
        rfl
    case getProfile =>
      have answer : Device.getProfile ⟨0x38, tag, p⟩ d = match Device.sourceOf n with
          | none => (d, some (.only .badValue))
          | some src => match d.prf.profile src with
            | none => (d, some (.only .state))
            | some w => if field p 1 1 = 255 then (d, some (.ok (w.header src false d.prf.skip)))
              else if field p 1 1 < w.segments then (d, some (.ok (w.segment src (field p 1 1)))) else (d, some (.only .badValue)) :=
        if_neg (not_not.mpr len)
      have refuses : ∀ c : ReplyCode, c ≠ .badKind → Device.getProfile ⟨0x38, tag, p⟩ d = (d, some (.only c)) →
          exec (.getProfile dt tag p) s = no 0xB8 c.code := fun c known answer => State.command_refused hd known answer
      intro part chosen src
      refine ⟨fun neither => refuses .badValue (by decide) ?_, fun either absent => refuses .state (by decide) ?_,
        fun either w stored => ?_⟩
      · have unknown : Device.sourceOf n = none := by
          rw [Device.sourceOf, if_neg (by omega), if_neg (by omega)]
        rw [answer, unknown]
      · have known : Device.sourceOf n = some src := by
          rcases either with h | h <;> simp [Device.sourceOf, src, h]
        have none : d.prf.profile src = none := by
          rw [← absent]; simp only [src, chosen]; split <;> rfl
        rw [answer, known]; dsimp only; rw [none]
      · have known : Device.sourceOf n = some src := by
          rcases either with h | h <;> simp [Device.sourceOf, src, h]
        have there : d.prf.profile src = some w := by
          rw [← stored]; simp only [src, chosen]; split <;> rfl
        rw [known] at answer; dsimp only at answer; rw [there] at answer; dsimp only at answer
        refine ⟨fun header => reads Device.getProfile 0x38 _ p (answer.trans (if_pos header)),
          fun segment inside => reads Device.getProfile 0x38 _ p (answer.trans ((if_neg segment).trans (if_pos inside))),
          fun segment beyond => refuses .badValue (by decide) (answer.trans ((if_neg segment).trans (if_neg ?_)))⟩
        exact Nat.not_lt.mpr beyond
    case getPoint =>
      by_cases beyond : 63 < n
      · rw [if_pos beyond]
        exact State.command_refused hd (h := Device.getPoint) (c := .badValue) (by decide)
          ((if_neg (not_not.mpr len)).trans (if_pos beyond))
      · rw [if_neg beyond]
        exact reads Device.getPoint 0x39 _ p ((if_neg (not_not.mpr len)).trans (if_neg beyond))
    · exact State.command_refused hd (h := Device.getWindow) (c := .badValue) (by decide)
          ((if_neg (not_not.mpr len)).trans (if_pos beyond))
    · have which : Fin.ofNat 8 n = i := by rw [← number]; exact Fin.ofNat_val_eq_self i
      have inside : ¬7 < n := by omega
      refine (reads Device.getWindow 0x41 _ p ((if_neg (not_not.mpr len)).trans (if_neg inside))).trans (congrArg _ ?_)
      dsimp only
      rw [which]
      simp only [List.append_assoc, List.cons_append, List.nil_append]
      congr
      cases (d.window i).definition <;> rfl
    case getBreaks =>
      by_cases beyond : 16 < n
      · rw [if_pos beyond]
        exact State.command_refused hd (h := Device.getBreaks) (c := .badValue) (by decide)
          ((if_neg (not_not.mpr len)).trans (if_pos beyond))
      · rw [if_neg beyond]
        exact reads Device.getBreaks 0x4B _ p ((if_neg (not_not.mpr len)).trans (if_neg beyond))
    case getAlarms =>
      by_cases beyond : 23 < n
      · rw [if_pos beyond]
        exact State.command_refused hd (h := Device.getAlarms) (c := .badValue) (by decide)
          ((if_neg (not_not.mpr len)).trans (if_pos beyond))
      · rw [if_neg beyond]
        refine (reads Device.getAlarms 0x52 _ p ((if_neg (not_not.mpr len)).trans (if_neg beyond))).trans (congrArg _ ?_)
        dsimp only
        simp only [List.append_assoc, List.cons_append, List.nil_append]
        congr
        cases candidate : d.alm.candidate with
        | none => rw [Device.waitReason, candidate]; rfl
        | some a =>
          have wait : d.waitReason = if d.alm.hold then 2 else if d.alm.passes a then 1 else 0 := by
            simp only [Device.waitReason, candidate]
            cases d.alm.passes a <;> rfl
          rw [wait]; rfl
    case getLink =>
      have empty : d.lnk.cmdQ.length = 0 := by rw [hd.2.1]; rfl
      refine (reads Device.getLink 0x02 _ [] rfl).trans (congrArg _ ?_)
      rw [empty]; rfl
    case getStations =>
      refine (reads Device.getStations 0x4A _ [] rfl).trans (congrArg _ ?_)
      simp only [List.append_assoc, List.cons_append, List.nil_append]
      congr
      cases d.brk.settings <;> rfl

end Sys2Proof.Machine
end

section
/-! PROOFS. The judgement of a collection (R64 to R70). -/

namespace Sys2Proof.Machine

/-! ## The largest drift -/

/-- What is at least an item stays the largest. -/
theorem larger_keeps {b : Nat × Nat} {i : Nat} {x : Option Nat} (top : ∀ u ∈ x, u ≤ b.2) : larger (some b) (i, x) = some b := by
  cases x with
  | none => rfl
  | some u => exact if_neg (not_lt.mpr (top u rfl))

/-- An item above all before it is the largest. -/
theorem larger_takes {best : Option (Nat × Nat)} {i v : Nat} (above : ∀ b ∈ best, b.2 < v) :
    larger best (i, some v) = some (i, v) := by
  cases best with
  | none => rfl
  | some b => exact if_pos (above b rfl)

/-- The largest is one of the items. -/
theorem larger_mem {best : Option (Nat × Nat)} {i : Nat} {x : Option Nat} {e : Nat × Nat} (h : larger best (i, x) = some e) :
    best = some e ∨ x = some e.2 := by
  cases x with
  | none => exact .inl (by simpa using h)
  | some v =>
    cases best with
    | none => cases h; exact .inr rfl
    | some b =>
      rw [larger_next] at h
      split at h
      · cases h; exact .inr rfl
      · exact .inl h

theorem larger_below {best : Option (Nat × Nat)} {i v : Nat} {x : Option Nat} (first : ∀ b ∈ best, b.2 < v) (next : ∀ u ∈ x, u < v) :
    ∀ b ∈ larger best (i, x), b.2 < v := by
  intro b mem
  rcases larger_mem mem with before | here
  · exact first b before
  · exact next b.2 here

section
variable {bw m d0 : Option Nat}

theorem largestDrift_mem {e : Nat × Nat} (h : largestDrift bw m d0 = some e) : some e.2 ∈ [bw, m, d0] := by
  rw [largestDrift_eq] at h
  rcases larger_mem h with h | h
  · rcases larger_mem h with h | h
    · rcases larger_mem h with h | h
      · cases h
      · simp [h]
    · simp [h]
  · simp [h]

theorem le_largestDrift_of_mem {v : Nat} (mem : some v ∈ [bw, m, d0]) : ∃ e, largestDrift bw m d0 = some e ∧ v ≤ e.2 :=
  le_largestDrift (by simpa [eq_comm] using mem)

/-- The largest drift's value, without its item. -/
theorem largestDrift_value {v : Nat} (mem : some v ∈ [bw, m, d0]) (top : ∀ u, some u ∈ [bw, m, d0] → u ≤ v) :
    (largestDrift bw m d0).map Prod.snd = some v := by
  obtain ⟨e, largest, le⟩ := le_largestDrift_of_mem mem
  have ge := top e.2 (largestDrift_mem largest)
  rw [largest, Option.map_some, le_antisymm ge le]

/-- A drift exceeds a limit exactly when the largest does. -/
theorem exceeds_iff (limit : Nat) : (∃ v, some v ∈ [bw, m, d0] ∧ limit < v) ↔ ∃ e, largestDrift bw m d0 = some e ∧ limit < e.2 := by
  constructor
  · rintro ⟨v, mem, above⟩
    obtain ⟨e, largest, le⟩ := le_largestDrift_of_mem mem
    exact ⟨e, largest, by omega⟩
  · rintro ⟨e, largest, above⟩
    exact ⟨e.2, largestDrift_mem largest, above⟩

/-- The item of the largest drift is the first of equals (R70). -/
theorem largestDrift_item {v : Nat} {i : Fin 3} (at' : [bw, m, d0][i]? = some (some v)) (first : ∀ j < i, [bw, m, d0][j]? ≠ some (some v))
    (top : ∀ u, some u ∈ [bw, m, d0] → u ≤ v) : largestDrift bw m d0 = some (i.val + 1, v) := by
  have le : ∀ x ∈ [bw, m, d0], ∀ u ∈ x, u ≤ v := fun x mem u h => top u (by rw [← Option.mem_def.mp h]; exact mem)
  have lt : ∀ x ∈ [bw, m, d0], x ≠ some v → ∀ u ∈ x, u < v := fun x mem other u h =>
    lt_of_le_of_ne (le x mem u h) fun same => other (by rw [Option.mem_def.mp h, same])
  rw [largestDrift_eq]
  match i with
  | 0 =>
    obtain rfl : bw = some v := by simpa using at'
    rw [larger_first, larger_keeps (le m (by simp)), larger_keeps (le d0 (by simp))]; rfl
  | 1 =>
    obtain rfl : m = some v := by simpa using at'
    have before : bw ≠ some v := by simpa using first 0 (by decide)
    rw [larger_takes (larger_below (by simp) (lt bw (by simp) before)), larger_keeps (le d0 (by simp))]; rfl
  | 2 =>
    obtain rfl : d0 = some v := by simpa using at'
    have before : bw ≠ some v := by simpa using first 0 (by decide)
    have before' : m ≠ some v := by simpa using first 1 (by decide)
    rw [larger_takes (larger_below (larger_below (by simp) (lt bw (by simp) before)) (lt m (by simp) before'))]; rfl
end

/-! ## What a rise leaves -/

/-- A rise latches an idle entry with its value (R154). -/
theorem Device.rise_value {d : Device} {a : Fin 24} (idle : (d.entry a).state = .idle) (v : Nat) :
    ((d.rise a v).entry a).value = some v := by
  refine (congrArg AlarmEntry.value (d.rise_content_self a v) :).trans ?_
  rw [AlarmEntry.afterRise, if_pos idle]; rfl

/-- What changes nothing but the alarms tells the host nothing else. -/
theorem Device.tells_of_lessAlarms {d e x : Device} (h : e.lessAlarms = x.lessAlarms) (same : x.lnk = d.lnk) : e.tells d [] := by
  have links : ({ e.lnk with alarmQ := [] } : Lnk) = { x.lnk with alarmQ := [] } := (congrArg Device.lnk h :)
  unfold Device.tells
  rw [List.foldl_nil, ← same]
  exact congrArg (fun l : Lnk => { l with alarmQ := e.lnk.alarmQ }) links

/-! ## The judgement -/

/-- The mask of R65 by the sums. -/
theorem Std.mask_eq (s : Std) :
    let rBw := s.sums.bw * 1000000 / s.sums.d
    let rMw := s.sums.mw * 1000000 / s.sums.d
    let rMr := s.sums.mr * 1000000 / s.sums.d
    let m := s.sums.mw * 65536 / s.sums.mr
    let k := s.snapshot
    s.mask = (if rBw = 0 ∨ rBw < k.minBw then 1 else 0) + (if rMw < k.minMw ∨ s.sums.mr ≠ 0 ∧ m = 0 then 2 else 0) +
      (if rMr < k.minMr ∨ s.sums.mr = 0 then 4 else 0) + (if s.sums.calTotal = 0 then 8 else 0) + (if s.satMark then 16 else 0) := by
  have ratio : s.sums.candidates.m = some 0 ↔ s.sums.mr ≠ 0 ∧ s.sums.mw * 65536 / s.sums.mr = 0 := by
    simp [StdSums.candidates]
  have none : s.sums.candidates.m = none ↔ s.sums.mr = 0 := by simp [StdSums.candidates]
  have dark : s.sums.candidates.d0 = Option.none ↔ s.sums.calTotal = 0 := by simp [StdSums.candidates]
  simp only [Std.mask, channelMask, ratio, none, dark]
  rfl

/-- The drifts of R66 by the sums. -/
theorem Std.drifts_eq (s : Std) : s.drifts =
    ⟨driftOf (s.sums.bw * 1000000 / s.sums.d) s.calRbw, driftOf (s.sums.mw * 65536 / s.sums.mr) s.calM,
      driftOf (s.sums.calHigh * 65536 / s.sums.calTotal) s.calD0⟩ := by
  have ratio : s.sums.candidates.m.getD 0 = s.sums.mw * 65536 / s.sums.mr := by
    by_cases h : s.sums.mr = 0 <;> simp [StdSums.candidates, h]
  have dark : s.sums.candidates.d0.getD 0 = s.sums.calHigh * 65536 / s.sums.calTotal := by
    by_cases h : s.sums.calTotal = 0 <;> simp [StdSums.candidates, h]
  rw [Std.drifts, ratio, dark]; rfl

theorem Std.verdict_channel (s : Std) : s.verdict = .channel ↔ s.mask ≠ 0 := by
  unfold Std.verdict judgeDrift
  split <;> rename_i h
  · exact iff_of_true rfl h
  · refine iff_of_false ?_ h
    repeat' split
    all_goals exact nofun

/-- The drift check by the largest drift (R66). -/
theorem Std.verdict_of_pass {s : Std} (pass : s.mask = 0) :
    (s.verdict = .drift ↔ ∃ e, s.drifts.largest = some e ∧ s.snapshot.reject < e.2) ∧
    (s.verdict = .adoptedDrift ↔ ¬(∃ e, s.drifts.largest = some e ∧ s.snapshot.reject < e.2) ∧
      ∃ e, s.drifts.largest = some e ∧ s.snapshot.warn < e.2) ∧
    (s.verdict = .adopted ↔ ¬(∃ e, s.drifts.largest = some e ∧ s.snapshot.reject < e.2) ∧
      ¬∃ e, s.drifts.largest = some e ∧ s.snapshot.warn < e.2) := by
  rw [Std.verdict, if_neg (not_not.mpr pass)]
  cases s.drifts.largest with
  | none => simp [judgeDrift]
  | some e =>
    by_cases rejects : s.snapshot.reject < e.2
    · simp [judgeDrift, rejects]
    · by_cases warns : s.snapshot.warn < e.2 <;> simp [judgeDrift, rejects, warns]

theorem mask_ne_zero_iff {a b c e f : Prop} [Decidable a] [Decidable b] [Decidable c] [Decidable e] [Decidable f] :
    (if a then 1 else 0) + (if b then 2 else 0) + (if c then 4 else 0) + (if e then 8 else 0) + (if f then 16 else 0) ≠ 0 ↔
      a ∨ b ∨ c ∨ e ∨ f := by
  simp only [ne_eq, Nat.add_eq_zero_iff, ite_eq_right_iff]
  simp
  tauto

/-- The faults of R65 in the order of the mask and in the rule's order. -/
theorem faults_reorder {noBw lowBw lowMw noMr noRatio lowMr noCal sat : Prop} :
    (noBw ∨ lowBw) ∨ (lowMw ∨ ¬noMr ∧ noRatio) ∨ (lowMr ∨ noMr) ∨ noCal ∨ sat ↔
      sat ∨ noBw ∨ lowBw ∨ lowMw ∨ lowMr ∨ noMr ∨ noRatio ∨ noCal := by
  tauto

/-- What a completed collection leaves of STD (R67, R68). -/
theorem Device.completeStd_leaves (d : Device) : d.completeStd.std.phase = .idle ∧ d.completeStd.std.settings = d.std.settings ∧
    d.completeStd.std.last.map StdLast.result = some d.std.verdict ∧ d.completeStd.std.last.map StdLast.time = some d.now := by
  by_cases channel : d.std.verdict = .channel
  · rw [Device.completeStd_of_channel channel, Device.failStd_std]; exact ⟨rfl, rfl, rfl, rfl⟩
  by_cases drift : d.std.verdict = .drift
  · rw [Device.completeStd_of_drift drift, Device.failStd_std]; exact ⟨rfl, rfl, rfl, rfl⟩
  · rw [Device.completeStd_of_adopted channel drift, Device.adopt_std]; exact ⟨rfl, rfl, rfl, rfl⟩

theorem Device.completeStd_tells (d : Device) : d.completeStd.tells d [] := by
  obtain ⟨_, h⟩ := d.completeStd_lessAlarms
  exact Device.tells_of_lessAlarms h rfl

/-- STD_FAIL takes the code and the detail of the failure (R69). -/
theorem Device.failStd_value {d : Device} (idle : (d.entry srcStdFail).state = .idle) (l : StdLast) (n : Nat) :
    ((d.failStd l n).entry srcStdFail).value = some (codedValue (failCode l.result) n) :=
  Device.rise_value (d := d.setStd { d.std.toIdle with last := some l }) idle _

/-- STD_DRIFT takes the item and the size of the largest drift (R70). -/
theorem Device.adopt_value {d : Device} (idle : (d.entry srcStdDrift).state = .idle) {r : RefSet} {l : StdLast} {i v : Nat}
    (drifts : l.result = .adoptedDrift) :
    ((d.adopt r l (some (i, v))).entry srcStdDrift).value = some (codedValue i (sat16 v)) := by
  unfold Device.adopt
  simp only [drifts, if_true]
  refine Device.rise_value ?_ _
  rw [Device.fallIfActive_entry_of_ne _ (by decide)]
  exact idle

/-- Settles O40. -/
theorem standardizeIsJudged : Obligations.StandardizeIsJudged := by
  unfold Obligations.StandardizeIsJudged
  intro d s k rBw rMw rMr m d0 drift drifts faulty exceeds mask latched largest
  have maskIs : s.mask = mask := s.mask_eq
  have driftsAre : s.drifts = ⟨drift rBw s.calRbw, drift m s.calM, drift d0 s.calD0⟩ := s.drifts_eq
  have faultyIff : s.mask ≠ 0 ↔ faulty := by rw [maskIs]; exact mask_ne_zero_iff.trans faults_reorder
  have judged : ¬faulty → s.mask = 0 := fun sound => not_not.mp (mt faultyIff.mp sound)
  have list : [s.drifts.bw, s.drifts.m, s.drifts.d0] = drifts := by rw [driftsAre]
  have exceedsIff : ∀ limit, exceeds limit ↔ ∃ x, s.drifts.largest = some x ∧ limit < x.2 := fun limit => by
    have iff := exceeds_iff (bw := s.drifts.bw) (m := s.drifts.m) (d0 := s.drifts.d0) limit
    rw [list] at iff
    exact iff
  have channel : s.verdict = .channel ↔ faulty := s.verdict_channel.trans faultyIff
  have passes : ∀ r, r ≠ .channel → s.verdict = r → ¬faulty := fun r other v fault => other (v ▸ channel.mpr fault)
  obtain ⟨phase, settings, result, time⟩ := d.completeStd_leaves
  have largestIs : ∀ {v}, largest v → (s.drifts.largest.map Prod.snd).getD 0 = v := fun {v} ⟨mem, top⟩ => by
    have value := largestDrift_value (bw := s.drifts.bw) (m := s.drifts.m) (d0 := s.drifts.d0) (list ▸ mem) (list ▸ top)
    rw [Drifts.largest, value]; rfl
  refine ⟨channel, ?_, ?_, ?_, phase, settings, result, time, by simp, by simp, by simp, by simp,
    d.completeStd_tells, fun v => ?_, fun v isDrift top => ?_, fun v i isAdopted top at' first => ?_, ?failed, ?adopted⟩
  · exact ⟨fun v => ⟨passes _ (by decide) v, (exceedsIff _).mpr ((Std.verdict_of_pass (judged (passes _ (by decide) v))).1.mp v)⟩,
      fun ⟨sound, above⟩ => (Std.verdict_of_pass (judged sound)).1.mpr ((exceedsIff _).mp above)⟩
  · rw [exceedsIff, exceedsIff]
    exact ⟨fun v => ⟨passes _ (by decide) v, (Std.verdict_of_pass (judged (passes _ (by decide) v))).2.1.mp v⟩,
      fun ⟨sound, above⟩ => (Std.verdict_of_pass (judged sound)).2.1.mpr above⟩
  · rw [exceedsIff, exceedsIff]
    exact ⟨fun v => ⟨passes _ (by decide) v, (Std.verdict_of_pass (judged (passes _ (by decide) v))).2.2.mp v⟩,
      fun ⟨sound, above⟩ => (Std.verdict_of_pass (judged sound)).2.2.mpr above⟩
  · intro idle
    have code : (s.lastOf d.now ⟨none, none, none⟩).result = .channel := v
    rw [Device.completeStd_of_channel v, ← maskIs, Device.failStd_value idle, code]
    simp only [codedValue, failCode, s]
  · intro idle
    have code : (s.lastOf d.now s.drifts).result = .drift := isDrift
    rw [Device.completeStd_of_drift isDrift, Device.failStd_value idle, largestIs top, code]
    simp only [codedValue, failCode, sat16]
  · intro idle
    have item := largestDrift_item (bw := s.drifts.bw) (m := s.drifts.m) (d0 := s.drifts.d0) (list ▸ at') (list ▸ first) (list ▸ top.2)
    rw [Device.completeStd_of_adopted (by rw [isAdopted]; decide) (by rw [isAdopted]; decide),
      show s.drifts.largest = _ from item, Device.adopt_value idle isAdopted]
    simp only [codedValue, sat16]
  case failed =>
    intro fails
    have std : ∃ l n, d.completeStd = d.failStd l n := by
      rcases fails with v | v
      · exact ⟨_, _, Device.completeStd_of_channel v⟩
      · exact ⟨_, _, Device.completeStd_of_drift v⟩
    obtain ⟨l, n, same⟩ := std
    rw [same, Device.failStd_std]
    exact ⟨rfl, rfl, by simp, fun _ => by rw [Device.failStd_cond, if_neg (by decide)]⟩
  case adopted =>
    intro adopts
    have notChannel : s.verdict ≠ .channel := by rcases adopts with v | v <;> rw [v] <;> decide
    have notDrift : s.verdict ≠ .drift := by rcases adopts with v | v <;> rw [v] <;> decide
    have same := Device.completeStd_of_adopted (d := d) notChannel notDrift
    have cond := fun t => d.adopt_cond (adoptedRef s.sums.candidates d.now s.snapshot.reject s.drifts.bw s.drifts.m s.drifts.d0)
      (s.lastOf d.now s.drifts) s.drifts.largest t Std.largest_of_adoptedDrift
    rw [← same] at cond
    refine ⟨?_, ?_, ?_, ?_⟩
    · rw [cond]; rfl
    · rw [same, Device.adopt_std]; rfl
    · have ratio : s.sums.candidates.m.getD 0 = m := by
        by_cases h : s.sums.mr = 0 <;> simp [StdSums.candidates, m, h]
      have dark : s.sums.candidates.d0.getD 0 = d0 := by
        by_cases h : s.sums.calTotal = 0 <;> simp [StdSums.candidates, d0, h]
      have set : adoptedRef s.sums.candidates d.now s.snapshot.reject s.drifts.bw s.drifts.m s.drifts.d0 =
          ⟨d.now, rBw, m, d0, (drift rBw s.calRbw).map (fun v => min v 65535), (drift m s.calM).map (fun v => min v 65535),
            (drift d0 s.calD0).map (fun v => min v 65535), k.reject, 0⟩ := by
        rw [driftsAre, adoptedRef, ratio, dark]; rfl
      rw [same, Device.adopt_std, ← set]
    · rw [cond, if_pos rfl, decide_eq_true_eq]; rfl

end Sys2Proof.Machine
end

section
/-! PROOFS. The head's inputs, the encoder, and the acceptance of motion commands (R4, R5, R20, R44 to R46, R54, R55). -/

namespace Sys2Proof.Machine

/-! ## The head's inputs -/

/-- The row of an event that nothing settles after, while the part is not held in reset. -/
theorem exec_live {c : Instr} {s : State} {d e : Device} {act : Device → Device} (row : rowDevice c s.dev = d.live act)
    (awake : d.pins.reset = false) (acts : act d = e) : exec c s = s.becomes e :=
  exec_becomes (row.trans ((if_neg (Bool.eq_false_iff.mp awake)).trans acts))

/-- A row that reports no change does nothing (log 11). -/
theorem exec_no_edge {c : Instr} {s : State} {d : Device} {old new : Bool} {act : Device → Device}
    (row : rowDevice c s.dev = d.edge old new act) (same : old = new) : exec c s = s.becomes d :=
  exec_becomes (row.trans (if_pos same))

/-- A change of a level. -/
theorem edge_of_ne {d : Device} {old new : Bool} {act : Device → Device} (changes : old ≠ new) : d.edge old new act = act d :=
  if_neg changes

theorem Device.onSample_of_none {d : Device} (none : d.acq.sample = none) (f : OpenSample → OpenSample) : d.onSample f = d := by
  rw [Device.onSample, none, Option.map_none, ← none]; rfl

/-- A rising edge of CAL before any other (R45). -/
theorem Device.calRise_of_none {d : Device} (idle : d.acq.calStart = none) : d.calRise =
    d.setAcq { d.acq with calStart := some d.clk, calHigh := none, calTimeout := some (d.clk + 100000) } := by
  simp only [Device.calRise, idle]

/-- A rising edge of CAL that closes a period attributes it to the open sample (R45). -/
theorem Device.calRise_of_some {d : Device} {t : Nat} (start : d.acq.calStart = some t) : d.calRise =
    d.setAcq { d.acq with
      sample := d.acq.sample.map (fun o => o.addPeriod (d.acq.calHigh.getD 0) (d.clk - t))
      calStart := some d.clk, calHigh := none, calTimeout := some (d.clk + 100000) } := by
  simp only [Device.calRise, start]; rfl

/-- A falling edge of CAL in a period whose high time is open (R45). -/
theorem Device.calFall_of_running {d : Device} {t : Nat} (start : d.acq.calStart = some t) (running : d.acq.calHigh = none) :
    d.calFall = d.setAcq { d.acq with calHigh := some (d.clk - t) } := by
  rw [Device.calFall, start, running]

/-- A TACH edge (R54). -/
theorem Device.tachEdge_of_none {d : Device} (first : d.acq.tachEdge = none) : d.tachEdge =
    d.setAcq { d.acq with tachEdge := some d.clk, tachTimeout := some (d.clk + 2000000) } := by
  simp only [Device.tachEdge, show (d.setAcq { d.acq with tachTimeout := d.after 2000 }).acq.tachEdge = none from first]
  rfl

theorem Device.tachEdge_of_some {d : Device} {t : Nat} (before : d.acq.tachEdge = some t) : d.tachEdge =
    d.setAcq { d.acq with
      tachEdge := some d.clk, tachPeriod := some (max 1 (d.clk - t)), tachTimeout := some (d.clk + 2000000)
      speed := match d.acq.ppm with
        | none => 0
        | some q => min 30000 (600000000 / (max 1 (d.clk - t) * q)) } := by
  simp only [Device.tachEdge, show (d.setAcq { d.acq with tachTimeout := d.after 2000 }).acq.tachEdge = some t from before]
  rfl

/-- Settles O38. -/
theorem headInputsCount : Obligations.HeadInputsCount := by
  unfold Obligations.HeadInputsCount
  intro s dt t h v o d x sampled calHigh edgeAt awake
  have rises : d.pins.cal = false → ∀ {e}, Device.calRise (d.setPins { d.pins with cal := true }) = e →
      exec (.calRisingEdge dt) s = s.becomes e := fun low e acts =>
    exec_live (d := d.setPins { d.pins with cal := true }) ((row_calRisingEdge ..).trans (edge_of_ne (Bool.eq_false_iff.mp low)))
      awake acts
  have falls : d.pins.cal = true → ∀ {e}, Device.calFall (d.setPins { d.pins with cal := false }) = e →
      exec (.calFallingEdge dt) s = s.becomes e := fun high e acts =>
    exec_live (d := d.setPins { d.pins with cal := false })
      ((row_calFallingEdge ..).trans (edge_of_ne (by rw [show (s.dev.advance dt).pins.cal = true from high]; decide))) awake acts
  refine ⟨fun none ch => exec_live (row_channelPulseEdge ..) awake (Device.onSample_of_none none _),
    fun open' => ⟨?_, ?_, ?_⟩, fun high => exec_no_edge (row_calRisingEdge ..) high, fun low idle => rises low ?_,
    fun low start fell open' => rises low ?_, fun high start running => falls high ?_, fun high idle => falls high ?_,
    fun runs => exec_becomes ((row_calPeriodTimeout ..).trans ?_), fun same => exec_no_edge (row_sheetPresentChange ..) same,
    fun change => exec_becomes ((row_sheetPresentChange ..).trans (edge_of_ne change)),
    fun none => exec_live (row_tachRisingEdge ..) awake ?_, fun before => exec_live (row_tachRisingEdge ..) awake ?_,
    fun runs => exec_becomes ((row_tachTimeout ..).trans ?_)⟩
  iterate 3
    refine exec_live (row_channelPulseEdge ..) awake ?_
    rw [Device.onSample, show (s.dev.advance dt).acq.sample = some o from open']
    rfl
  · rcases idle with none | none
    · exact Device.calRise_of_none (d := d.setPins { d.pins with cal := true }) none
    · cases start : d.acq.calStart with
      | none => exact Device.calRise_of_none (d := d.setPins { d.pins with cal := true }) start
      | some u =>
        rw [Device.calRise_of_some (d := d.setPins { d.pins with cal := true }) start]
        simp only [calHigh, Device.setPins_acq, none, Option.map_none]
        rfl
  · rw [Device.calRise_of_some (d := d.setPins { d.pins with cal := true }) start]
    simp only [Device.setPins_acq, fell, open', Option.map_some, Option.getD_some]
    rfl
  · exact Device.calFall_of_running (d := d.setPins { d.pins with cal := false }) start running
  · simp only [Device.calFall, show (d.setPins { d.pins with cal := false }).acq.calStart = none from idle]
  · rw [show (s.dev.advance dt).acq.calTimeout = some t from runs]; rfl
  · exact Device.tachEdge_of_none none
  · exact Device.tachEdge_of_some before
  · rw [show (s.dev.advance dt).acq.tachTimeout = some t from runs]; rfl

/-! ## The encoder -/

theorem Device.sampleEncoder_first {d : Device} (first : d.trv.sampling = none) (a b : Bool) :
    d.sampleEncoder a b = d.setTrv { d.trv with sampling := some (a, b) } := by
  simp only [Device.sampleEncoder, first]

/-- A sampling that shows the same levels does nothing (R4). -/
theorem Device.sampleEncoder_same {d : Device} {a b : Bool} (last : d.trv.sampling = some (a, b)) : d.sampleEncoder a b = d := by
  have same : d.setTrv { d.trv with sampling := some (a, b) } = d := by rw [← last]; rfl
  simp [Device.sampleEncoder, last, same]

/-- A sampling with one line changed is a step (R4). -/
theorem Device.sampleEncoder_step {d : Device} {a0 b0 a b : Bool} (last : d.trv.sampling = some (a0, b0))
    (changed : a ≠ a0 ∨ b ≠ b0) (legal : ¬(a ≠ a0 ∧ b ≠ b0)) :
    d.sampleEncoder a b = (d.setTrv { d.trv with sampling := some (a, b) }).takeStep (stepUp a0 b0 a b) := by
  simp only [Device.sampleEncoder, last]
  rw [if_neg legal, if_pos changed]

/-- A sampling with both lines changed is an illegal transition (R5). -/
theorem Device.sampleEncoder_illegal {d : Device} {a0 b0 a b : Bool} (last : d.trv.sampling = some (a0, b0))
    (both : a ≠ a0 ∧ b ≠ b0) : d.sampleEncoder a b = (d.setTrv { d.trv with sampling := some (a, b) }).takeIllegal := by
  simp only [Device.sampleEncoder, last]
  rw [if_pos both]

/-- The samplings that step up, by R4's table. -/
theorem stepUp_of_up : ∀ a0 b0 a b : Bool, (a0, b0, a, b) ∈ [(false, false, true, false), (true, true, false, true),
    (true, false, true, true), (false, true, false, false)] →
    (a ≠ a0 ∨ b ≠ b0) ∧ ¬(a ≠ a0 ∧ b ≠ b0) ∧ stepUp a0 b0 a b = true := by decide

/-- The samplings that step down, by R4's table. -/
theorem stepUp_of_down : ∀ a0 b0 a b : Bool, (a0, b0, a, b) ∈ [(false, true, true, true), (true, false, false, false),
    (false, false, false, true), (true, true, true, false)] →
    (a ≠ a0 ∨ b ≠ b0) ∧ ¬(a ≠ a0 ∧ b ≠ b0) ∧ stepUp a0 b0 a b = false := by decide

/-- Outside SCAN and the run-ups a step does no more than count (R28, R30, R49). -/
theorem Device.afterStep_still {d : Device} (notScan : d.trv.state ≠ .scan)
    (noRunUp : d.trv.state = .approach ∨ d.trv.state = .turn → ∀ side, d.trv.motion ≠ .runUp side) (up : Bool) :
    d.afterStep up = d := by
  unfold Device.afterStep
  cases state : d.trv.state with
  | scan => exact absurd state notScan
  | approach | turn =>
    cases motion : d.trv.motion with
    | runUp side => exact absurd motion (noRunUp (by simp [state]) side)
    | _ => rfl
  | _ => rfl

/-- A step inside the coordinate, or of a head without a position (R4). -/
theorem Device.takeStep_counts {d : Device} {up : Bool} (stays : ¬(d.trv.homed = true ∧ stepWraps up d.trv.counter = true)) :
    d.takeStep up =
      (d.setTrv { d.trv with counter := stepCounter up d.trv.counter, restTimer := some (d.clk + 100000) }).afterStep up :=
  if_neg stays

/-- A step of a homed head across the end of the coordinate (R4, R6). -/
theorem Device.takeStep_wraps {d : Device} {up : Bool} (homed : d.trv.homed = true) (wraps : stepWraps up d.trv.counter = true) :
    d.takeStep up =
      (d.setTrv { d.trv with counter := stepCounter up d.trv.counter, restTimer := some (d.clk + 100000) }).losePosition 3
        d.trv.counter :=
  if_pos ⟨homed, wraps⟩

theorem stepCounter_up {c : Nat} (room : c < 262143) : stepCounter true c = c + 1 := by
  rw [stepCounter, if_pos rfl, Nat.mod_eq_of_lt (by omega)]

theorem stepCounter_down {c : Nat} (pos : 0 < c) (room : c ≤ 262143) : stepCounter false c = c - 1 := by
  rw [stepCounter, if_neg (by decide)]; omega

/-- Settles O22. -/
theorem legalStepCounts : Obligations.LegalStepCounts := by
  unfold Obligations.LegalStepCounts
  intro s dt a0 b0 a b d x stepped still up down awake inside
  refine ⟨fun first => exec_ends (row_legalStep ..) awake (Device.sampleEncoder_first first a b), fun last => ?_⟩
  let e := d.setTrv { d.trv with sampling := some (a, b) }
  have goesUp : up → exec (.legalStep dt a b) s = s.ends (e.takeStep true) := fun h => by
    obtain ⟨changed, legal, dir⟩ := stepUp_of_up a0 b0 a b h
    exact exec_ends (row_legalStep ..) awake (dir ▸ Device.sampleEncoder_step last changed legal)
  have goesDown : down → exec (.legalStep dt a b) s = s.ends (e.takeStep false) := fun h => by
    obtain ⟨changed, legal, dir⟩ := stepUp_of_down a0 b0 a b h
    exact exec_ends (row_legalStep ..) awake (dir ▸ Device.sampleEncoder_step last changed legal)
  have counts : still → ∀ v n, stepCounter v x = n → (d.trv.homed = true → stepWraps v x = false) → e.takeStep v = stepped n := by
    intro still v n counter stays
    have stays' : ¬(e.trv.homed = true ∧ stepWraps v e.trv.counter = true) := fun ⟨homed, wraps⟩ =>
      absurd wraps (Bool.eq_false_iff.mp (stays homed))
    rw [Device.takeStep_counts stays', show stepCounter v e.trv.counter = n from counter]
    exact Device.afterStep_still (d := stepped n) still.1 still.2 v
  refine ⟨fun same same' => ?_, fun h room still' => ?_, fun h pos still' => ?_, fun h top lost still' => ?_,
    fun h zero lost still' => ?_, fun h top homed => ?_, fun h zero homed => ?_⟩
  · subst same same'
    exact exec_ends (row_legalStep ..) awake (Device.sampleEncoder_same last)
  · rw [goesUp h, counts still' true (x + 1) (stepCounter_up room) fun _ => decide_eq_false (by omega)]
  · rw [goesDown h, counts still' false (x - 1) (stepCounter_down pos inside) fun _ => decide_eq_false (by omega)]
  · rw [goesUp h, counts still' true 0 (by rw [top]; rfl) fun homed => by rw [lost] at homed; cases homed]
  · rw [goesDown h, counts still' false 262143 (by rw [zero]; rfl) fun homed => by rw [lost] at homed; cases homed]
  · have count : e.trv.counter = 262143 := top
    rw [goesUp h, Device.takeStep_wraps (d := e) homed (by rw [count]; rfl), count]; rfl
  · have count : e.trv.counter = 0 := zero
    rw [goesDown h, Device.takeStep_wraps (d := e) homed (by rw [count]; rfl), count]; rfl

/-! ## The acceptance of motion commands -/

section
variable {d : Device} {f : Frame} {n : Nat} {v : Verdict} {check : Option ReplyCode} {start : Device → Device}
  (len : f.payload.length = n)
include len

theorem motionCommand_refuses {c : ReplyCode} (row : v = .refuse c) :
    d.motionCommand f n v check start = (d, some (.only c)) :=
  (if_neg (not_not.mpr len)).trans (by rw [row])

theorem motionCommand_fails {c : ReplyCode} (row : v = .taken) (fails : check = some c) :
    d.motionCommand f n v check start = (d, some (.only c)) :=
  (if_neg (not_not.mpr len)).trans (by rw [row, fails])

theorem motionCommand_answers (row : v = .okNoDone) :
    d.motionCommand f n v check start = (d.motionTaken, some (.ok [])) :=
  (if_neg (not_not.mpr len)).trans (by rw [row])

theorem motionCommand_accepts (row : v = .taken) (passes : check = none) :
    d.motionCommand f n v check start = (start d.motionTaken, some (.only .accepted)) :=
  (if_neg (not_not.mpr len)).trans (by rw [row, passes])
end

section
variable {d : Device}

/-- The states in which R20's table answers BUSY to most commands, with POINT's and SCAN's own. -/
def TravState.busy (st : TravState) : Prop := st = .standardizing ∨ st = .approach ∨ st = .scan ∨ st = .turn ∨ st = .point

theorem homeVerdict_busy (h : d.trv.state = .homing ∨ d.trv.state.busy ∨ d.trv.state = .parking ∨
    d.trv.state = .halted ∧ d.trv.enable = true) : d.homeVerdict = .refuse .busy := by
  unfold Device.homeVerdict
  rcases h with h | (h | h | h | h | h) | h | ⟨h, moving⟩ <;> simp [*]

theorem homeVerdict_free (h : d.trv.state = .unhomed ∨ d.trv.state = .parked ∨ d.trv.state = .halted ∧ d.trv.enable = false) :
    d.homeVerdict = .taken := by
  unfold Device.homeVerdict
  rcases h with h | h | ⟨h, still⟩ <;> simp [*]

theorem parkVerdict_state (h : d.trv.state = .unhomed ∨ d.trv.state = .halted ∧ d.trv.homed = false) :
    d.parkVerdict = .refuse .state := by
  unfold Device.parkVerdict
  rcases h with h | ⟨h, lost⟩ <;> simp [*]

theorem parkVerdict_busy (h : d.trv.state = .homing ∨ d.trv.state = .parking) : d.parkVerdict = .refuse .busy := by
  unfold Device.parkVerdict
  rcases h with h | h <;> rw [h]

theorem parkVerdict_free (h : d.trv.state.busy ∨ d.trv.state = .halted ∧ d.trv.homed = true) : d.parkVerdict = .taken := by
  unfold Device.parkVerdict
  rcases h with (h | h | h | h | h) | ⟨h, homed⟩ <;> simp [*]

theorem measureVerdict_unconfigured (h : d.trv.state = .unhomed ∨ (d.trv.state = .halted ∧ d.trv.enable = false) ∧ d.trv.homed = false) :
    d.measureVerdict = .refuse .unconfigured := by
  unfold Device.measureVerdict
  rcases h with h | ⟨⟨h, still⟩, lost⟩ <;> simp [*]

theorem measureVerdict_busy (h : d.trv.state = .homing ∨ d.trv.state.busy ∨ d.trv.state = .parking ∨
    d.trv.state = .halted ∧ d.trv.enable = true) : d.measureVerdict = .refuse .busy := by
  unfold Device.measureVerdict
  rcases h with h | (h | h | h | h | h) | h | ⟨h, moving⟩ <;> simp [*]

theorem measureVerdict_ready (h : d.trv.state = .parked ∨ (d.trv.state = .halted ∧ d.trv.enable = false) ∧ d.trv.homed = true) :
    d.measureVerdict = .taken := by
  unfold Device.measureVerdict
  rcases h with h | ⟨⟨h, still⟩, homed⟩ <;> simp [*]

theorem standardizeVerdict_state (h : d.trv.state = .unhomed ∨ d.trv.state = .halted) : d.standardizeVerdict = .refuse .state := by
  unfold Device.standardizeVerdict
  rcases h with h | h <;> rw [h]

theorem standardizeVerdict_busy (h : d.trv.state = .homing ∨ d.trv.state.busy ∨ d.trv.state = .parking) :
    d.standardizeVerdict = .refuse .busy := by
  unfold Device.standardizeVerdict
  rcases h with h | (h | h | h | h | h) | h <;> rw [h]

theorem standardizeVerdict_parked (h : d.trv.state = .parked) : d.standardizeVerdict = .taken := by
  rw [Device.standardizeVerdict, h]

theorem stopVerdict_rest (h : d.trv.state = .unhomed ∨ d.trv.state = .halted) : d.stopVerdict = .okNoDone := by
  unfold Device.stopVerdict
  rcases h with h | h <;> rw [h]

theorem frameCheck_none (h : d.trv.frame = none) : d.frameCheck = some .unconfigured := if_pos h

/-- What an answered or begun motion command leaves before it begins (R20). -/
theorem Device.motionTaken_eq (d : Device) :
    d.motionTaken = (if d.pins.ready then d.fallIfActive srcDriveFault else d).setTrv { d.trv with resume := none } := by
  unfold Device.motionTaken
  dsimp only
  split
  · rw [Device.fallIfActive_trv]
  · rfl

/-- The later checks of SCAN and POINT (R20). -/
theorem measureCheck_shutter (h : d.cond srcShutter = true) : d.measureCheck = some .state := if_pos h

theorem measureCheck_sheet (h : d.cond srcShutter = false) (k : d.brk.sheet ≠ .running) : d.measureCheck = some .sheet :=
  (if_neg (Bool.eq_false_iff.mp h)).trans (if_pos k)

theorem measureCheck_link (h : d.cond srcShutter = false) (k : d.brk.sheet = .running) (l : d.lnk.link ≠ .good) :
    d.measureCheck = some .link :=
  (if_neg (Bool.eq_false_iff.mp h)).trans ((if_neg (not_not.mpr k)).trans (if_pos l))

theorem scanCheck_missing (h : d.trv.frame = none ∨ d.trv.active = none) : d.scanCheck = some .unconfigured := by
  unfold Device.scanCheck Device.rangeInForce
  rcases h with h | h
  · rw [h]
  · cases d.trv.frame <;> simp [h]

theorem pointCheck_missing (h : d.trv.frame = none ∨ d.trv.active = none) (pos : Nat) : d.pointCheck pos = some .unconfigured := by
  unfold Device.pointCheck
  rcases h with h | h
  · rw [h]
  · cases d.trv.frame <;> simp [h]

/-- SCAN's check with both records in force (R20, R22). -/
theorem scanCheck_eq {f : FrameRecord} {k : ScanSettings} (frame : d.trv.frame = some f) (active : d.trv.active = some k) :
    d.scanCheck = if !((effectiveRange f k).usable k.pitch) || (d.scanNeedsStd && d.std.settings.isNone) then some .unconfigured
      else d.measureCheck := by
  simp only [Device.scanCheck, Device.rangeInForce, frame, active]

theorem pointCheck_eq {f : FrameRecord} {k : ScanSettings} (frame : d.trv.frame = some f) (active : d.trv.active = some k) (pos : Nat) :
    d.pointCheck pos = if 262143 < pos ∨ pos < f.softLow ∨ f.softHigh < pos then some .badValue else d.measureCheck := by
  simp only [Device.pointCheck, frame, active]

theorem scanNeedsStd_iff : d.scanNeedsStd = true ↔ d.trv.planCount = 0 ∨ d.std.ref = none := by
  simp [Device.scanNeedsStd]

theorem measureCheck_of_passes {f : FrameRecord} {k : ScanSettings} (frame : d.trv.frame = some f) (active : d.trv.active = some k)
    (usable : (effectiveRange f k).usable k.pitch = true) (ready : ¬(d.scanNeedsStd = true ∧ d.std.settings = none)) :
    d.scanCheck = d.measureCheck := by
  rw [scanCheck_eq frame active, if_neg]
  simpa [usable] using ready
end

/-- Settles O32: the table row of each state, then the checks in their order. -/
theorem motionCommandsAreJudged : Obligations.MotionCommandsAreJudged := by
  unfold Obligations.MotionCommandsAreJudged
  intro s dt tag p d st no busy standing ready answered due usable later hd
  have refuse : ∀ (h : Handler) (kind : Byte) (c : ReplyCode) (q : List Byte), c ≠ .badKind →
      h ⟨kind, tag, q⟩ d = (d, some (.only c)) → s.command dt h kind tag q = no (kind + 0x80) c.code :=
    fun h kind c q known answer => State.command_refused hd known answer
  have answers : ∀ (h : Handler) (kind : Byte), h ⟨kind, tag, []⟩ d = (d.motionTaken, some (.ok [])) →
      s.command dt h kind tag [] = s.replies answered (kind + 0x80) tag [0, 0] := fun h kind answer =>
    (State.command_ok hd answer).trans (by rw [Device.motionTaken_eq]; rfl)
  refine ⟨?_, ?_, ?_, ?_, ?_, ?_, ?_, ?_, ?_, ?_, ?_, ?_, ?_, ?_, ?_⟩
  · exact fun h => refuse Device.home 0x18 .busy [] (by decide) (motionCommand_refuses rfl (homeVerdict_busy h))
  · exact fun h none => refuse Device.home 0x18 .unconfigured [] (by decide)
      (motionCommand_fails rfl (homeVerdict_free h) (frameCheck_none none))
  · exact fun h => refuse Device.park 0x19 .state [] (by decide) (motionCommand_refuses rfl (parkVerdict_state h))
  · exact fun h => refuse Device.park 0x19 .busy [] (by decide) (motionCommand_refuses rfl (parkVerdict_busy h))
  · exact fun h => answers Device.park 0x19 (motionCommand_answers rfl (by rw [Device.parkVerdict, show d.trv.state = .parked from h]))
  · exact fun h none => refuse Device.park 0x19 .unconfigured [] (by decide)
      (motionCommand_fails rfl (parkVerdict_free h) (frameCheck_none none))
  · exact fun h => ⟨refuse Device.scan 0x1A .unconfigured [] (by decide) (motionCommand_refuses rfl (measureVerdict_unconfigured h)),
      fun len => refuse Device.point 0x1B .unconfigured p (by decide) (motionCommand_refuses len (measureVerdict_unconfigured h))⟩
  · exact fun h => ⟨refuse Device.scan 0x1A .busy [] (by decide) (motionCommand_refuses rfl (measureVerdict_busy h)),
      fun len => refuse Device.point 0x1B .busy p (by decide) (motionCommand_refuses len (measureVerdict_busy h))⟩
  · exact fun h missing => ⟨refuse Device.scan 0x1A .unconfigured [] (by decide)
        (motionCommand_fails rfl (measureVerdict_ready h) (scanCheck_missing missing)),
      fun len => refuse Device.point 0x1B .unconfigured p (by decide)
        (motionCommand_fails len (measureVerdict_ready h) (pointCheck_missing missing _))⟩
  · intro f k at' frame active
    have usableIff : (effectiveRange f k).usable k.pitch = true ↔ usable f k := decide_eq_true_iff
    have taken := measureVerdict_ready at'
    have laterOf : ∀ (h : Handler) (kind : Byte) (q : List Byte) (c : Instr), exec c s = s.command dt h kind tag q →
        (∀ x, d.measureCheck = some x → h ⟨kind, tag, q⟩ d = (d, some (.only x))) → later (kind + 0x80) c := by
      intro h kind q c row fails
      refine ⟨fun shut => ?_, fun open' sheet => ?_, fun open' sheet link => ?_⟩
      all_goals rw [row]
      · exact refuse h kind .state q (by decide) (fails _ (measureCheck_shutter shut))
      · exact refuse h kind .sheet q (by decide) (fails _ (measureCheck_sheet open' sheet))
      · exact refuse h kind .link q (by decide) (fails _ (measureCheck_link open' sheet link))
    refine ⟨fun bad => ?_, fun good noStd => ?_, fun len => ⟨fun bad => ?_, fun inside low high => ?_⟩⟩
    · refine refuse Device.scan 0x1A .unconfigured [] (by decide) (motionCommand_fails rfl taken ?_)
      rw [scanCheck_eq frame active]
      refine if_pos ?_
      rcases bad with unusable | ⟨isDue, unset⟩
      · simp [Bool.eq_false_iff.mpr (mt usableIff.mp unusable)]
      · simp [scanNeedsStd_iff.mpr isDue, show d.std.settings = none from unset]
    · refine laterOf Device.scan 0x1A [] _ rfl fun x fails => motionCommand_fails rfl taken ?_
      rw [measureCheck_of_passes frame active (usableIff.mpr good) fun ⟨needs, unset⟩ => noStd ⟨scanNeedsStd_iff.mp needs, unset⟩]
      exact fails
    · exact refuse Device.point 0x1B .badValue p (by decide) (motionCommand_fails len taken ((pointCheck_eq frame active _).trans (if_pos bad)))
    · refine laterOf Device.point 0x1B p _ rfl fun x fails => motionCommand_fails len taken ?_
      have within : ¬(262143 < field p 0 4 ∨ field p 0 4 < f.softLow ∨ f.softHigh < field p 0 4) := by omega
      exact ((pointCheck_eq frame active _).trans (if_neg within)).trans fails
  · exact fun h => refuse Device.standardize 0x1C .state [] (by decide) (motionCommand_refuses rfl (standardizeVerdict_state h))
  · exact fun h => refuse Device.standardize 0x1C .busy [] (by decide) (motionCommand_refuses rfl (standardizeVerdict_busy h))
  · exact fun h unset => refuse Device.standardize 0x1C .unconfigured [] (by decide)
      (motionCommand_fails rfl (standardizeVerdict_parked h) (if_pos unset))
  · exact fun h configured => ⟨fun shut => refuse Device.standardize 0x1C .state [] (by decide)
        (motionCommand_fails rfl (standardizeVerdict_parked h) ((if_neg configured).trans (if_pos shut))),
      fun open' lost => refuse Device.standardize 0x1C .link [] (by decide) (motionCommand_fails rfl (standardizeVerdict_parked h)
        ((if_neg configured).trans ((if_neg (Bool.eq_false_iff.mp open')).trans (if_pos lost))))⟩
  · exact fun h => answers Device.stop 0x1D (motionCommand_answers rfl (stopVerdict_rest h))

end Sys2Proof.Machine
end


section
/-! PROOFS. Halts: what a scan's aborted close, an entry to HALTED, an immediate halt and a lost position leave, each said once;
illegal transitions (O25), the frame's switches (O27), the drive's supervision (O28). -/

namespace Sys2Proof.Machine

/-! ## What an event tells -/

section
variable {d e x : Device} {fs gs : List Frame}

theorem Device.tells_of_same (h : e.tells d fs) (same : x.lnk = e.lnk) : x.tells d fs := by
  unfold Device.tells at *; rw [same]; exact h

theorem Device.tells_from (h : x.tells e fs) (same : e.lnk = d.lnk) : x.tells d fs :=
  Device.tells_trans (Device.tells_of_lnk same) h

theorem Device.tells_of_alarms (h : e.tells d fs) (same : x.lessAlarms = e.lessAlarms) : x.tells d fs := by
  have k := Device.tells_trans h (Device.tells_of_lessAlarms same rfl)
  rwa [List.append_nil] at k

theorem Device.tells_rise (h : e.tells d fs) (s : Fin 24) (v : Nat) : (e.rise s v).tells d fs :=
  Device.tells_of_alarms h (e.rise_lessAlarms s v)

theorem Device.tells_endOp (h : e.tells d fs) (r : OpResult) : (e.endOp r none).tells d (fs ++ e.opDone r.code e.trv.state.code) :=
  Device.tells_trans h (e.endOp_tells r)
end

theorem Device.cond_of_entry {d e : Device} {a : Fin 24} (h : e.entry a = d.entry a) : e.cond a = d.cond a := congrArg AlarmEntry.live h

/-! ## The traverse's fields after each operation -/

section
variable (d : Device)

theorem Device.enterHalted_trv : d.enterHalted.trv =
    { d.trv with
      state := .halted, resume := if d.trv.state = .halted then d.trv.resume else none,
      openCmd := if d.trv.state = .halted then d.trv.openCmd else false,
      mismatch := if d.trv.state = .halted then d.trv.mismatch else d.mismatchAt false } := by
  unfold Device.enterHalted
  by_cases h : d.trv.state = .halted
  · rw [if_pos h, if_pos h, if_pos h, if_pos h, ← h]
  · rw [if_neg h, Device.goTo_trv]; simp [h, TravState.opens]

/-- The state that a halted traverse has by R15: UNHOMED where it stands without a position. -/
def Trv.haltedState (t : Trv) : TravState :=
  if t.homed = false ∧ t.enable = false ∧ t.restTimer = none then .unhomed else .halted

theorem Device.atRest_iff : d.atRest = true ↔ d.trv.enable = false ∧ d.trv.restTimer = none := by
  simp [Device.atRest]

theorem Device.restRule_of_halted (h : d.trv.state = .halted) :
    d.restRule = if d.trv.haltedState = .halted then d else d.goTo .unhomed := by
  have rest := d.atRest_iff
  unfold Device.restRule Trv.haltedState
  by_cases k : d.trv.homed = false ∧ d.trv.enable = false ∧ d.trv.restTimer = none
  · rw [if_pos ⟨h, k.1, rest.mpr k.2⟩, if_pos k]; rfl
  · rw [if_neg fun c => k ⟨c.2.1, rest.mp c.2.2⟩, if_neg k]; rfl

theorem Device.restRule_trv_state (h : d.trv.state = .halted) : d.restRule.trv.state = d.trv.haltedState := by
  rw [d.restRule_of_halted h, Trv.haltedState]
  split <;> simp_all

/-- What an entry to HALTED keeps: whatever an entry to any state keeps. -/
theorem Device.enterHalted_keeps {α : Type} (p : Device → α) (h : ∀ e : Device, p (e.goTo .halted) = p e) : p d.enterHalted = p d := by
  unfold Device.enterHalted; split
  · rfl
  · exact h d

/-- What the rule of R15 keeps: whatever an entry to UNHOMED keeps. -/
theorem Device.restRule_keeps {α : Type} (p : Device → α) (h : ∀ e : Device, p (e.goTo .unhomed) = p e) : p d.restRule = p d := by
  unfold Device.restRule; split
  · exact h d
  · rfl

theorem Device.dropEnable_restTimer : d.dropEnable.trv.restTimer = if d.trv.enable then some (d.clk + 100000) else d.trv.restTimer := by
  unfold Device.dropEnable; split <;> simp_all [Device.after]

theorem Device.superviseShutter_entry {t : Fin 24} (other : t ≠ srcShutter) : d.superviseShutter.entry t = d.entry t := by
  unfold Device.superviseShutter; split
  · exact Device.fallIfActive_entry_of_ne _ other
  · rfl

theorem Device.commandShutter_entry {t : Fin 24} (other : t ≠ srcShutter) (v : Bool) : (d.commandShutter v).entry t = d.entry t := by
  unfold Device.commandShutter; split
  · rfl
  · exact Device.superviseShutter_entry _ other

theorem Device.goTo_entry {t : Fin 24} (other : t ≠ srcShutter) (st : TravState) : (d.goTo st).entry t = d.entry t :=
  Device.commandShutter_entry _ other _

/-! ## Scans and collections that end -/

/-- An aborted close is the profile block's alone: LATEST, and a report prepared or skipped (R101, R106). -/
theorem Device.closeScan_aborted_only {c : Completion} (aborted : c ≠ .complete) : ∃ p : Prf, d.closeScan c = d.setPrf p ∧
    p.openScan = none ∧ p.filtered = d.prf.filtered ∧ p.reseed = d.prf.reseed ∧ (d.prf.openScan = none → p = d.prf) ∧
    (∀ w ∈ d.prf.openScan, p.latest = some (w.finish ((d.trv.active.map ScanSettings.minSamples).getD 1) d.now c)) := by
  cases h : d.prf.openScan with
  | none => exact ⟨d.prf, Device.closeScan_of_none c h, h, rfl, rfl, fun _ => rfl, nofun⟩
  | some o =>
    rw [Device.closeScan_of_some c h, if_neg aborted]
    obtain ⟨r, n, report⟩ := Device.prepareReport_only (d.setPrf { d.prf with
      openScan := none, latest := some (o.finish ((d.trv.active.map ScanSettings.minSamples).getD 1) d.now c) }) c
    exact ⟨_, report, rfl, rfl, rfl, nofun, fun w hw => by rw [Option.mem_some.mp hw]; rfl⟩

theorem Device.abandonStd_std : d.abandonStd.std =
    if d.std.phase = .idle then d.std else { d.std.toIdle with last := some (.bare .aborted d.now d.std.received) } := by
  unfold Device.abandonStd; split <;> rfl

theorem Device.abandonStd_ref : d.abandonStd.std.ref = d.std.ref := by
  rw [Device.abandonStd_std]; split <;> rfl

theorem Device.abandonStd_last (busy : d.std.phase ≠ .idle) : d.abandonStd.std.last.map StdLast.result = some .aborted := by
  rw [Device.abandonStd_std, if_neg busy]; rfl

/-- The DONE of an operation that a fault ends. -/
theorem Device.opDone_faultResult (st : Byte) : d.opDone d.faultResult.code st = d.faultDone st := by
  unfold Device.opDone Device.faultDone Device.faultResult Device.opKind
  cases d.trv.op with
  | none => rfl
  | some o =>
    by_cases k : o.kind = .standardize
    · simp [k]; rfl
    · simp [k]; rfl

theorem Device.opDone_congr {d e : Device} (same : e.trv.op = d.trv.op) (r st : Byte) : e.opDone r st = d.opDone r st := by
  unfold Device.opDone; rw [same]

theorem Device.faultDone_congr {d e : Device} (same : e.trv.op = d.trv.op) (st : Byte) : e.faultDone st = d.faultDone st := by
  unfold Device.faultDone; rw [same]

/-! ## The immediate halt -/

/-- What an immediate halt leaves (R15, R16, R34, R43). -/
structure Device.HaltedFrom (e d : Device) : Prop where
  enable : e.trv.enable = false
  commanded : e.trv.commanded = 0
  target : e.trv.target = 0
  motion : e.trv.motion = .rest
  op : e.trv.op = none
  counter : e.trv.counter = d.trv.counter
  homed : e.trv.homed = d.trv.homed
  active : e.trv.active = d.trv.active
  pending : e.trv.pending = d.trv.pending
  range : e.trv.range = d.trv.range
  planCount : e.trv.planCount = d.trv.planCount
  resume : e.trv.resume = none ∨ e.trv.resume = d.trv.resume
  shut : d.trv.openCmd = false ∨ d.trv.state ≠ .halted → e.trv.openCmd = false
  sample : d.acq.sample = none → d.acq.sampleTimer = none → e.acq.sample = none ∧ e.acq.sampleTimer = none
  openScan : e.prf.openScan = none
  filtered : e.prf.filtered = d.prf.filtered ∧ e.prf.reseed = d.prf.reseed
  prf : d.prf.openScan = none → e.prf = d.prf
  latest : ∀ w ∈ d.prf.openScan, e.prf.latest = some (w.finish ((d.trv.active.map ScanSettings.minSamples).getD 1) d.now .abortedFault)
  std : e.std = d.abandonStd.std
  cnv : e.cnv = d.cnv
  win : e.win = d.win
  brk : e.brk = d.brk
  pins : e.pins = d.pins
  tells : e.tells d (d.faultDone 9)

/-- The halt before the operation ends: ENABLE low, scan and collection ended, HALTED (R15). -/
def Device.haltedStill (d : Device) : Device := (d.dropEnable.closeScan .abortedFault).abandonStd.enterHalted

theorem Device.haltAtOnce_eq : d.haltAtOnce = (d.haltedStill.endOp d.haltedStill.faultResult none).restRule := rfl

theorem Device.haltedStill_trv : d.haltedStill.trv =
    { d.dropEnable.trv with
      state := .halted, resume := if d.trv.state = .halted then d.trv.resume else none,
      openCmd := if d.trv.state = .halted then d.trv.openCmd else false,
      mismatch := if d.trv.state = .halted then d.trv.mismatch else d.mismatchAt false } := by
  simp [Device.haltedStill, Device.enterHalted_trv, Device.mismatchAt, Device.after]

/-- The fields of TRV that the entry to UNHOMED leaves. -/
theorem Device.haltAtOnce_trv_of {α : Type} {q : Trv → α} (h : ∀ e : Device, q (e.goTo .unhomed).trv = q e.trv) :
    q d.haltAtOnce.trv = q { d.haltedStill.trv with op := none } := by
  rw [Device.haltAtOnce_eq, Device.restRule_keeps _ (fun e => q e.trv) h, Device.endOp_trv]

/-- A halt that ends a motion stops the drive (R15). -/
theorem Device.haltAtOnce_drive (on : d.trv.enable = true) :
    d.haltAtOnce.trv.speedRef = false ∧ d.haltAtOnce.trv.periodDue = none ∧ d.haltAtOnce.trv.highDue = none ∧
    d.haltAtOnce.trv.stall = none ∧ d.haltAtOnce.trv.restTimer = some (d.clk + 100000) := by
  have rested {α : Type} (q : Trv → α) := d.haltAtOnce_trv_of (q := q)
  rw [rested Trv.speedRef (by simp), rested Trv.periodDue (by simp), rested Trv.highDue (by simp), rested Trv.stall (by simp),
    rested Trv.restTimer (by simp), d.haltedStill_trv]
  simp [Device.dropEnable, on, Device.after]

theorem Device.haltAtOnce_state : d.haltAtOnce.trv.state = d.trv.haltedState := by
  have trv := d.haltedStill_trv
  rw [Device.haltAtOnce_eq, Device.restRule_trv_state _ (by rw [Device.endOp_trv, trv]), Device.endOp_trv, trv]
  unfold Trv.haltedState
  simp only [Device.dropEnable_homed, Device.dropEnable_enable, Device.dropEnable_restTimer]
  cases d.trv.enable <;> simp

theorem Device.haltAtOnce_halts : d.haltAtOnce.HaltedFrom d := by
  obtain ⟨p, closes, openScan, filtered, reseed, unchanged, latest⟩ := d.dropEnable.closeScan_aborted_only (c := .abortedFault) (by simp)
  have still : d.haltedStill = (d.dropEnable.setPrf p).abandonStd.enterHalted := by rw [Device.haltedStill, closes]
  have trv := d.haltedStill_trv
  have prf : d.haltAtOnce.prf = p := by
    rw [Device.haltAtOnce_eq, Device.restRule_keeps _ Device.prf (by simp), Device.endOp_prf, still,
      Device.enterHalted_keeps _ Device.prf (by simp)]
    simp
  have rested {α : Type} (q : Trv → α) := d.haltAtOnce_trv_of (q := q)
  have outside (q : Device → Device) (h : ∀ e : Device, (q e).outside = e.outside) : (q d).brk = d.brk ∧ (q d).pins = d.pins :=
    let ⟨_, _, pins, brk, _⟩ := Device.outside_fields (h d)
    ⟨brk, pins⟩
  constructor
  case enable => rw [rested Trv.enable (by simp), trv]; simp
  case commanded => rw [rested Trv.commanded (by simp), trv]; simp
  case target => rw [rested Trv.target (by simp), trv]; simp
  case motion => rw [rested Trv.motion (by simp), trv]; simp
  case op => rw [rested Trv.op (by simp)]
  case counter => rw [rested Trv.counter (by simp), trv]; simp
  case homed => rw [rested Trv.homed (by simp), trv]; simp
  case active => rw [rested Trv.active (by simp), trv]; simp
  case pending => rw [rested Trv.pending (by simp), trv]; simp
  case range => rw [rested Trv.range (by simp), trv]; simp
  case planCount => rw [rested Trv.planCount (by simp), trv]; simp
  case resume => rw [rested Trv.resume (by simp), trv]; dsimp only; split <;> simp
  case shut =>
    intro shut
    rw [Device.haltAtOnce_eq, Device.restRule]
    split
    · simp [TravState.opens]
    · rw [Device.endOp_trv, trv]
      rcases shut with h | h <;> simp [h]
  case sample =>
    intro none' noTimer
    have kept {α : Type} (q : Acq → Option α) (h : ∀ (e : Device) (st : TravState), q (e.goTo st).acq = none) (was : q d.acq = none) :
        q d.haltAtOnce.acq = none := by
      rw [Device.haltAtOnce_eq, Device.restRule]
      split
      · exact h _ _
      · rw [Device.endOp_acq, still, Device.enterHalted]
        split
        · simpa using was
        · exact h _ _
    exact ⟨kept Acq.sample (by simp) none', kept Acq.sampleTimer (by simp) noTimer⟩
  case openScan => rw [prf, openScan]
  case filtered => rw [prf, filtered, reseed]; simp
  case prf => intro none'; rw [prf, unchanged (by simpa using none')]; simp
  case latest => simpa [prf, Device.now] using latest
  case std =>
    rw [Device.haltAtOnce_eq, Device.restRule_keeps _ Device.std (by simp), Device.endOp_std, still,
      Device.enterHalted_keeps _ Device.std (by simp)]
    simp [Device.abandonStd_std, Device.now]
  case cnv =>
    rw [Device.haltAtOnce_eq, Device.restRule_keeps _ Device.cnv (by simp), Device.endOp_cnv, still,
      Device.enterHalted_keeps _ Device.cnv (by simp)]
    simp
  case win =>
    rw [Device.haltAtOnce_eq, Device.restRule_keeps _ Device.win (by simp), Device.endOp_win, still,
      Device.enterHalted_keeps _ Device.win (by simp)]
    simp
  case brk => exact (outside Device.haltAtOnce (by simp)).1
  case pins => exact (outside Device.haltAtOnce (by simp)).2
  case tells =>
    have before : d.haltedStill.tells d [] := by
      refine Device.tells_of_lnk ?_
      rw [still, Device.enterHalted_keeps _ Device.lnk (by simp)]
      simp
    have k := Device.tells_endOp before d.haltedStill.faultResult
    rw [Device.opDone_faultResult, List.nil_append, Device.faultDone_congr (d := d) (by rw [trv]; simp)] at k
    refine Device.tells_of_same (e := d.haltedStill.endOp d.haltedStill.faultResult none) ?_ ?_
    · rw [trv] at k; exact k
    · rw [Device.haltAtOnce_eq, Device.restRule_keeps _ Device.lnk (by simp)]

/-- An immediate halt leaves every condition but SHUTTER. -/
theorem Device.haltAtOnce_entry {t : Fin 24} (other : t ≠ srcShutter) : d.haltAtOnce.entry t = d.entry t := by
  obtain ⟨p, closes, -⟩ := d.dropEnable.closeScan_aborted_only (c := .abortedFault) (by simp)
  rw [Device.haltAtOnce_eq, Device.restRule_keeps _ (fun e => e.entry t) fun e => e.goTo_entry other _, Device.endOp_entry,
    Device.haltedStill, closes, Device.enterHalted_keeps _ (fun e => e.entry t) fun e => e.goTo_entry other _]
  simp [Device.entry]

/-- An immediate halt that follows a rise, as the part before the rise sees it. -/
theorem Device.HaltedFrom.of_rise {d e : Device} {a : Fin 24} {v : Nat} (h : e.HaltedFrom (d.rise a v)) : e.HaltedFrom d :=
  { h with
    counter := by simpa using h.counter
    homed := by simpa using h.homed
    active := by simpa using h.active
    pending := by simpa using h.pending
    range := by simpa using h.range
    planCount := by simpa using h.planCount
    resume := by simpa using h.resume
    shut := by simpa using h.shut
    sample := by simpa using h.sample
    filtered := by simpa using h.filtered
    prf := by simpa using h.prf
    latest := by simpa [Device.now] using h.latest
    std := by simpa [Device.abandonStd_std, Device.now] using h.std
    cnv := by simpa using h.cnv
    win := by simpa using h.win
    brk := by simpa using h.brk
    pins := by simpa using h.pins
    tells := by
      have k := Device.tells_trans (Device.tells_rise (Device.tells_of_lnk (e := d) rfl) a v) h.tells
      simpa [Device.faultDone_congr (d := d)] using k }

/-- An immediate halt at the start of a motion, as the part before ENABLE rose sees it. -/
theorem Device.HaltedFrom.of_raise {d e : Device} (h : e.HaltedFrom d.raiseEnable) : e.HaltedFrom d :=
  { h with
    counter := by simpa using h.counter
    homed := by simpa using h.homed
    active := by simpa using h.active
    pending := by simpa using h.pending
    range := by simpa using h.range
    planCount := by simpa using h.planCount
    resume := by simpa using h.resume
    shut := by simpa using h.shut
    sample := by simpa using h.sample
    filtered := by simpa using h.filtered
    prf := by simpa using h.prf
    latest := by simpa [Device.now] using h.latest
    std := by simpa [Device.abandonStd_std, Device.now] using h.std
    cnv := by simpa using h.cnv
    win := by simpa using h.win
    brk := by simpa using h.brk
    pins := by simpa using h.pins
    tells := by
      have k := Device.tells_from (d := d) h.tells (by simp)
      simpa [Device.faultDone_congr (d := d)] using k }

theorem Device.driveFault_halts (cause : Nat) : (d.driveFault cause).HaltedFrom d := (Device.haltAtOnce_halts _).of_rise

theorem Device.driveFault_drive (cause : Nat) (on : d.trv.enable = true) :
    (d.driveFault cause).trv.speedRef = false ∧ (d.driveFault cause).trv.periodDue = none ∧ (d.driveFault cause).trv.highDue = none ∧
    (d.driveFault cause).trv.stall = none ∧ (d.driveFault cause).trv.restTimer = some (d.clk + 100000) := by
  simpa [Device.driveFault] using (d.rise srcDriveFault (codedValue cause d.trv.counter)).haltAtOnce_drive (by simpa using on)

theorem Device.driveFault_state (cause : Nat) : (d.driveFault cause).trv.state = d.trv.haltedState := by
  rw [Device.driveFault, Device.haltAtOnce_state, Device.rise_trv]

theorem Device.driveFault_entry (cause : Nat) : (d.driveFault cause).entry srcDriveFault =
    (d.rise srcDriveFault (codedValue cause d.trv.counter)).entry srcDriveFault := Device.haltAtOnce_entry _ (by decide)

theorem Device.driveFault_cond (cause : Nat) : (d.driveFault cause).cond srcDriveFault = true := by
  rw [Device.cond_of_entry (d.driveFault_entry cause), Device.rise_cond_self]

/-- OVERTRAVEL with the halt that it brings (R16). -/
theorem Device.overtravel_halts : d.riseOvertravel.haltAtOnce.HaltedFrom d := (Device.haltAtOnce_halts _).of_rise

theorem Device.overtravel_state : d.riseOvertravel.haltAtOnce.trv.state = d.trv.haltedState := by
  rw [Device.haltAtOnce_state, Device.riseOvertravel, Device.rise_trv]

theorem Device.overtravel_entry : d.riseOvertravel.haltAtOnce.entry srcOvertravel = d.riseOvertravel.entry srcOvertravel :=
  Device.haltAtOnce_entry _ (by decide)

theorem Device.overtravel_cond : d.riseOvertravel.haltAtOnce.cond srcOvertravel = true := by
  rw [Device.cond_of_entry d.overtravel_entry, Device.riseOvertravel, Device.rise_cond_self]
end

/-! ## Conditions that rise -/

section
variable {d : Device} {a : Fin 24}

/-- A rise that latches an entry (R154). -/
theorem Device.rise_of_idle (idle : (d.entry a).state = .idle) (v : Nat) :
    ((d.rise a v).entry a).value = some v ∧ ((d.rise a v).entry a).first = some d.now ∧ ((d.rise a v).entry a).repeats = 0 := by
  have h := d.rise_content_self a v
  rw [AlarmEntry.afterRise, if_pos idle] at h
  exact ⟨(congrArg AlarmEntry.value h :), (congrArg AlarmEntry.first h :), (congrArg AlarmEntry.repeats h :)⟩

/-- A rise that counts a repeat (R155). -/
theorem Device.rise_of_busy (busy : (d.entry a).state ≠ .idle) (v : Nat) :
    ((d.rise a v).entry a).value = (d.entry a).value ∧
    ((d.rise a v).entry a).repeats = min ((d.entry a).repeats + 1) 65535 := by
  have h := d.rise_content_self a v
  rw [AlarmEntry.afterRise, if_neg busy] at h
  exact ⟨(congrArg AlarmEntry.value h :), (congrArg AlarmEntry.repeats h :)⟩
end

/-! ## A lost position -/

section
variable {d : Device} (cause c : Nat)

/-- The position lost, before the motion and the operation end (R6). -/
def Device.unhomed (d : Device) (cause c : Nat) : Device :=
  (d.setTrv { d.trv with homed := false }).rise srcPositionLost (codedValue cause c)

@[simp] theorem Device.unhomed_trv : (d.unhomed cause c).trv = { d.trv with homed := false } := by simp [Device.unhomed]
@[simp] theorem Device.unhomed_std : (d.unhomed cause c).std = d.std := by simp [Device.unhomed]
@[simp] theorem Device.unhomed_prf : (d.unhomed cause c).prf = d.prf := by simp [Device.unhomed]
@[simp] theorem Device.unhomed_cnv : (d.unhomed cause c).cnv = d.cnv := by simp [Device.unhomed]

@[simp] theorem Device.unhomed_now : (d.unhomed cause c).now = d.now := by simp [Device.unhomed, Device.now]

theorem Device.unhomed_tells : (d.unhomed cause c).tells d [] :=
  Device.tells_rise (Device.tells_of_lnk (e := d.setTrv { d.trv with homed := false }) rfl) ..

/-- A moving head brought to HALTED, its scan closed (R6). -/
def Device.unhomedHalt (d : Device) (cause c : Nat) : Device := ((d.unhomed cause c).closeScan .abortedFault).goTo .halted

/-- A moving head that is halting already goes on (R6). -/
theorem Device.losePosition_halting (on : d.trv.enable = true) (halted : d.trv.state = .halted) :
    d.losePosition cause c = (d.unhomed cause c).endOp .fault none := by
  unfold Device.losePosition
  rw [← Device.unhomed.eq_def]
  dsimp only
  rw [if_pos (by simpa using on), if_pos (by simpa using halted)]

/-- A moving head halts with a stopping ramp (R6). -/
theorem Device.losePosition_moving (on : d.trv.enable = true) (moving : d.trv.state ≠ .halted) :
    d.losePosition cause c =
      ((d.unhomedHalt cause c).setTrv { (d.unhomedHalt cause c).trv with target := 0, motion := .stopping }).endOp .fault none := by
  unfold Device.losePosition
  rw [← Device.unhomed.eq_def]
  dsimp only
  rw [if_pos (by simpa using on), if_neg (by simpa using moving)]
  rfl

/-- A standing head is UNHOMED at once (R6). -/
theorem Device.losePosition_standing (off : d.trv.enable = false) :
    d.losePosition cause c = ((d.unhomed cause c).abandonStd.goTo .unhomed).endOp
      ((d.unhomed cause c).abandonStd.goTo .unhomed).faultResult none := by
  unfold Device.losePosition
  rw [← Device.unhomed.eq_def]
  dsimp only
  rw [if_neg (by simp [off])]
end

theorem Device.losePosition_kept {d : Device} (cause c : Nat) :
    let e := d.losePosition cause c
    e.trv.homed = false ∧ e.trv.counter = d.trv.counter ∧ e.trv.op = none ∧ e.trv.enable = d.trv.enable ∧
    e.trv.commanded = d.trv.commanded ∧ e.cnv = d.cnv := by
  by_cases on : d.trv.enable = true
  · by_cases halted : d.trv.state = .halted
    · rw [Device.losePosition_halting cause c on halted]; simp
    · rw [Device.losePosition_moving cause c on halted]; simp [Device.unhomedHalt]
  · rw [Device.losePosition_standing cause c (Bool.eq_false_iff.mpr on)]; simp

/-- Settles O25: the count of illegal transitions, then the three ways in which a position is lost. -/
theorem illegalTransitionsCount : Obligations.IllegalTransitionsCount := by
  unfold Obligations.IllegalTransitionsCount
  refine ⟨fun s dt a0 b0 => ?_, fun d cause c => ?_⟩
  · intro d n counted awake last
    have both : (!a0) ≠ a0 ∧ (!b0) ≠ b0 := by cases a0 <;> cases b0 <;> decide
    let e := d.setTrv { d.trv with sampling := some (!a0, !b0) }
    have acts : d.sampleEncoder (!a0) (!b0) = e.takeIllegal := Device.sampleEncoder_illegal last both
    refine ⟨fun stays => ?_, fun homed four => ?_⟩
    · exact exec_ends (row_illegalTransition ..) awake (acts.trans (if_neg stays))
    · exact exec_ends (row_illegalTransition ..) awake (acts.trans (if_pos ⟨homed, four⟩))
  · intro e
    obtain ⟨_, _, pins, brk, _⟩ := Device.outside_fields (show e.outside = d.outside by simp [e])
    have ends : e = d.losePosition cause c := rfl
    obtain ⟨p, closes, openScan, -, -, -, latest⟩ := (d.unhomed cause c).closeScan_aborted_only (c := .abortedFault) (by simp)
    have told := d.unhomed_tells cause c
    have raised : e.entry srcPositionLost = (d.unhomed cause c).entry srcPositionLost := by
      by_cases on : d.trv.enable = true
      · by_cases halted : d.trv.state = .halted
        · rw [ends, Device.losePosition_halting cause c on halted, Device.endOp_entry]
        · rw [ends, Device.losePosition_moving cause c on halted, Device.endOp_entry]
          refine (Device.goTo_entry _ (by decide) _).trans ?_
          rw [closes]; rfl
      · rw [ends, Device.losePosition_standing cause c (Bool.eq_false_iff.mpr on), Device.endOp_entry]
        refine (Device.goTo_entry _ (by decide) _).trans ?_
        rw [Device.abandonStd_only]; rfl
    have lost : e.cond srcPositionLost = true := by
      rw [Device.cond_of_entry raised, Device.unhomed, Device.rise_cond_self]
    have latched (idle : (d.entry srcPositionLost).state = .idle) := Device.rise_of_idle
      (d := d.setTrv { d.trv with homed := false }) idle (codedValue cause c)
    have ⟨homed, counter, op, enable, commanded, cnv⟩ := d.losePosition_kept cause c
    refine ⟨homed, counter, op, lost, fun idle => ?_, enable, commanded, brk, cnv, pins, fun on => ?_, fun off => ?_, fun on halted => ?_,
      fun on moving => ?_, fun off => ?_⟩
    · rw [raised]; exact latched idle
    · by_cases halted : d.trv.state = .halted
      · rw [ends, Device.losePosition_halting cause c on halted]
        have k := Device.tells_endOp told .fault
        rw [Device.unhomed_trv, halted, Device.opDone_congr (d := d) (by simp)] at k
        exact k
      · rw [ends, Device.losePosition_moving cause c on halted]
        have stopped : (d.unhomedHalt cause c).tells d [] := Device.tells_of_same told (by simp [Device.unhomedHalt, closes])
        have k := Device.tells_endOp (Device.tells_of_same (x := (d.unhomedHalt cause c).setTrv
          { (d.unhomedHalt cause c).trv with target := 0, motion := .stopping }) stopped rfl) .fault
        rw [Device.opDone_congr (d := d) (by simp [Device.unhomedHalt])] at k
        simpa [Device.unhomedHalt, OpResult.code, TravState.code] using k
    · rw [ends, Device.losePosition_standing cause c off]
      have stopped : ((d.unhomed cause c).abandonStd.goTo .unhomed).tells d [] := Device.tells_of_same told (by simp)
      have k := Device.tells_endOp stopped ((d.unhomed cause c).abandonStd.goTo .unhomed).faultResult
      rw [Device.opDone_faultResult, Device.faultDone_congr (d := d) (by simp)] at k
      simpa [TravState.code] using k
    · rw [ends, Device.losePosition_halting cause c on halted]; simp [halted]
    · rw [ends, Device.losePosition_moving cause c on moving]
      simpa [Device.unhomedHalt, TravState.opens, closes, openScan] using latest
    · rw [ends, Device.losePosition_standing cause c off]
      simp [TravState.opens, Device.abandonStd_ref]

/-! ## The frame's switches -/

section
variable {s : State} {dt : Nat} {side : Side} (awake : (s.dev.advance dt).pins.reset = false)
include awake

theorem setLimit_awake (v : Bool) : ((s.dev.advance dt).setLimit side v).pins.reset = false := by
  cases side <;> exact awake

/-- The row of a limit switch that opens. -/
theorem exec_limitOpen (closed : (s.dev.advance dt).pins.limit side = true) :
    exec (.limitSwitchOpen dt side) s = s.becomes ((s.dev.advance dt).setLimit side false).limitOpened :=
  exec_becomes ((row_limitSwitchOpen ..).trans ((edge_of_ne (by rw [closed]; decide)).trans
    (if_neg (Bool.eq_false_iff.mp (setLimit_awake awake false)))))

/-- The row of a limit switch that closes. -/
theorem exec_limitClose (opened : (s.dev.advance dt).pins.limit side = false) :
    exec (.limitSwitchClose dt side) s = s.ends (((s.dev.advance dt).setLimit side true).limitClosed side) :=
  exec_ends ((row_limitSwitchClose ..).trans (edge_of_ne (by rw [opened]; decide))) (setLimit_awake awake true) rfl
end

/-- Settles O27: the closure in the back-off and outside it, then the openings. -/
theorem frameSwitchesAct : Obligations.FrameSwitchesAct := by
  unfold Obligations.FrameSwitchesAct
  intro s dt side d withLimit code raised backedOff awake
  have moves (v : Bool) : d.setLimit side v = withLimit v := by cases side <;> rfl
  have backs (x : Device) : x.endBackOff = backedOff x := rfl
  have halts := (withLimit true).overtravel_halts
  have raisedEntry := (withLimit true).overtravel_entry
  refine ⟨fun opens ts backOff => ?_, fun opens outside => ?_, fun closed other => ?_, fun closed other => ?_, fun closed => ?_⟩
  · rw [exec_limitClose awake opens, moves]
    exact congrArg s.ends (if_pos ⟨ts, backOff⟩)
  · refine ⟨(withLimit true).riseOvertravel.haltAtOnce, ?_, halts.pins, (withLimit true).overtravel_cond, halts.enable, halts.commanded,
      halts.motion, halts.counter, halts.homed, halts.op, halts.openScan, ?_, ?_, halts.brk, halts.cnv, ?_, (withLimit true).overtravel_state, ?_, ?_⟩
    · rw [exec_limitClose awake opens, moves]
      exact congrArg s.ends (if_neg outside)
    · rw [halts.std, Device.abandonStd_phase]
    · rw [halts.std, Device.abandonStd_ref]; rfl
    · exact Device.tells_from halts.tells rfl
    · intro idle
      obtain ⟨value, first, repeats⟩ := Device.rise_of_idle (d := withLimit true) idle
        (codedValue (withLimit true).pins.switchCode (withLimit true).trv.counter)
      rw [raisedEntry]
      exact ⟨repeats, first, value⟩
    · intro busy
      obtain ⟨value, repeats⟩ := Device.rise_of_busy (d := withLimit true) busy
        (codedValue (withLimit true).pins.switchCode (withLimit true).trv.counter)
      rw [raisedEntry]
      exact ⟨repeats, value⟩
  · have open' : ((withLimit false).pins.limitTs || (withLimit false).pins.limitDs) = false := by
      cases side <;> simp [withLimit] <;> exact other
    rw [exec_limitOpen awake closed, moves, ← backs]
    exact congrArg (fun x : Device => s.becomes x.endBackOff) (if_neg (Bool.eq_false_iff.mp open'))
  · have shut : ((withLimit false).pins.limitTs || (withLimit false).pins.limitDs) = true := by
      cases side <;> simp [withLimit] <;> exact other
    rw [exec_limitOpen awake closed, moves, ← backs]
    exact congrArg (fun x : Device => s.becomes x.endBackOff) (if_pos shut)
  · refine exec_becomes ((row_homeSwitchOpen ..).trans ((edge_of_ne (by
      rw [show (s.dev.advance dt).pins.home = true from closed]; decide)).trans ?_))
    exact (if_neg (Bool.eq_false_iff.mp awake)).trans (backs _)

/-! ## The drive's supervision -/

/-- Settles O28: each row, then what every drive fault leaves. -/
theorem driveIsSupervised : Obligations.DriveIsSupervised := by
  unfold Obligations.DriveIsSupervised
  refine ⟨fun s dt => ?_, fun d cause => ?_⟩
  · intro d low
    refine ⟨exec_becomes (row_readyRise ..), fun awake ready => ?_, fun i runs awake => ?_, fun t runs awake follows => ?_⟩
    · exact exec_ends ((row_readyFall ..).trans (edge_of_ne (by rw [show (s.dev.advance dt).pins.ready = true from ready]; decide)))
        awake rfl
    · exact exec_ends (row_stallIntervalExpiry_some _ _ (runs : s.dev.trv.stall = some i)) awake rfl
    · intro x
      refine exec_expires (row_restTimerExpiry ..) runs awake ?_
      have rest : (x.setTrv { d.trv with restTimer := none }).atRest = true ↔ d.trv.enable = false := by
        rw [Device.atRest_iff]; exact and_iff_left rfl
      by_cases h : d.trv.state = .halted ∧ d.trv.homed = false ∧ d.trv.enable = false
      · obtain ⟨halted, lost, off⟩ := h
        rw [if_pos ⟨halted, lost, off⟩]
        refine (if_pos ⟨halted, lost, rest.mpr off⟩).trans ?_
        have shut : d.trv.openCmd = false := by rw [show d.trv.openCmd = d.trv.state.opens from follows, halted]; rfl
        exact Device.goTo_shut shut rfl
      · rw [if_neg h]
        exact if_neg fun ⟨halted, lost, still⟩ => h ⟨halted, lost, rest.mp still⟩
  · intro e
    have halts := d.driveFault_halts cause
    have entry := d.driveFault_entry cause
    refine ⟨halts.enable, halts.commanded, halts.target, halts.motion, d.driveFault_drive cause, halts.counter, halts.homed, halts.op, halts.openScan,
      ?_, halts.latest, d.driveFault_cond cause, halts.tells, fun idle => ?_, d.driveFault_state cause⟩
    · rw [halts.std, Device.abandonStd_phase]
    · rw [entry]; exact (Device.rise_of_idle idle _).1

end Sys2Proof.Machine
end


section
/-! PROOFS. Parking and moves: the pending settings applied, what an entry to PARKED leaves, how a positioning move begins; the shutter
(O31), the speed reference (O29), the HOME switch (O26). -/

namespace Sys2Proof.Machine

/-! ## Pending settings that are applied -/

/-- The effective range differs from the programmed one (R35, R37). -/
theorem Device.trimmed_eq {d : Device} {s : ScanSettings} {f : Option FrameRecord} (active : d.trv.active = some s)
    (range : d.trv.range = f.map (fun f => effectiveRange f s)) : d.trimmed = f.any (fun f =>
      let t : Nat := (10 * s.speed ^ 2 + f.accel - 1) / f.accel
      decide (max (s.low : Int) (f.softLow + t) ≠ s.low ∨ min (s.high : Int) (f.softHigh - t) ≠ s.high)) := by
  unfold Device.trimmed
  rw [active, range]
  cases f <;> rfl

theorem Device.appliedDone_congr {d e : Device} (pending : e.trv.pending = d.trv.pending) (frame : e.trv.frame = d.trv.frame) (st : Byte) :
    e.appliedDone st = d.appliedDone st := by
  unfold Device.appliedDone; rw [pending, frame]

section
variable (d : Device)

/-- The application of what is pending tells its DONE (R37). -/
theorem Device.applyPending_tells : d.applyPending.tells d (d.appliedDone d.trv.state.code) := by
  cases h : d.trv.pending with
  | none =>
    rw [Device.applyPending_of_none h, Device.appliedDone, h]
    exact Device.tells_of_lnk rfl
  | some q =>
    obtain ⟨tag, s⟩ := q
    rw [Device.applyPending_of_some h, Device.offerDone, Device.appliedDone, h]
    refine Device.tells_from (e := (d.setTrv { d.trv with pending := none }).applySettings s) ?_ (by simp)
    have trimmed := Device.trimmed_eq (d := (d.setTrv { d.trv with pending := none }).applySettings s) (s := s) (f := d.trv.frame)
      (by simp [Trv.applied]) (by simp [Trv.applied])
    rw [trimmed, flagsByte_adjusted]
    have k := Device.offer_tells ((d.setTrv { d.trv with pending := none }).applySettings s)
    simpa [OpKind.code, OpResult.code, doneKind, Trv.applied] using k _

/-- An application leaves FILTERED, or empties and reseeds it (R36, R104). -/
theorem Device.applyPending_prf : d.applyPending.prf = d.prf ∨ d.applyPending.prf = { d.prf with filtered := none, reseed := true } := by
  cases h : d.trv.pending with
  | none => rw [Device.applyPending_of_none h]; exact .inl rfl
  | some q =>
    obtain ⟨tag, s⟩ := q
    rw [Device.applyPending_of_some h, Device.offerDone_prf]
    rcases (d.setTrv { d.trv with pending := none }).applySettings_only s with k | k <;> rw [k]
    · exact .inr rfl
    · exact .inl rfl

theorem Device.applyPending_cnv : d.applyPending.cnv = d.cnv := by
  cases h : d.trv.pending with
  | none => rw [Device.applyPending_of_none h]
  | some q =>
    rw [Device.applyPending_of_some h, Device.offerDone_cnv]
    rcases (d.setTrv { d.trv with pending := none }).applySettings_only q.2 with k | k <;> rw [k] <;> rfl

theorem Device.applyPending_win : d.applyPending.win = d.win := by
  cases h : d.trv.pending with
  | none => rw [Device.applyPending_of_none h]
  | some q =>
    rw [Device.applyPending_of_some h, Device.offerDone_win]
    rcases (d.setTrv { d.trv with pending := none }).applySettings_only q.2 with k | k <;> rw [k] <;> rfl

/-- An application replaces active settings, range and plan count alone, and leaves nothing pending (R36). -/
theorem Trv.withPending_eq (t : Trv) : ∃ a r n, t.withPending = { t with pending := none, active := a, range := r, planCount := n } := by
  unfold Trv.withPending
  split
  · next h => exact ⟨t.active, t.range, t.planCount, by rw [← h]⟩
  · exact ⟨_, _, _, rfl⟩

theorem Trv.withPending_of_none {t : Trv} (h : t.pending = none) : t.withPending = t := by
  unfold Trv.withPending; rw [h]

/-! ## The entry to PARKED -/

/-- The first two stages of the entry to PARKED: the state entered with ENABLE low, the pending settings applied (R25). -/
def Device.parkedStage : Device := (d.goTo .parked).dropEnable.applyPending

/-- What an entry to PARKED leaves, but for the operation and the resume (R25). -/
structure Device.ParkedFrom (e d : Device) : Prop where
  state : e.trv.state = .parked
  openCmd : e.trv.openCmd = false
  enable : e.trv.enable = false
  commanded : e.trv.commanded = 0
  motion : e.trv.motion = .rest
  counter : e.trv.counter = d.trv.counter
  homed : e.trv.homed = d.trv.homed
  faultCount : e.trv.faultCount = d.trv.faultCount
  frame : e.trv.frame = d.trv.frame
  pending : e.trv.pending = none
  settings : e.trv.active = d.trv.withPending.active ∧ e.trv.range = d.trv.withPending.range ∧
    e.trv.planCount = d.trv.withPending.planCount
  sample : e.acq.sample = none ∧ e.acq.sampleTimer = none ∧ e.acq.next = none
  inputs : e.acq = { d.acq with sample := none, sampleTimer := none, next := none }
  prf : e.prf = d.prf ∨ e.prf = { d.prf with filtered := none, reseed := true }
  unpended : d.trv.pending = none → e.prf = d.prf
  std : e.std = d.std
  cnv : e.cnv = d.cnv
  win : e.win = d.win
  brk : e.brk = d.brk
  pins : e.pins = d.pins
  clk : e.clk = d.clk
  link : e.lnk.link = d.lnk.link
  entry : ∀ t, t ≠ srcShutter → e.entry t = d.entry t
  shutter : e.cond srcShutter = (d.goTo .parked).cond srcShutter

theorem Device.parkedStage_trv : ∃ a r n, d.parkedStage.trv = { (d.goTo .parked).dropEnable.trv with
    pending := none, active := a, range := r, planCount := n } ∧
    a = d.trv.withPending.active ∧ r = d.trv.withPending.range ∧ n = d.trv.withPending.planCount := by
  have trv : d.parkedStage.trv = (d.goTo .parked).dropEnable.trv.withPending := Device.applyPending_trv _
  cases h : d.trv.pending with
  | none =>
    refine ⟨d.trv.active, d.trv.range, d.trv.planCount, ?_, ?_⟩
    · rw [trv, Trv.withPending_of_none (by simpa using h)]
      rw [← show (d.goTo .parked).dropEnable.trv.pending = none by simpa using h,
        ← show (d.goTo .parked).dropEnable.trv.active = d.trv.active by simp,
        ← show (d.goTo .parked).dropEnable.trv.range = d.trv.range by simp,
        ← show (d.goTo .parked).dropEnable.trv.planCount = d.trv.planCount by simp]
    · rw [Trv.withPending_of_none h]; exact ⟨rfl, rfl, rfl⟩
  | some q =>
    have pend : (d.goTo .parked).dropEnable.trv.pending = some q := by simpa using h
    refine ⟨some q.2, d.trv.frame.map (fun f => effectiveRange f q.2), min d.trv.planCount q.2.base, ?_, ?_⟩
    · rw [trv, Trv.withPending, pend]
      simp [Trv.applied]
    · rw [Trv.withPending, h]; exact ⟨rfl, rfl, rfl⟩

theorem Device.parkedStage_parks : d.parkedStage.ParkedFrom d := by
  obtain ⟨a, r, n, trv, settings⟩ := d.parkedStage_trv
  obtain ⟨clk, _, pins, brk, link, _⟩ := Device.outside_fields (show d.parkedStage.outside = d.outside by simp [Device.parkedStage])
  have prf := (d.goTo .parked).dropEnable.applyPending_prf
  have acq : d.parkedStage.acq = { d.acq with sample := none, sampleTimer := none, next := none } := by simp [Device.parkedStage]
  constructor
  case state => rw [trv]; simp
  case openCmd => rw [trv]; simp [TravState.opens]
  case enable => rw [trv]; simp
  case commanded => rw [trv]; simp
  case motion => rw [trv]; simp
  case counter => rw [trv]; simp
  case homed => rw [trv]; simp
  case faultCount => rw [trv]; simp
  case frame => rw [trv]; simp
  case pending => rw [trv]
  case settings => rw [trv]; exact settings
  case sample => rw [acq]; exact ⟨rfl, rfl, rfl⟩
  case inputs => exact acq
  case prf => simpa [Device.parkedStage] using prf
  case unpended =>
    intro h
    rw [Device.parkedStage, Device.applyPending_of_none (by simpa using h)]; simp
  case std => simp [Device.parkedStage]
  case cnv => simp [Device.parkedStage, Device.applyPending_cnv]
  case win => simp [Device.parkedStage, Device.applyPending_win]
  case brk => exact brk
  case pins => exact pins
  case clk => exact clk
  case link => exact link
  case entry =>
    intro t other
    rw [← d.goTo_entry other .parked]
    exact Device.entry_congr t (by simp [Device.parkedStage])
  case shutter => exact Device.cond_congr _ (by simp [Device.parkedStage])

theorem Device.parkedStage_op : d.parkedStage.trv.op = d.trv.op ∧ d.parkedStage.trv.resume = d.trv.resume := by
  obtain ⟨a, r, n, trv, -⟩ := d.parkedStage_trv
  rw [trv]; simp

theorem Device.parkedStage_tells : d.parkedStage.tells d (d.appliedDone 2) := by
  have k := Device.tells_from (d := d) (d.goTo .parked).dropEnable.applyPending_tells (by simp)
  have same : (d.goTo .parked).dropEnable.appliedDone (d.goTo .parked).dropEnable.trv.state.code = d.appliedDone 2 := by
    simp [Device.appliedDone, TravState.code]
  rwa [same] at k

/-- The end of an operation in PARKED. -/
theorem Device.ParkedFrom.ended {d e : Device} (h : e.ParkedFrom d) (r : OpResult) (x : Option OpResult) : (e.endOp r x).ParkedFrom d :=
  { h with
    state := by simpa using h.state
    openCmd := by simpa using h.openCmd
    enable := by simpa using h.enable
    commanded := by simpa using h.commanded
    motion := by simpa using h.motion
    counter := by simpa using h.counter
    homed := by simpa using h.homed
    faultCount := by simpa using h.faultCount
    frame := by simpa using h.frame
    pending := by simpa using h.pending
    settings := by simpa using h.settings
    sample := by simpa using h.sample
    inputs := by simpa using h.inputs
    prf := by simpa using h.prf
    unpended := by simpa using h.unpended
    std := by simpa using h.std
    cnv := by simpa using h.cnv
    win := by simpa using h.win
    brk := by simpa using h.brk
    pins := by simpa using h.pins
    clk := by simpa using h.clk
    link := by simpa using h.link
    entry := by simpa using h.entry
    shutter := by simpa using h.shutter }

theorem Device.tryResume_of_none (h : d.trv.resume = none) : d.tryResume = d := by
  unfold Device.tryResume; rw [h]

/-- Where the sheet does not run there is no resume (R41). -/
theorem Device.tryResume_of_not_running (h : d.brk.sheet ≠ .running) : d.tryResume = d := by
  unfold Device.tryResume
  split
  · rfl
  · rw [if_neg (by simp [Device.resumeReady, h])]

variable {d} {ending : Option (OpResult × Option OpResult)} {b : Device}

/-- An entry to PARKED whose third stage leaves no operation, and no resume that could follow (R25, R41). -/
theorem Device.enterParked_of_ended (stage : d.parkedStage.parkedOp ending = b) (idle : b.trv.op = none)
    (stays : b.trv.resume = none ∨ b.brk.sheet ≠ .running) : d.enterParked ending = b := by
  change (if (d.parkedStage.parkedOp ending).trv.op.isNone then (d.parkedStage.parkedOp ending).tryResume
    else d.parkedStage.parkedOp ending) = b
  rw [stage, idle]
  exact stays.elim b.tryResume_of_none b.tryResume_of_not_running

/-- An entry to PARKED whose third stage goes on with the operation (R25). -/
theorem Device.enterParked_of_kept (stage : d.parkedStage.parkedOp ending = b) (busy : b.trv.op ≠ none) : d.enterParked ending = b := by
  change (if (d.parkedStage.parkedOp ending).trv.op.isNone then (d.parkedStage.parkedOp ending).tryResume
    else d.parkedStage.parkedOp ending) = b
  rw [stage, if_neg (by simpa using busy)]

theorem Device.parkedOp_none (h : d.trv.op = none) : d.parkedOp ending = d := by
  unfold Device.parkedOp; rw [h]

theorem Device.parkedOp_given {x : OpResult × Option OpResult} {o : OpRecord} (h : d.trv.op = some o) :
    d.parkedOp (some x) = d.endOp x.1 x.2 := by
  unfold Device.parkedOp; rw [h]

/-- HOME and PARK are over with COMPLETE in PARKED (R25). -/
theorem Device.parkedOp_complete {o : OpRecord} (h : d.trv.op = some o) (kind : o.kind = .home ∨ o.kind = .park) :
    d.parkedOp none = d.endOp .complete none := by
  unfold Device.parkedOp; rw [h]; exact if_pos kind

/-- A SCAN that needs no standardize is over with PLAN_DONE in PARKED (R25, R32). -/
theorem Device.parkedOp_planDone {o : OpRecord} (h : d.trv.op = some o) (kind : o.kind = .scan) (due : o.stdDue = false) :
    d.parkedOp none = d.endOp .planDone none := by
  unfold Device.parkedOp; rw [h]
  simp [kind, due]

theorem Device.parkedOp_standardizes {o : OpRecord} (h : d.trv.op = some o) (kind : o.kind = .scan) (due : o.stdDue = true) :
    d.parkedOp none = d.enterStandardizing := by
  unfold Device.parkedOp; rw [h]
  simp [kind, due]

/-- The DONE notices that an end with a standardization result offers (R19, R185). -/
theorem Device.endOp_tells_std (d : Device) (r : OpResult) (std : Option OpResult) : (d.endOp r std).tells d
    (d.trv.op.map (fun o => o.done r.code d.trv.state.code ((std.map OpResult.code).getD 255))).toList := by
  cases h : d.trv.op with
  | none => rw [Device.endOp, h]; exact Device.tells_of_lnk rfl
  | some o => rw [Device.endOp_of_some h]; exact Device.tells_from (Device.offer_tells _ _) rfl

/-- An entry to PARKED that ends what is in flight with a given result (R25, R32, R34). -/
theorem Device.enterParked_ends {d : Device} (r : OpResult) (std : Option OpResult) (stays : d.trv.resume = none ∨ d.brk.sheet ≠ .running) :
    (d.enterParked (some (r, std))).ParkedFrom d ∧ (d.enterParked (some (r, std))).trv.op = none ∧
    (d.enterParked (some (r, std))).trv.resume = d.trv.resume ∧
    (d.enterParked (some (r, std))).tells d (d.appliedDone 2 ++
      (d.trv.op.map (fun o => o.done r.code 2 ((std.map OpResult.code).getD 255))).toList) := by
  have parks := d.parkedStage_parks
  obtain ⟨op, resume⟩ := d.parkedStage_op
  have stage : d.parkedStage.parkedOp (some (r, std)) = d.parkedStage.endOp r std := by
    cases h : d.trv.op with
    | none => rw [Device.parkedOp_none (op.trans h), Device.endOp, op.trans h]
    | some o => exact Device.parkedOp_given (op.trans h)
  have told := Device.tells_trans d.parkedStage_tells (d.parkedStage.endOp_tells_std r std)
  rw [op, parks.state] at told
  rw [Device.enterParked_of_ended stage (by simp) (stays.imp (by simp [resume]) (by simp [parks.brk]))]
  exact ⟨parks.ended r std, by simp, by simp [resume], told⟩

/-- An entry to PARKED that finds no operation in flight. -/
theorem Device.enterParked_idle {d : Device} (idle : d.trv.op = none) (stays : d.trv.resume = none ∨ d.brk.sheet ≠ .running)
    (ending : Option (OpResult × Option OpResult)) :
    (d.enterParked ending).ParkedFrom d ∧ (d.enterParked ending).trv.op = none ∧ (d.enterParked ending).trv.resume = d.trv.resume ∧
    (d.enterParked ending).tells d (d.appliedDone 2) := by
  have parks := d.parkedStage_parks
  obtain ⟨op, resume⟩ := d.parkedStage_op
  rw [Device.enterParked_of_ended (Device.parkedOp_none (op.trans idle)) (op.trans idle) (stays.imp resume.trans (by simp [parks.brk]))]
  exact ⟨parks, op.trans idle, resume, d.parkedStage_tells⟩

/-- An entry to PARKED that completes what is in flight by its kind (R25). -/
theorem Device.enterParked_completes {d : Device} {o : OpRecord} {r : OpResult} (h : d.trv.op = some o)
    (ends : d.parkedStage.parkedOp none = d.parkedStage.endOp r none) (stays : d.trv.resume = none ∨ d.brk.sheet ≠ .running) :
    (d.enterParked none).ParkedFrom d ∧ (d.enterParked none).trv.op = none ∧ (d.enterParked none).trv.resume = d.trv.resume ∧
    (d.enterParked none).tells d (d.appliedDone 2 ++ [o.done r.code 2 255]) := by
  have parks := d.parkedStage_parks
  obtain ⟨op, resume⟩ := d.parkedStage_op
  have told := Device.tells_trans d.parkedStage_tells (d.parkedStage.endOp_tells r)
  rw [Device.opDone, op, parks.state, h] at told
  rw [Device.enterParked_of_ended ends (by simp) (stays.imp (by simp [resume]) (by simp [parks.brk]))]
  exact ⟨parks.ended r none, by simp, by simp [resume], told⟩
end

/-! ## A standardize that ends -/

/-- A standardize that no SCAN waits for ends what is in flight with its result (R73, R34). -/
theorem Device.afterStd_ends {d : Device} (r : OpResult) (alone : ∀ o, d.trv.op = some o → o.kind ≠ .scan)
    (stays : d.trv.resume = none ∨ d.brk.sheet ≠ .running) :
    (d.afterStd r).ParkedFrom d ∧ (d.afterStd r).trv.op = none ∧ (d.afterStd r).trv.resume = d.trv.resume ∧
    (d.afterStd r).tells d (d.appliedDone 2 ++ (d.trv.op.map (fun o => o.done r.code 2 r.code)).toList) := by
  cases h : d.trv.op with
  | none =>
    have same : d.afterStd r = d.enterParked none := by rw [Device.afterStd, h]
    rw [same, Option.map_none, Option.toList_none, List.append_nil]
    exact Device.enterParked_idle h stays none
  | some o =>
    have same : d.afterStd r = d.enterParked (some (r, some r)) := by
      rw [Device.afterStd, h]; exact if_neg (alone o h)
    rw [same, ← h]
    exact Device.enterParked_ends r (some r) stays

/-- A standardize that fails ends what is in flight: a SCAN with STD_FAILED, else with its result (R32, R34, R73). -/
theorem Device.afterStd_fails {d : Device} {r : OpResult} (fails : ¬(r = .adopted ∨ r = .adoptedDrift))
    (stays : d.trv.resume = none ∨ d.brk.sheet ≠ .running) :
    (d.afterStd r).ParkedFrom d ∧ (d.afterStd r).trv.op = none ∧ (d.afterStd r).trv.resume = d.trv.resume ∧
    (d.afterStd r).tells d (d.appliedDone 2 ++
      (d.trv.op.map (fun o => o.done (if o.kind = .scan then 6 else r.code) 2 r.code)).toList) := by
  by_cases scan : ∃ o, d.trv.op = some o ∧ o.kind = .scan
  · obtain ⟨o, h, kind⟩ := scan
    have same : d.afterStd r = d.enterParked (some (.stdFailed, some r)) := by
      rw [Device.afterStd, h]
      exact (if_pos kind).trans (if_neg fails)
    have ends := Device.enterParked_ends .stdFailed (some r) stays
    rw [same, h, Option.map_some, if_pos kind]
    rw [h] at ends
    exact ends
  · have alone : ∀ o, d.trv.op = some o → o.kind ≠ .scan := fun o h kind => scan ⟨o, h, kind⟩
    have dones : d.trv.op.map (fun o => o.done r.code 2 r.code) =
        d.trv.op.map (fun o => o.done (if o.kind = .scan then 6 else r.code) 2 r.code) :=
      Option.map_congr fun o h => by rw [if_neg (alone o h)]
    rw [← dones]
    exact Device.afterStd_ends r alone stays

theorem Device.failStd_tells (d : Device) (l : StdLast) (n : Nat) : (d.failStd l n).tells d [] :=
  Device.tells_rise (Device.tells_of_lnk (e := d.setStd { d.std.toIdle with last := some l }) rfl) ..

/-! ## The shutter -/

/-- An examination leaves every entry that does not wait for it (R160). -/
theorem Device.examine_entry_of_unrequested (d : Device) {b : Fin 24} (out : (d.entry b).state ≠ .requested) :
    d.examine.entry b = d.entry b := by
  refine Device.examine_induction (P := fun e => e.entry b = d.entry b) rfl fun e s kept chosen _ _ => ?_
  obtain ⟨requested, _⟩ := (e.alm.candidate_iff s).mp chosen
  have other : b ≠ s := by
    rintro rfl
    exact out (kept ▸ requested)
  rw [Device.placeAlarm_entry, if_neg other, kept]

theorem Device.rise_entry_of_unrequested (d : Device) {a b : Fin 24} (other : b ≠ a) (out : (d.entry b).state ≠ .requested) (v : Nat) :
    (d.rise a v).entry b = d.entry b := by
  have same : (d.setEntry a ((d.entry a).afterRise d.now v)).entry b = d.entry b := Device.setEntry_entry_of_ne d other _
  exact (Device.examine_entry_of_unrequested _ (by rw [same]; exact out)).trans same

theorem Device.goTo_alm_agreed {d : Device} {st : TravState} (agreed : d.trv.openCmd = st.opens) : (d.goTo st).alm = d.alm :=
  (congrArg Device.alm (if_pos agreed) :)

theorem Device.fallIfActive_alm_congr {d e : Device} (h : e.alm = d.alm) (a : Fin 24) : (e.fallIfActive a).alm = (d.fallIfActive a).alm := by
  unfold Device.fallIfActive
  rw [Device.cond_congr a h]
  split
  · simp [Device.fall, Device.setEntry, Device.entry, h]
  · exact h

/-- OPEN is driven to another level: the supervision of R18. -/
theorem Device.goTo_driven {d : Device} {st : TravState} (driven : d.trv.openCmd ≠ st.opens) : (d.goTo st).alm =
    if d.pins.closed ≠ st.opens then (d.fallIfActive srcShutter).alm else d.alm := by
  let x := (d.stopSampling.setTrv { d.trv with
    state := st, resume := if st = .halted ∨ st = .approach then none else d.trv.resume }).setChanged true
  have goes : d.goTo st = (x.setTrv { x.trv with openCmd := st.opens }).superviseShutter := if_neg driven
  have agrees : (x.setTrv { x.trv with openCmd := st.opens }).shutterAgrees = (d.pins.closed != st.opens) := rfl
  rw [goes, Device.superviseShutter, agrees]
  by_cases h : d.pins.closed = st.opens
  · rw [if_neg (by simp [h]), if_neg (not_not.mpr h)]; rfl
  · rw [if_pos (by simp [h]), if_pos h]
    refine Device.fallIfActive_alm_congr ?_ _
    rfl

theorem Device.failStd_shutter_value {d : Device} (idle : (d.entry srcStdFail).state = .idle) (n m : Nat) :
    ((d.failStd (.bare .shutter n m) 0).entry srcStdFail).value = some (4 * 16777216) := by
  have code : failCode (StdLast.bare .shutter n m).result = 4 := rfl
  rw [Device.failStd_value idle, code, codedValue, Nat.add_zero]

theorem Device.after_500 (d : Device) : d.after 500 = some (d.clk + 500000) := by simp [Device.after]

/-- Settles O31: the entry to a state, then the feedback and the mismatch timer. -/
theorem shutterIsSupervised : Obligations.ShutterIsSupervised := by
  unfold Obligations.ShutterIsSupervised
  refine ⟨fun d st => ?_, fun s dt t closed => ?_⟩
  · intro e
    have trv : e.trv = _ := d.goTo_trv st
    refine ⟨by rw [trv], ?_, by rw [trv], d.goTo_stateChanged st, d.goTo_acq st, fun agreed => ⟨?_, Device.goTo_alm_agreed agreed⟩,
      fun driven agreed => ⟨?_, ?_⟩, fun driven disagrees => ⟨?_, ?_, ?_⟩, by rw [trv], by rw [trv], by rw [trv], d.goTo_prf st,
      d.goTo_std st, d.goTo_brk st, d.goTo_cnv st, d.goTo_win st, d.goTo_lnk st⟩
    · rw [trv]; cases st <;> rfl
    · rw [trv]; exact if_pos agreed
    · rw [trv]
      refine ((if_neg driven).trans (if_neg ?_)).trans d.after_500
      rw [agreed]; cases st.opens <;> decide
    · exact (Device.goTo_driven driven).trans (if_neg (not_not.mpr agreed))
    · rw [trv]
      refine (if_neg driven).trans (if_pos ?_)
      revert disagrees; cases d.pins.closed <;> cases st.opens <;> decide
    · rw [Device.cond_congr srcShutter ((Device.goTo_driven driven).trans (if_pos disagrees)), Device.fallIfActive_cond_self]
    · exact (Device.goTo_driven driven).trans (if_pos disagrees)
  · intro d m x risen
    have feedback (awake : d.pins.reset = false) (changes : d.pins.closed ≠ closed) :
        exec (.shutterFeedbackChange dt closed) s = s.becomes m.superviseShutter :=
      exec_becomes ((row_shutterFeedbackChange ..).trans ((edge_of_ne changes).trans (if_neg (Bool.eq_false_iff.mp awake))))
    have expires (awake : d.pins.reset = false) (runs : d.trv.mismatch = some t) :
        exec (.shutterMismatchExpiry dt) s = s.ends (Device.reportStd risen.shutterFailsStd) :=
      exec_expires (row_shutterMismatchExpiry ..) runs awake rfl
    have risenStd : risen.std = d.std := by simp [risen, x]
    refine ⟨fun same => exec_no_edge (row_shutterFeedbackChange ..) same, fun awake changes agrees => ?_,
      fun awake changes disagrees => ?_, fun awake runs idle => ?_, fun awake runs busy resume => ?_⟩
    · rw [feedback awake changes]
      exact congrArg s.becomes (if_pos (bne_iff_ne.mpr agrees))
    · rw [feedback awake changes]
      have after : m.after 500 = some (d.clk + 500000) := m.after_500
      rw [← after]
      exact congrArg s.becomes (if_neg (by simpa [Device.shutterAgrees, m] using disagrees))
    · rw [expires awake runs, Device.shutterFailsStd, if_pos (by rw [risenStd]; exact idle)]
      rfl
    · let failed := risen.failStd (.bare .shutter risen.now risen.std.received) 0
      have report : Device.reportStd risen.shutterFailsStd = failed.afterStd .shutter := by
        rw [Device.shutterFailsStd, if_neg (by rw [risenStd]; exact busy)]; rfl
      have trv : failed.trv = { d.trv with mismatch := none } := by simp [failed, risen, x]
      obtain ⟨parks, op, -, told⟩ := Device.afterStd_fails (d := failed) (r := .shutter) (by simp) (.inl (by rw [trv]; exact resume))
      refine ⟨failed.afterStd .shutter, by rw [expires awake runs, report], parks.state, op, parks.openCmd, parks.enable, ?_, ?_, ?_, ?_,
        ?_, ?_, fun idle => ?_, parks.pending, ?_⟩
      · rw [parks.std]; simp [failed, Device.failStd, Std.toIdle]
      · rw [parks.std]; simp [failed, Device.failStd, Std.toIdle, risenStd]
      · rw [parks.std]; simp [failed, Device.failStd, StdLast.bare]
      · rw [Device.cond_of_entry (parks.entry srcStdFail (by decide)), Device.failStd_cond, if_pos rfl]
      · rw [parks.brk]; simp [failed, risen, x]
      · rcases parks.prf with h | h <;> rw [h] <;> simp [failed, risen, x]
      · rw [parks.entry srcStdFail (by decide)]
        have still : (risen.entry srcStdFail).state = .idle := by
          refine (congrArg AlarmEntry.state (Device.rise_entry_of_unrequested _ (by decide) ?_ _)).trans idle
          exact fun c => by rw [show (d.entry srcStdFail).state = .requested from c] at idle; cases idle
        exact Device.failStd_shutter_value still _ _
      · have rises : risen.tells d [] := Device.tells_rise (Device.tells_of_lnk (e := x.setTrv { d.trv with mismatch := none }) rfl) ..
        have begun : failed.tells d [] := Device.tells_trans rises (risen.failStd_tells ..)
        have k := Device.tells_trans begun told
        have dones : failed.appliedDone 2 = d.appliedDone 2 := by unfold Device.appliedDone; rw [trv]
        rw [dones, trv] at k
        exact k

end Sys2Proof.Machine
end


section
/-! PROOFS. The speed reference (O29) and the HOME switch (O26). -/

namespace Sys2Proof.Machine

/-! ## The speed reference -/

/-- Stall supervision runs while ENABLE is high and the speed is at least 20 mm/s (R14). -/
theorem Device.superviseStall_eq (d : Device) : d.superviseStall = d.setTrv { d.trv with
    stall := if d.trv.enable = true ∧ 2000 ≤ d.trv.commanded.natAbs then
      some (d.trv.stall.getD ⟨d.trv.counter, d.clk + 500000⟩) else none } := by
  have fast : (d.trv.enable && stallSpeed d.trv.commanded) = true ↔ d.trv.enable = true ∧ 2000 ≤ d.trv.commanded.natAbs := by
    simp [stallSpeed]
  unfold Device.superviseStall
  by_cases h : d.trv.enable = true ∧ 2000 ≤ d.trv.commanded.natAbs
  · rw [if_pos (fast.mpr h), if_pos h]
    cases runs : d.trv.stall with
    | none => rfl
    | some i =>
      have same : d = d.setTrv { d.trv with stall := some i } := by rw [← runs]; rfl
      exact same
  · rw [if_neg (mt fast.mp h), if_neg h]

theorem Device.frameField_of_some {d : Device} {f : FrameRecord} (frame : d.trv.frame = some f) (q : FrameRecord → Nat) :
    d.frameField q = q f := by
  rw [Device.frameField, frame]; rfl

theorem Device.moveTarget_eq {d : Device} {f : FrameRecord} (frame : d.trv.frame = some f) (dest v : Nat) :
    d.moveTarget dest v =
      if (d.trv.counter = dest ∨ d.trv.counter < dest ∧ 0 < d.trv.commanded ∨ dest < d.trv.counter ∧ d.trv.commanded < 0) ∧
        Machine.dist d.trv.counter dest ≤ (d.trv.commanded.natAbs ^ 2 + 1000 * f.accel - 1) / (1000 * f.accel) then 0
      else if d.trv.counter < dest then ((v * 100 : Nat) : Int) else -((v * 100 : Nat) : Int) := by
  have toward : signed (sideToward d.trv.counter dest) v =
      if d.trv.counter < dest then ((v * 100 : Nat) : Int) else -((v * 100 : Nat) : Int) := by
    unfold sideToward; split <;> rfl
  rw [Device.moveTarget, Device.frameField_of_some frame, toward]
  simp only [movingToward, decide_eq_true_iff, stoppingDistance, ceilDiv]

theorem Device.inhibited_iff (d : Device) (v : Int) :
    d.inhibited v = true ↔ v < 0 ∧ d.pins.limitTs = true ∨ 0 < v ∧ d.pins.limitDs = true := by
  simp [Device.inhibited]

/-- One acceleration step with its period (R11, R12). -/
theorem Device.rampStep_startPeriod {d : Device} {v c : Int} (target : d.stepTarget = v)
    (next : (if d.inhibited v then d.trv.commanded else rampTo d.trv.commanded v (d.frameField FrameRecord.accel / 5)) = c) :
    d.rampStep.startPeriod = d.setTrv { d.trv with
      target := v, commanded := c,
      direction := if 0 < c then true else if c < 0 then false else d.trv.direction,
      stall := if d.trv.enable = true ∧ 2000 ≤ c.natAbs then some (d.trv.stall.getD ⟨d.trv.counter, d.clk + 500000⟩) else none,
      highTime := 2 * min 1000 (c.natAbs / 100), lowTime := 2000 - 2 * min 1000 (c.natAbs / 100),
      speedRef := decide (0 < min 1000 (c.natAbs / 100)), periodDue := some (d.clk + 2000),
      highDue := if 0 < min 1000 (c.natAbs / 100) ∧ min 1000 (c.natAbs / 100) < 1000 then
        some (d.clk + 2 * min 1000 (c.natAbs / 100)) else none } := by
  unfold Device.rampStep
  dsimp only
  rw [target, next, Device.superviseStall_eq]
  rfl

/-- Settles O29. -/
theorem speedReferencePeriod : Obligations.SpeedReferencePeriod := by
  unfold Obligations.SpeedReferencePeriod
  intro s dt t f d x c target next v ramped
  refine ⟨fun runs frame accel awake => ?_, fun runs => ?_⟩
  · have step : x.stepTarget = target := by
      change (match d.trv.motion with
        | .move dest speed _ => x.moveTarget dest speed
        | _ => d.trv.target) = _
      cases h : d.trv.motion
      all_goals simp only [target, h]
      exact Device.moveTarget_eq (d := x) frame _ _
    have goes : (if x.inhibited target then c else rampTo c target (x.frameField FrameRecord.accel / 5)) = next := by
      rw [Device.frameField_of_some (d := x) frame]
      simp only [Device.inhibited_iff]
      rfl
    exact exec_expires (row_speedRefPeriodStart ..) runs awake
      (congrArg Device.afterRamp (Device.rampStep_startPeriod (d := x) step goes))
  · exact exec_becomes ((row_speedRefHighTimeEnd ..).trans (by rw [show (s.dev.advance dt).trv.highDue = some t from runs]; rfl))


/-! ## What no motion touches -/

/-- The sources whose conditions the motions themselves raise and lower. -/
def motionSource (t : Fin 24) : Prop := t = srcShutter ∨ t = srcDriveFault ∨ t = srcOvertravel

/-- What no motion, end of an operation or entry to a traverse state touches: the position, the frame record, the head's inputs but for
the sampling, conversion, windows, the reference set and its count, the point ring, and every condition but those of the motions themselves. -/
@[ext] structure Steady where
  counter : Nat
  homed : Bool
  faultCount : Nat
  frame : Option FrameRecord
  inputs : Acq
  cnv : Cnv
  win : Vector Window 8
  ref : Option RefSet
  count : Nat
  ring : List RingEntry
  level : {t : Fin 24 // ¬motionSource t} → Bool

def Device.steady (d : Device) : Steady :=
  ⟨d.trv.counter, d.trv.homed, d.trv.faultCount, d.trv.frame, { d.acq with sample := none, sampleTimer := none, next := none }, d.cnv,
    d.win, d.std.ref, d.std.count, d.prf.ring, fun t => d.cond t.1⟩

theorem Device.steady_cond {d e : Device} (h : e.steady = d.steady) {t : Fin 24} (other : ¬motionSource t) : e.cond t = d.cond t :=
  congrArg (fun v => Steady.level v ⟨t, other⟩) h

section
variable (d : Device)

@[simp] theorem Device.setTrv_steady {x : Trv} (counter : x.counter = d.trv.counter) (homed : x.homed = d.trv.homed)
    (faultCount : x.faultCount = d.trv.faultCount) (frame : x.frame = d.trv.frame) : (d.setTrv x).steady = d.steady := by
  simp [Device.steady, counter, homed, faultCount, frame]

@[simp] theorem Device.setPrf_steady {x : Prf} (ring : x.ring = d.prf.ring) : (d.setPrf x).steady = d.steady := by
  simp [Device.steady, ring]

@[simp] theorem Device.setLnk_steady (x : Lnk) : (d.setLnk x).steady = d.steady := rfl
@[simp] theorem Device.setBrk_steady (x : Brk) : (d.setBrk x).steady = d.steady := rfl
@[simp] theorem Device.setChanged_steady (x : Bool) : (d.setChanged x).steady = d.steady := rfl

/-- A change of the sampling alone. -/
theorem Device.setAcq_steady {x : Acq} (same : ({ x with sample := none, sampleTimer := none, next := none } : Acq) =
    { d.acq with sample := none, sampleTimer := none, next := none }) : (d.setAcq x).steady = d.steady := by
  simp [Device.steady, same]

@[simp] theorem Device.setStd_steady {x : Std} (ref : x.ref = d.std.ref) (count : x.count = d.std.count) :
    (d.setStd x).steady = d.steady := by
  simp [Device.steady, ref, count]

theorem Device.rise_steady {a : Fin 24} (own : motionSource a) (v : Nat) : (d.rise a v).steady = d.steady := by
  have level : (fun t : {t : Fin 24 // ¬motionSource t} => (d.rise a v).cond t.1) = fun t => d.cond t.1 := by
    funext ⟨t, other⟩
    exact Device.rise_cond_of_ne _ _ (show t ≠ a by rintro rfl; exact other own)
  simp only [Device.steady, level, Device.rise_trv, Device.rise_acq, Device.rise_cnv, Device.rise_win, Device.rise_std, Device.rise_prf]

theorem Device.fallIfActive_steady {a : Fin 24} (own : motionSource a) : (d.fallIfActive a).steady = d.steady := by
  have level : (fun t : {t : Fin 24 // ¬motionSource t} => (d.fallIfActive a).cond t.1) = fun t => d.cond t.1 := by
    funext ⟨t, other⟩
    exact Device.fallIfActive_cond_of_ne _ (by rintro rfl; exact other own)
  simp only [Device.steady, level, Device.fallIfActive_trv, Device.fallIfActive_acq, Device.fallIfActive_cnv, Device.fallIfActive_win,
    Device.fallIfActive_std, Device.fallIfActive_prf]

@[simp] theorem Device.stopSampling_steady : d.stopSampling.steady = d.steady := rfl
@[simp] theorem Device.offer_steady (f : Frame) : (d.offer f).steady = d.steady := by rw [Device.offer_eq]; rfl
@[simp] theorem Device.offerDone_steady (k : OpKind) (t : Byte) (r : OpResult) (a : Bool) (x : Option OpResult) :
    (d.offerDone k t r a x).steady = d.steady := by simp [Device.offerDone]

@[simp] theorem Device.goTo_steady (st : TravState) : (d.goTo st).steady = d.steady := by
  unfold Device.goTo Device.commandShutter Device.superviseShutter; dsimp only; repeat' split
  all_goals first | rfl | (rw [Device.fallIfActive_steady _ (.inl rfl)]; rfl)

@[simp] theorem Device.endOp_steady (r : OpResult) (x : Option OpResult) : (d.endOp r x).steady = d.steady := by
  unfold Device.endOp; split <;> simp
@[simp] theorem Device.dropEnable_steady : d.dropEnable.steady = d.steady := by unfold Device.dropEnable; split <;> rfl
@[simp] theorem Device.raiseEnable_steady : d.raiseEnable.steady = d.steady := by unfold Device.raiseEnable; split <;> rfl
@[simp] theorem Device.enterHalted_steady : d.enterHalted.steady = d.steady := by unfold Device.enterHalted; split <;> simp
@[simp] theorem Device.restRule_steady : d.restRule.steady = d.steady := by unfold Device.restRule; split <;> simp
@[simp] theorem Device.abandonStd_steady : d.abandonStd.steady = d.steady := by unfold Device.abandonStd; split <;> rfl

theorem Device.closeScan_steady {c : Completion} (aborted : c ≠ .complete) : (d.closeScan c).steady = d.steady := by
  unfold Device.closeScan; split
  · rfl
  · obtain ⟨r, n, report⟩ := Device.prepareReport_only (d.setPrf { d.prf with
      openScan := none, latest := some (OpenScan.finish _ ((d.trv.active.map ScanSettings.minSamples).getD 1) d.now c) }) c
    simp only [if_neg aborted]
    rw [report]; rfl

@[simp] theorem Device.haltAtOnce_steady : d.haltAtOnce.steady = d.steady := by
  simp [Device.haltAtOnce, Device.closeScan_steady]
@[simp] theorem Device.driveFault_steady (n : Nat) : (d.driveFault n).steady = d.steady := by
  simp [Device.driveFault, Device.rise_steady _ (show motionSource srcDriveFault from .inr (.inl rfl))]
@[simp] theorem Device.riseOvertravel_steady : d.riseOvertravel.steady = d.steady :=
  d.rise_steady (.inr (.inr rfl)) _

@[simp] theorem Device.startEpoch_steady : d.startEpoch.steady = d.steady := rfl
@[simp] theorem Device.applySettings_steady (s : ScanSettings) : (d.applySettings s).steady = d.steady := by
  rcases d.applySettings_only s with h | h <;> rw [h] <;> rfl
@[simp] theorem Device.applyPending_steady : d.applyPending.steady = d.steady := by
  unfold Device.applyPending; split <;> simp
@[simp] theorem Device.refreshRange_steady : d.refreshRange.steady = d.steady := by
  rcases d.refreshRange_only with h | h <;> rw [h] <;> rfl
@[simp] theorem Device.openSampleNow_steady (g : Gating) : (d.openSampleNow g).steady = d.steady := rfl
@[simp] theorem Device.startTimeGating_steady (n : Nat) : (d.startTimeGating n).steady = d.steady := rfl
@[simp] theorem Device.startGating_steady : d.startGating.steady = d.steady := by
  unfold Device.startGating Device.openAtBoundary; dsimp only; repeat' split
  all_goals rfl
@[simp] theorem Device.openScanRecord_steady (side : Side) : (d.openScanRecord side).steady = d.steady := rfl
@[simp] theorem Device.enterScan_steady (side : Side) : (d.enterScan side).steady = d.steady := by simp [Device.enterScan]
@[simp] theorem Device.beginCollection_steady : d.beginCollection.steady = d.steady := by
  unfold Device.beginCollection; split <;> rfl
end

section
variable (d : Device) {k : Device → Device} (hk : ∀ e : Device, (k e).steady = e.steady)
include hk
theorem Device.withEnable_steady : (d.withEnable k).steady = d.steady := by
  unfold Device.withEnable; split <;> simp [hk]
theorem Device.startDrive_steady (side : Side) : (d.startDrive side k).steady = d.steady := by
  refine Device.withEnable_steady d (fun e => ?_)
  split <;> simp [hk]
theorem Device.beginMove_steady (dest : Int) (speed : Nat) (p : Purpose) : (d.beginMove dest speed p k).steady = d.steady := by
  unfold Device.beginMove; extract_lets dest; split
  · exact hk d
  · exact Device.startDrive_steady d (fun e => by simp) _
end

section
variable (d : Device)
@[simp] theorem Device.startRun_steady (side : Side) : (Device.startRun side d).steady = d.steady := by
  refine Device.startDrive_steady d (fun e => ?_) side
  dsimp only; split <;> simp
@[simp] theorem Device.moveToRunUp_steady (side : Side) : (d.moveToRunUp side).steady = d.steady := by
  unfold Device.moveToRunUp; split
  · rfl
  · exact Device.beginMove_steady d (fun e => by simp) _ _ _
@[simp] theorem Device.approachScan_steady : d.approachScan.steady = d.steady := by
  unfold Device.approachScan; dsimp only; split <;> simp
@[simp] theorem Device.enterPoint_steady : d.enterPoint.steady = d.steady :=
  Device.withEnable_steady d (fun e => by simp)
@[simp] theorem Device.approachPoint_steady (n : Nat) : (d.approachPoint n).steady = d.steady := by
  unfold Device.approachPoint
  rw [Device.beginMove_steady _ (fun e => by simp)]; simp
@[simp] theorem Device.enterStandardizing_steady : d.enterStandardizing.steady = d.steady := by
  simp [Device.enterStandardizing]
@[simp] theorem Device.setOp_steady (o : OpRecord) : (d.setOp o).steady = d.steady := rfl
@[simp] theorem Device.openScanOp_steady (t : Byte) : (d.openScanOp t).steady = d.steady := by simp [Device.openScanOp]
@[simp] theorem Device.beginScanParked_steady (t : Byte) : (d.beginScanParked t).steady = d.steady := by
  unfold Device.beginScanParked; dsimp only; split <;> simp
@[simp] theorem Device.beginPoint_steady (t : Byte) (n : Nat) : (d.beginPoint t n).steady = d.steady := by
  simp [Device.beginPoint]
@[simp] theorem Device.motionTaken_steady : d.motionTaken.steady = d.steady := by
  unfold Device.motionTaken; dsimp only; split
  · exact (Device.setTrv_steady _ rfl rfl rfl rfl).trans (Device.fallIfActive_steady _ (.inr (.inl rfl)))
  · rfl
@[simp] theorem Device.resumeRefused_steady (k : OpKind) (c : ReplyCode) : (d.resumeRefused k c).steady = d.steady := by
  simp [Device.resumeRefused]
@[simp] theorem Device.tryResume_steady : d.tryResume.steady = d.steady := by
  unfold Device.tryResume; repeat' split
  all_goals simp
@[simp] theorem Device.parkedOp_steady (e : Option (OpResult × Option OpResult)) : (d.parkedOp e).steady = d.steady := by
  unfold Device.parkedOp; repeat' split
  all_goals simp
@[simp] theorem Device.enterParked_steady (e : Option (OpResult × Option OpResult)) : (Device.enterParked e d).steady = d.steady := by
  unfold Device.enterParked; dsimp only; split <;> simp
@[simp] theorem Device.enterParking_steady : d.enterParking.steady = d.steady := by
  unfold Device.enterParking
  rw [Device.beginMove_steady _ (fun e => by simp)]; simp
theorem Device.leaveSheet_steady {c : Completion} (aborted : c ≠ .complete) (r : OpResult) : (d.leaveSheet c r).steady = d.steady := by
  unfold Device.leaveSheet; dsimp only
  rw [Device.beginMove_steady _ (fun e => by simp)]; simp [Device.closeScan_steady _ aborted]
@[simp] theorem Device.parkOnLinkLoss_steady : d.parkOnLinkLoss.steady = d.steady := by
  unfold Device.parkOnLinkLoss; repeat' split
  all_goals simp [Device.leaveSheet_steady]
end

/-! ## Moves that begin -/

section
variable {d : Device} {side : Side} {k : Device → Device}

/-- A motion that starts: ENABLE is high for it (R10). -/
theorem Device.startDrive_runs (ready : d.trv.enable = true ∨ d.pins.ready = true) (opened : d.pins.limit side = false) :
    d.startDrive side k = k d.raiseEnable := by
  have able : ¬(d.trv.enable = false ∧ d.pins.ready = false) := by rcases ready with h | h <;> simp [h]
  unfold Device.startDrive Device.withEnable
  rw [if_neg able]
  exact if_neg (by simp [opened])

/-- A motion toward a closed limit switch ends at its start (R16, logs 13 and 33). -/
theorem Device.startDrive_limited (ready : d.trv.enable = true ∨ d.pins.ready = true) (shut : d.pins.limit side = true) :
    d.startDrive side k = d.raiseEnable.riseOvertravel.haltAtOnce := by
  have able : ¬(d.trv.enable = false ∧ d.pins.ready = false) := by rcases ready with h | h <;> simp [h]
  unfold Device.startDrive Device.withEnable
  rw [if_neg able]
  exact if_pos (by simp [shut])

/-- With READY low a motion ends at its start (R13). -/
theorem Device.withEnable_faults (off : d.trv.enable = false) (low : d.pins.ready = false) : d.withEnable k = d.driveFault 2 :=
  if_pos ⟨off, low⟩

theorem Device.startDrive_faults (off : d.trv.enable = false) (low : d.pins.ready = false) : d.startDrive side k = d.driveFault 2 :=
  Device.withEnable_faults off low

/-- What a motion toward a closed limit switch leaves, as the part before it sees it (R16, log 33). -/
theorem Device.limited_halts (d : Device) : d.raiseEnable.riseOvertravel.haltAtOnce.HaltedFrom d ∧
    d.raiseEnable.riseOvertravel.haltAtOnce.trv.state = .halted ∧ d.raiseEnable.riseOvertravel.haltAtOnce.cond srcOvertravel = true := by
  refine ⟨d.raiseEnable.overtravel_halts.of_raise, ?_, Device.overtravel_cond _⟩
  rw [Device.overtravel_state, Trv.haltedState, if_neg (by simp)]

variable {f : FrameRecord} {dest : Int} {v : Nat} {p : Purpose} (frame : d.trv.frame = some f) (low : (f.softLow : Int) ≤ dest)
  (high : dest ≤ f.softHigh)
include frame low high

/-- A positioning move within the soft limits (R21). -/
theorem Device.beginMove_eq : d.beginMove dest v p k =
    if Machine.dist d.trv.counter dest.toNat ≤ 20 then k d
    else d.startDrive (sideToward d.trv.counter dest.toNat) (fun d =>
      d.setTrv { d.trv with motion := .move dest.toNat v p, target := d.moveTarget dest.toNat v }) := by
  have inside : f.within dest = dest.toNat := by
    rw [FrameRecord.within, min_eq_left high, max_eq_right low]
  unfold Device.beginMove
  rw [frame]
  simp only [inside]

theorem Device.beginMove_arrives (near : Machine.dist d.trv.counter dest.toNat ≤ 20) : d.beginMove dest v p k = k d :=
  (Device.beginMove_eq frame low high).trans (if_pos near)

theorem Device.beginMove_runs (far : 20 < Machine.dist d.trv.counter dest.toNat) (ready : d.trv.enable = true ∨ d.pins.ready = true)
    (opened : d.pins.limit (sideToward d.trv.counter dest.toNat) = false) : d.beginMove dest v p k =
      d.raiseEnable.setTrv { d.raiseEnable.trv with
        motion := .move dest.toNat v p, target := d.raiseEnable.moveTarget dest.toNat v } := by
  rw [Device.beginMove_eq frame low high, if_neg (by omega), Device.startDrive_runs ready opened]

theorem Device.beginMove_limited (far : 20 < Machine.dist d.trv.counter dest.toNat) (ready : d.trv.enable = true ∨ d.pins.ready = true)
    (shut : d.pins.limit (sideToward d.trv.counter dest.toNat) = true) :
    d.beginMove dest v p k = d.raiseEnable.riseOvertravel.haltAtOnce := by
  rw [Device.beginMove_eq frame low high, if_neg (by omega), Device.startDrive_limited ready shut]

theorem Device.beginMove_faults (far : 20 < Machine.dist d.trv.counter dest.toNat) (off : d.trv.enable = false)
    (notReady : d.pins.ready = false) : d.beginMove dest v p k = d.driveFault 2 := by
  rw [Device.beginMove_eq frame low high, if_neg (by omega), Device.startDrive_faults off notReady]
end

/-! ## The HOME switch -/

/-- The position that a homing gives (R8). -/
def Device.atHome (d : Device) : Device :=
  (d.setTrv { d.trv with counter := d.frameField FrameRecord.homeOffset, faultCount := 0, homed := true }).fallIfActive srcPositionLost

theorem Device.homeClosure_seek {d : Device} (seek : d.trv.motion = .seek) : d.homeClosure = d.atHome.enterParking := if_pos seek

theorem Device.homeClosure_unused {d : Device} (other : d.trv.motion ≠ .seek)
    (h : d.trv.homed = true → Machine.dist d.trv.counter (d.frameField FrameRecord.homeOffset) ≤ d.frameField FrameRecord.homeTolerance) :
    d.homeClosure = d := by
  unfold Device.homeClosure
  rw [if_neg other]
  split
  · next homed => exact if_neg (Nat.not_lt.mpr (h homed))
  · rfl

theorem Device.homeClosure_fails {d : Device} (other : d.trv.motion ≠ .seek) (homed : d.trv.homed = true)
    (h : d.frameField FrameRecord.homeTolerance < Machine.dist d.trv.counter (d.frameField FrameRecord.homeOffset)) :
    d.homeClosure = d.losePosition 2 d.trv.counter := by
  unfold Device.homeClosure
  rw [if_neg other, if_pos homed, if_pos h]

/-- Settles O26: the closure that is not used, the home check, and the end of the homing with its move to the park position. -/
theorem homeSwitchCloses : Obligations.HomeSwitchCloses := by
  unfold Obligations.HomeSwitchCloses
  intro s dt f d m off awake opened frame
  have row : exec (.homeSwitchClose dt) s = s.ends m.homeClosure :=
    exec_ends ((row_homeSwitchClose ..).trans (edge_of_ne (by rw [show (s.dev.advance dt).pins.home = false from opened]; decide)))
      awake rfl
  have field (q : FrameRecord → Nat) : m.frameField q = q f := Device.frameField_of_some (d := m) frame q
  refine ⟨fun other lost => ?_, fun other homed within => ?_, fun other homed beyond => ?_, fun seek => ?_⟩
  · rw [row, Device.homeClosure_unused (d := m) other fun homed => absurd homed (by rw [show m.trv.homed = false from lost]; decide)]
  · rw [row, Device.homeClosure_unused (d := m) other fun _ => by rw [field, field]; exact within]
  · rw [row, Device.homeClosure_fails (d := m) other homed (by rw [field, field]; exact beyond)]; rfl
  · rw [row, Device.homeClosure_seek (d := m) seek]
    let y := m.atHome
    let z := y.goTo .parking
    have steady := y.enterParking_steady
    have counter : y.trv.counter = f.homeOffset := by simp [y, Device.atHome, field]
    have zCounter : z.trv.counter = f.homeOffset := by simp [z, counter]
    have trv : y.trv = { m.trv with counter := f.homeOffset, faultCount := 0, homed := true } := by simp [y, Device.atHome, field]
    have zFrame : z.trv.frame = some f := by simp [z, trv]; exact frame
    have lnk : z.lnk = d.lnk := by simp [z, y, Device.atHome, Device.fallIfActive_lnk]; rfl
    obtain ⟨_, _, pins, brk, _⟩ := Device.outside_fields (show y.enterParking.outside = m.outside by simp [y, Device.atHome])
    refine ⟨y.enterParking, rfl, pins, (congrArg Steady.counter steady).trans counter, ?_, ?_, ?_, ?_, brk, ?_, ?_⟩
    · exact (congrArg Steady.faultCount steady :).trans (by simp [Device.steady, trv])
    · exact (congrArg Steady.homed steady :).trans (by simp [Device.steady, trv])
    · rw [Device.steady_cond steady (by unfold motionSource; decide)]
      exact Device.fallIfActive_cond_self _ _
    · exact (congrArg Steady.frame steady :).trans (by simp [Device.steady, trv]; exact frame)
    · exact (congrArg Steady.cnv steady :).trans (by simp [Device.steady, y, Device.atHome]; rfl)
    · intro toward
      have parking : y.enterParking = z.beginMove f.park f.travelSpeed .park (Device.enterParked none) := by
        rw [Device.enterParking, Device.frameField_of_some (d := y) (by rw [trv]; exact frame),
          Device.frameField_of_some (d := y) (by rw [trv]; exact frame)]
      have away : z.raiseEnable.trv.op = d.trv.op ∧ z.raiseEnable.trv.commanded = d.trv.commanded := by simp [z, trv]; exact ⟨rfl, rfl⟩
      refine ⟨fun on low high far => ?_, fun o op home resume low high near => ?_⟩
      · have enable : z.trv.enable = true := by simp [z, trv]; exact on
        have far' : 20 < Machine.dist z.trv.counter ((f.park : Int).toNat) := by rw [zCounter]; exact far
        have side : sideToward z.trv.counter ((f.park : Int).toNat) = toward := by rw [zCounter]; rfl
        have limit : z.pins.limit toward = d.pins.limit toward := by simp [z, y, Device.atHome]; cases toward <;> rfl
        rw [parking]
        refine ⟨fun opened => ?_, fun shut => ?_⟩
        · rw [Device.beginMove_runs zFrame (by omega) (by omega) far' (.inl enable) (by rw [side, limit]; exact opened)]
          exact ⟨by simp [z], rfl, by simp, away.2, away.1, Device.tells_of_lnk (by simpa using lnk)⟩
        · rw [Device.beginMove_limited zFrame (by omega) (by omega) far' (.inl enable) (by rw [side, limit]; exact shut)]
          obtain ⟨halts, state, _⟩ := z.limited_halts
          have told := Device.tells_from halts.tells lnk
          rw [Device.faultDone_congr (d := d) (by simp [z, trv]; rfl)] at told
          exact ⟨state, halts.enable, halts.op, told⟩
      · have zOp : z.trv.op = some o := by simp [z, trv]; exact op
        rw [parking, Device.beginMove_arrives zFrame (by omega) (by omega) (by rw [zCounter]; exact near)]
        obtain ⟨parks, ended, -, told⟩ := Device.enterParked_completes (d := z) (r := .complete) zOp
          (Device.parkedOp_complete (z.parkedStage_op.1.trans zOp) (.inl home)) (.inl (by simp [z, trv]; exact resume))
        have told' := Device.tells_from told lnk
        rw [show z.appliedDone 2 = d.appliedDone 2 by simp [Device.appliedDone, z, trv]; rfl] at told'
        exact ⟨parks.state, parks.enable, parks.commanded, ended, parks.pending, told'⟩

end Sys2Proof.Machine
end


section
/-! PROOFS. Homing, parking and stopping begin (O33, O34); ramps end (O30). -/

namespace Sys2Proof.Machine

/-! ## Accepted commands -/

theorem State.command_accepted {s : State} {dt : Nat} {h : Handler} {kind tag : Byte} {p : List Byte} {e : Device}
    (hd : (s.dev.advance dt).clear) (answer : h ⟨kind, tag, p⟩ (s.dev.advance dt) = (e, some (.only .accepted))) :
    s.command dt h kind tag p = s.replies e (kind + 0x80) tag [1, 0] := by
  rw [State.command_replies hd answer, Answer.frame_only _ _ (by decide)]; rfl

theorem frameCheck_some {d : Device} {f : FrameRecord} (h : d.trv.frame = some f) : d.frameCheck = none :=
  if_neg (by rw [h]; nofun)

/-! ## HOME -/

section
variable (d : Device)

/-- HOMING entered, before the first phase is chosen (R7). -/
def Device.homingStage : Device := (d.goTo .homing).setTrv { (d.goTo .homing).trv with homed := false }

theorem Device.enterHoming_seek (clear : ¬(d.pins.home = true ∨ d.pins.limitTs = true)) : d.enterHoming =
    d.homingStage.startDrive .ts (fun e => e.setTrv { e.trv with
      motion := .seek, target := signed .ts (d.frameField FrameRecord.homingSpeed) }) := by
  have pins : d.homingStage.pins = d.pins := by simp [Device.homingStage]
  have v : d.homingStage.frameField FrameRecord.homingSpeed = d.frameField FrameRecord.homingSpeed := by
    simp [Device.homingStage, Device.frameField]
  rw [← v]
  exact if_neg (pins ▸ clear)

theorem Device.enterHoming_back (back : d.pins.home = true ∨ d.pins.limitTs = true) : d.enterHoming =
    d.homingStage.startDrive .ds (fun e => e.setTrv { e.trv with
      motion := .backOff, target := signed .ds (d.frameField FrameRecord.homingSpeed) }) := by
  have pins : d.homingStage.pins = d.pins := by simp [Device.homingStage]
  have v : d.homingStage.frameField FrameRecord.homingSpeed = d.frameField FrameRecord.homingSpeed := by
    simp [Device.homingStage, Device.frameField]
  rw [← v]
  exact if_pos (pins ▸ back)

/-- HOMING entered with the shutter closed (R17). -/
theorem Device.homingStage_shut (shut : d.trv.openCmd = false) : d.homingStage =
    (d.setTrv { d.trv with state := .homing, homed := false }).stopSampling.setChanged true := by
  rw [Device.homingStage, Device.goTo_shut shut rfl]
  rfl
end

theorem Device.raiseEnable_of_low {d : Device} (off : d.trv.enable = false) :
    d.raiseEnable = d.setTrv { d.trv with enable := true, periodDue := some d.clk } := if_neg (by simp [off])

/-- Settles O33: the seek, the back-off, and the starts that fail. -/
theorem homeBegins : Obligations.HomeBegins := by
  unfold Obligations.HomeBegins
  intro s dt tag f d o taken began back hd follows off frame at'
  have shut : d.trv.openCmd = false := by
    rw [show d.trv.openCmd = d.trv.state.opens from follows]
    rcases at' with h | h | h <;> rw [h] <;> rfl
  have takenSame : taken.lessAlarms = d.lessAlarms := by
    by_cases r : d.pins.ready = true
    · rw [show taken = d.fallIfActive srcDriveFault from if_pos r, Device.fallIfActive_lessAlarms]
    · rw [show taken = d from if_neg r]
  obtain ⟨takenClk, -, -, takenPins, takenTrv, -, -, -, -, -, takenBrk, -⟩ := Device.lessAlarms_fields takenSame
  let x := taken.setTrv { d.trv with resume := none, op := some o }
  have row : exec (.home dt tag []) s = s.replies x.enterHoming 0x98 tag [1, 0] := by
    refine (State.command_accepted (h := Device.home) hd (motionCommand_accepts rfl (homeVerdict_free (at'.imp_right
      (Or.imp_right fun h => ⟨h, off⟩))) (frameCheck_some frame))).trans ?_
    rw [Device.motionTaken_eq]; rfl
  have speed : x.frameField FrameRecord.homingSpeed = f.homingSpeed := Device.frameField_of_some (d := x) frame _
  have stage : x.homingStage = (x.setTrv { x.trv with state := .homing, homed := false }).stopSampling.setChanged true :=
    Device.homingStage_shut x shut
  have stagePins : x.homingStage.pins = d.pins := by rw [stage]; exact takenPins
  have stageTrv : x.homingStage.trv = { d.trv with state := .homing, homed := false, resume := none, op := some o } := by
    rw [stage]; rfl
  have stageEnable : x.homingStage.trv.enable = false := by rw [stage]; exact off
  have drives (side : Side) (m : Motion) (ready : d.pins.ready = true) (opened : d.pins.limit side = false) :
      x.homingStage.startDrive side (fun e => e.setTrv { e.trv with motion := m, target := signed side f.homingSpeed }) =
        began m (signed side f.homingSpeed) := by
    rw [Device.startDrive_runs (.inr (by rw [stagePins]; exact ready)) (by rw [stagePins]; exact opened),
      Device.raiseEnable_of_low stageEnable, stage]
    simp only [began, ← takenClk]
    rfl
  refine ⟨fun ready clear => ?_, fun ready away opened => ?_, fun fails => ?_⟩
  · have opened : d.pins.limit .ts = false := Bool.eq_false_iff.mpr fun h => clear (.inr h)
    rw [row, Device.enterHoming_seek x (by rw [show x.pins = d.pins from takenPins]; exact clear), speed, drives .ts .seek ready opened]
    rfl
  · rw [row, Device.enterHoming_back x (by rw [show x.pins = d.pins from takenPins]; exact away), speed, drives .ds .backOff ready opened]
    rfl
  · have ended : (x.enterHoming).HaltedFrom x.homingStage ∧
        x.enterHoming.trv.state = (if d.pins.ready = false ∧ d.trv.restTimer = none then .unhomed else .halted) ∧
        (if d.pins.ready = false then x.enterHoming.cond srcDriveFault = true else x.enterHoming.cond srcOvertravel = true) := by
      cases ready : d.pins.ready with
      | false =>
        have faults : x.enterHoming = x.homingStage.driveFault 2 := by
          by_cases away : x.pins.home = true ∨ x.pins.limitTs = true
          · rw [Device.enterHoming_back x away, Device.startDrive_faults stageEnable (by rw [stagePins]; exact ready)]
          · rw [Device.enterHoming_seek x away, Device.startDrive_faults stageEnable (by rw [stagePins]; exact ready)]
        have state : x.homingStage.trv.haltedState = if d.trv.restTimer = none then .unhomed else .halted := by
          simp [Trv.haltedState, stageTrv, off]
        rw [faults, Device.driveFault_state, state]
        exact ⟨Device.driveFault_halts _ _, by simp, Device.driveFault_cond _ _⟩
      | true =>
        obtain ⟨away, shutDs⟩ := fails.resolve_left (by rw [ready]; decide)
        have limited : x.enterHoming = x.homingStage.raiseEnable.riseOvertravel.haltAtOnce := by
          rw [Device.enterHoming_back x (by rw [show x.pins = d.pins from takenPins]; exact away),
            Device.startDrive_limited (.inr (by rw [stagePins]; exact ready)) (by rw [stagePins]; exact shutDs)]
        rw [limited]
        obtain ⟨halts, state, raised⟩ := x.homingStage.limited_halts
        exact ⟨halts, by rw [state]; simp, raised⟩
    obtain ⟨halts, state, raised⟩ := ended
    refine ⟨x.enterHoming, row, halts.enable, ?_, halts.op, ?_, ?_, state, ?_, raised⟩
    · rw [halts.homed, stageTrv]
    · rcases halts.resume with h | h
      · exact h
      · rw [h, stageTrv]
    · rw [halts.counter, stageTrv]
    · rw [halts.brk, stage]; exact takenBrk

/-! ## Operations that end with their scan closed and sampling stopped -/

/-- A part in which scan and sampling have ended since another, the shutter shut, and nothing but the motion has changed. -/
structure Device.ClosedFrom (e d : Device) (c : Completion) : Prop where
  openScan : e.prf.openScan = none
  latest : ∀ w ∈ d.prf.openScan, e.prf.latest = some (w.finish ((d.trv.active.map ScanSettings.minSamples).getD 1) d.now c)
  openCmd : e.trv.openCmd = false
  sample : e.acq.sample = none ∧ e.acq.sampleTimer = none
  steady : e.steady = d.steady
  outside : e.outside = d.outside

section
variable {d e z : Device} {c : Completion}

theorem Device.ClosedFrom.fields (h : e.ClosedFrom d c) : e.brk = d.brk ∧ e.cnv = d.cnv ∧ e.pins = d.pins ∧ e.std.ref = d.std.ref ∧
    e.trv.counter = d.trv.counter ∧ e.trv.homed = d.trv.homed := by
  obtain ⟨_, _, pins, brk, _⟩ := Device.outside_fields h.outside
  exact ⟨brk, (congrArg Steady.cnv h.steady :), pins, (congrArg Steady.ref h.steady :), (congrArg Steady.counter h.steady :),
    (congrArg Steady.homed h.steady :)⟩

/-- A further change that leaves scan, sampling and shutter. -/
theorem Device.ClosedFrom.step (h : z.ClosedFrom d c) (prf : e.prf.openScan = none ∧ e.prf.latest = z.prf.latest)
    (openCmd : e.trv.openCmd = false) (sample : e.acq.sample = none ∧ e.acq.sampleTimer = none) (steady : e.steady = z.steady)
    (outside : e.outside = z.outside) : e.ClosedFrom d c :=
  ⟨prf.1, fun w hw => prf.2.trans (h.latest w hw), openCmd, sample, steady.trans h.steady, outside.trans h.outside⟩

theorem Device.ClosedFrom.halts (h : z.ClosedFrom d c) (halts : e.HaltedFrom z) (steady : e.steady = z.steady)
    (outside : e.outside = z.outside) : e.ClosedFrom d c :=
  h.step ⟨halts.openScan, by rw [halts.prf h.openScan]⟩ (halts.shut (.inl h.openCmd)) (halts.sample h.sample.1 h.sample.2) steady outside

theorem Device.ClosedFrom.parks (h : z.ClosedFrom d c) (parks : e.ParkedFrom z) (steady : e.steady = z.steady)
    (outside : e.outside = z.outside) : e.ClosedFrom d c := by
  refine h.step ?_ parks.openCmd ⟨parks.sample.1, parks.sample.2.1⟩ steady outside
  rcases parks.prf with same | epoch
  · rw [same]; exact ⟨h.openScan, rfl⟩
  · rw [epoch]; exact ⟨h.openScan, rfl⟩

theorem Device.ClosedFrom.rests (h : e.ClosedFrom d c) : e.restRule.ClosedFrom d c := by
  unfold Device.restRule
  split
  · exact h.step (by simp [h.openScan]) (by simp [TravState.opens]) (by simp) (by simp) (by simp)
  · exact h

/-- A move that begins leaves scan, sampling and shutter. -/
theorem Device.ClosedFrom.moves (h : z.ClosedFrom d c) (m : Motion) (v : Int) :
    (z.raiseEnable.setTrv { z.raiseEnable.trv with motion := m, target := v }).ClosedFrom d c :=
  h.step (by simp [h.openScan]) (by simp [h.openCmd]) (by simp [h.sample]) (by simp) (by simp)
end

/-- An operation in flight aborted by an accepted command (R20, R24, R26). -/
def Device.abortedStage (d : Device) : Device := d.motionTaken.abortOp

theorem Device.motionTaken_lnk (d : Device) : d.motionTaken.lnk = d.lnk := by
  unfold Device.motionTaken; dsimp only; split
  · exact d.fallIfActive_lnk _
  · rfl

theorem Device.motionTaken_blocks (d : Device) : d.motionTaken.acq = d.acq ∧ d.motionTaken.std = d.std ∧ d.motionTaken.prf = d.prf ∧
    d.motionTaken.now = d.now ∧ d.motionTaken.clk = d.clk := by
  unfold Device.motionTaken; dsimp only; split
  · simp [Device.now]
  · exact ⟨rfl, rfl, rfl, rfl, rfl⟩

section
variable (d : Device)

theorem Device.abortedStage_trv : d.abortedStage.trv = { d.trv with resume := none, op := none } := by
  simp [Device.abortedStage, Device.abortOp]

theorem Device.abortedStage_tells : d.abortedStage.tells d (d.opDone 1 d.trv.state.code) := by
  have k := Device.tells_from d.motionTaken.abortOp_tells d.motionTaken_lnk
  rw [Device.opDone_congr (d := d) (by simp), Device.motionTaken_trv] at k
  exact k

theorem Device.abortedStage_blocks : d.abortedStage.acq = d.acq ∧ d.abortedStage.std = d.std ∧ d.abortedStage.now = d.now ∧
    d.abortedStage.steady = d.steady ∧ d.abortedStage.outside = d.outside ∧ d.abortedStage.prf.openScan = none ∧
    ∀ w ∈ d.prf.openScan, d.abortedStage.prf.latest =
      some (w.finish ((d.trv.active.map ScanSettings.minSamples).getD 1) d.now .abortedCommand) := by
  obtain ⟨acq, std, prf, now, clk⟩ := d.motionTaken_blocks
  obtain ⟨p, closes, openScan, -, -, -, latest⟩ := d.motionTaken.closeScan_aborted_only (c := .abortedCommand) (by simp)
  rw [prf, now] at latest
  refine ⟨by simp [Device.abortedStage, Device.abortOp, acq], by simp [Device.abortedStage, Device.abortOp, closes, std], ?_,
    by simp [Device.abortedStage, Device.abortOp, Device.closeScan_steady], by simp [Device.abortedStage],
    by simp [Device.abortedStage, Device.abortOp], ?_⟩
  · rw [← now]; simp [Device.abortedStage, Device.abortOp, Device.now]
  · simpa [Device.abortedStage, Device.abortOp, closes] using latest

/-- A state with the shutter shut entered after an abort. -/
theorem Device.abortedStage_closes (st : TravState) (shuts : st.opens = false) (o : OpRecord) :
    ((d.abortedStage.setOp o).goTo st).ClosedFrom d .abortedCommand := by
  obtain ⟨_, _, _, steady, outside, openScan, latest⟩ := d.abortedStage_blocks
  exact ⟨by simpa [Device.setOp] using openScan, by simpa [Device.setOp] using latest, by simp [shuts], by simp,
    by simp [steady], by simp [outside]⟩
end

/-! ## PARK and STOP -/

/-- STOP is taken outside UNHOMED and HALTED (R20). -/
theorem stopVerdict_taken {d : Device} (unhomed : d.trv.state ≠ .unhomed) (halted : d.trv.state ≠ .halted) : d.stopVerdict = .taken := by
  unfold Device.stopVerdict
  cases h : d.trv.state <;> simp_all

/-- An accepted PARK outside STANDARDIZING is a move to the park position (R24). -/
theorem Device.beginPark_moves {d : Device} {f : FrameRecord} (frame : d.trv.frame = some f) (away : d.trv.state ≠ .standardizing)
    (tag : Byte) : Device.beginPark tag d.motionTaken =
      ((d.abortedStage.setOp (newOp .park tag)).goTo .parking).beginMove f.park f.travelSpeed .park (Device.enterParked none) := by
  have trv := d.abortedStage_trv
  have field (q : FrameRecord → Nat) : (d.abortedStage.setOp (newOp .park tag)).frameField q = q f :=
    Device.frameField_of_some (d := d.abortedStage.setOp (newOp .park tag)) (by simp [Device.setOp, trv, frame]) q
  have other : ¬d.abortedStage.trv.state = .standardizing := by rw [trv]; exact away
  refine (if_neg other).trans ?_
  change (d.abortedStage.setOp (newOp .park tag)).enterParking = _
  rw [Device.enterParking, field, field]

/-- An accepted PARK in STANDARDIZING parks at once (R24, R68). -/
theorem Device.beginPark_standardizing {d : Device} (at' : d.trv.state = .standardizing) (tag : Byte) :
    Device.beginPark tag d.motionTaken = (d.abortedStage.abandonStd.setOp (newOp .park tag)).enterParked none := by
  have there : d.abortedStage.trv.state = .standardizing := by rw [d.abortedStage_trv]; exact at'
  exact if_pos there

/-- Settles O34: PARK by the four ways in which its move begins, PARK in STANDARDIZING, STOP. -/
theorem parkAndStopBegin : Obligations.ParkAndStopBegin := by
  unfold Obligations.ParkAndStopBegin
  intro s dt tag f d st closed aborted parkDone toward hd
  have closedOf (e : Device) (h : e.ClosedFrom d .abortedCommand) (resume : e.trv.resume = none) : closed e := by
    obtain ⟨brk, cnv, pins, ref, counter, homed⟩ := h.fields
    exact ⟨h.openScan, h.sample.1, h.sample.2, brk, cnv, pins, ref, resume, counter, homed, h.openCmd, h.latest⟩
  have parkRow (e : Device) (free : d.parkVerdict = .taken) (frame : d.trv.frame = some f) (begins : Device.beginPark tag d.motionTaken = e) :
      exec (.park dt tag []) s = s.replies e 0x99 tag [1, 0] :=
    (State.command_accepted (h := Device.park) hd (motionCommand_accepts rfl free (frameCheck_some frame))).trans (by rw [← begins]; rfl)
  have trv := d.abortedStage_trv
  have told := d.abortedStage_tells
  refine ⟨fun frame at' low high => ?_, fun frame at' => ?_, fun unhomed halted => ?_⟩
  · have free : d.parkVerdict = .taken := parkVerdict_free (by
      rcases at' with h | h | h | h | h
      · exact .inl (.inr (.inl h))
      · exact .inl (.inr (.inr (.inl h)))
      · exact .inl (.inr (.inr (.inr (.inl h))))
      · exact .inl (.inr (.inr (.inr (.inr h))))
      · exact .inr h)
    have away : d.trv.state ≠ .standardizing := by
      intro c
      rcases at' with h | h | h | h | ⟨h, _⟩ <;> exact absurd (c.symm.trans h) (by decide)
    let z := (d.abortedStage.setOp (newOp .park tag)).goTo .parking
    have zClosed : z.ClosedFrom d .abortedCommand := d.abortedStage_closes .parking rfl _
    have zTrv : z.trv.counter = d.trv.counter ∧ z.trv.enable = d.trv.enable ∧ z.trv.op = some (newOp .park tag) ∧
        z.trv.pending = d.trv.pending ∧ z.trv.commanded = d.trv.commanded ∧ z.trv.frame = some f ∧ z.trv.resume = none ∧
        z.trv.state = .parking := by
      simp [z, Device.setOp, trv]; exact frame
    obtain ⟨counter, enable, op, pending, commanded, zFrame, resume, parking⟩ := zTrv
    have zTells : z.tells d aborted := Device.tells_of_same told (by simp [z, Device.setOp])
    have zPins : z.pins = d.pins := zClosed.fields.2.2.1
    have far' : 20 < Machine.dist d.trv.counter f.park → 20 < Machine.dist z.trv.counter (f.park : Int).toNat := by
      rw [counter]; exact id
    have side : sideToward z.trv.counter (f.park : Int).toNat = toward := by rw [counter]; rfl
    have ready' : d.trv.enable = true ∨ d.pins.ready = true → z.trv.enable = true ∨ z.pins.ready = true := by
      rw [enable, zPins]; exact id
    let e := z.beginMove f.park f.travelSpeed .park (Device.enterParked none)
    have moves (far) (ready) (opened : d.pins.limit toward = false) : e = _ :=
      Device.beginMove_runs (v := f.travelSpeed) (p := .park) (k := Device.enterParked none) zFrame (by omega) (by omega) (far' far)
        (ready' ready) (by rw [side, zPins]; exact opened)
    have limited (far) (ready) (shut : d.pins.limit toward = true) : e = _ :=
      Device.beginMove_limited (v := f.travelSpeed) (p := .park) (k := Device.enterParked none) zFrame (by omega) (by omega) (far' far)
        (ready' ready) (by rw [side, zPins]; exact shut)
    have faults (far) (off : d.trv.enable = false) (notReady : d.pins.ready = false) : e = _ :=
      Device.beginMove_faults (v := f.travelSpeed) (p := .park) (k := Device.enterParked none) zFrame (by omega) (by omega) (far' far)
        (by rw [enable]; exact off) (by rw [zPins]; exact notReady)
    have arrives (near : Machine.dist d.trv.counter f.park ≤ 20) : e = z.enterParked none :=
      Device.beginMove_arrives zFrame (by omega) (by omega) (by rw [counter]; exact near)
    have parks := Device.enterParked_completes (d := z) (r := .complete) op
      (Device.parkedOp_complete (z.parkedStage_op.1.trans op) (.inr rfl)) (.inl resume)
    have haltDone : z.faultDone 9 = [parkDone 2 9] := by rw [Device.faultDone, op]; rfl
    have notParking (h : e.trv.state = .unhomed ∨ e.trv.state = .halted) : e.trv.state ≠ .parking := by
      rcases h with h | h <;> rw [h] <;> decide
    have haltedEither : z.trv.haltedState = .unhomed ∨ z.trv.haltedState = .halted := by
      unfold Trv.haltedState; split
      · exact .inl rfl
      · exact .inr rfl
    refine ⟨e, parkRow e free frame (Device.beginPark_moves frame away tag), ?_, fun far ready opened => ?_, fun far off notReady => ?_,
      fun far ready shut => ?_, fun near => ?_⟩
    · have ends : e.ClosedFrom d .abortedCommand ∧ e.trv.resume = none := by
        by_cases near : Machine.dist d.trv.counter f.park ≤ 20
        · rw [arrives near]
          exact ⟨zClosed.parks parks.1 (by simp) (by simp), parks.2.2.1.trans resume⟩
        have far := Nat.lt_of_not_le near
        have kept (x : Device) (halts : x.HaltedFrom z) : x.trv.resume = none := halts.resume.elim id (·.trans resume)
        by_cases ready : d.trv.enable = true ∨ d.pins.ready = true
        · cases limit : d.pins.limit toward with
          | false => rw [moves far ready limit]; exact ⟨zClosed.moves _ _, by simp [resume]⟩
          | true =>
            have halts := z.limited_halts.1
            rw [limited far ready limit]; exact ⟨zClosed.halts halts (by simp) (by simp), kept _ halts⟩
        · obtain ⟨off, notReady⟩ := not_or.mp ready
          have halts := z.driveFault_halts 2
          rw [faults far (Bool.eq_false_iff.mpr off) (Bool.eq_false_iff.mpr notReady)]
          exact ⟨zClosed.halts halts (by simp) (by simp), kept _ halts⟩
      exact closedOf e ends.1 ends.2
    · rw [moves far ready opened]
      exact ⟨by simp [parking], rfl, by simp, by simp [commanded], by simp [op]; rfl, by simp [pending],
        Device.tells_of_same zTells (by simp)⟩
    · have halts := z.driveFault_halts 2
      have k := Device.tells_trans zTells halts.tells
      rw [haltDone] at k
      refine ⟨notParking ?_, ?_⟩
      · rw [faults far off notReady, Device.driveFault_state]; exact haltedEither
      · rw [faults far off notReady]
        exact ⟨halts.enable, halts.op, z.driveFault_cond 2, k⟩
    · obtain ⟨halts, state, raised⟩ := z.limited_halts
      have k := Device.tells_trans zTells halts.tells
      rw [haltDone] at k
      refine ⟨notParking (.inr ?_), ?_⟩
      · rw [limited far ready shut, state]
      · rw [limited far ready shut]
        exact ⟨halts.enable, halts.op, raised, k⟩
    · obtain ⟨parked, ended, -, parkTold⟩ := parks
      have k := Device.tells_trans zTells parkTold
      rw [← List.append_assoc, Device.appliedDone_congr pending (zFrame.trans frame.symm)] at k
      rw [arrives near]
      exact ⟨parked.state, parked.enable, parked.commanded, ended, parked.pending, k⟩
  · have free : d.parkVerdict = .taken := parkVerdict_free (.inl (.inl at'))
    let y := d.abortedStage.abandonStd.setOp (newOp .park tag)
    obtain ⟨_, std, now, steady, outside, openScan, latest⟩ := d.abortedStage_blocks
    have op : y.trv.op = some (newOp .park tag) := rfl
    have yTrv : y.trv.pending = d.trv.pending ∧ y.trv.frame = d.trv.frame ∧ y.trv.resume = none := by simp [y, Device.setOp, trv]
    obtain ⟨pending, yFrame, resume⟩ := yTrv
    obtain ⟨parks, ended, noResume, parkTold⟩ := Device.enterParked_completes (d := y) (r := .complete) op
      (Device.parkedOp_complete (y.parkedStage_op.1.trans op) (.inr rfl)) (.inl resume)
    have prf : (y.enterParked none).prf.openScan = none ∧ (y.enterParked none).prf.latest = d.abortedStage.prf.latest := by
      rcases parks.prf with h | h <;> rw [h] <;> exact ⟨by simpa [y, Device.setOp] using openScan, by simp [y, Device.setOp]⟩
    have ends : (y.enterParked none).ClosedFrom d .abortedCommand :=
      ⟨prf.1, fun w hw => prf.2.trans (latest w hw), parks.openCmd, ⟨parks.sample.1, parks.sample.2.1⟩, by simp [y, steady],
        by simp [y, outside]⟩
    have yStd : (y.enterParked none).std = d.abandonStd.std := by
      rw [parks.std]; simp [y, Device.setOp, Device.abandonStd_std, std, now]
    have k := Device.tells_trans (Device.tells_of_same (x := y) told (by simp [y, Device.setOp])) parkTold
    rw [← List.append_assoc, Device.appliedDone_congr pending yFrame] at k
    refine ⟨y.enterParked none, parkRow _ free frame (Device.beginPark_standardizing at' tag), closedOf _ ends (noResume.trans resume),
      parks.state, parks.enable, ended, parks.pending, ?_, fun busy => ?_, k⟩
    · rw [yStd, Device.abandonStd_phase]
    · rw [yStd, Device.abandonStd_last _ busy]
  · let w := (d.abortedStage.abandonStd.goTo .halted).setOp (newOp .stop tag)
    obtain ⟨_, std, now, steady, outside, openScan, latest⟩ := d.abortedStage_blocks
    have begins : exec (.stop dt tag []) s = s.replies (if w.trv.enable then w.setTrv { w.trv with target := 0, motion := .stopping }
        else (w.endOp .stopped none).restRule) 0x9D tag [1, 0] :=
      State.command_accepted (h := Device.stop) hd (motionCommand_accepts rfl (stopVerdict_taken unhomed halted) rfl)
    have enable : w.trv.enable = d.trv.enable := by simp [w, Device.setOp, trv]
    have wClosed : w.ClosedFrom d .abortedCommand :=
      ⟨by simpa [w, Device.setOp] using openScan, by simpa [w, Device.setOp] using latest, by simp [w, Device.setOp, TravState.opens],
        by simp [w, Device.setOp], by simp [w, steady], by simp [w, outside]⟩
    have wTells : w.tells d aborted := Device.tells_of_same told (by simp [w, Device.setOp])
    have wStd : w.std = d.abandonStd.std := by simp [w, Device.setOp, Device.abandonStd_std, std, now]
    have busyLast (busy : d.std.phase ≠ .idle) := d.abandonStd_last busy
    cases on : d.trv.enable with
    | true =>
      rw [if_pos (enable.trans on)] at begins
      refine ⟨_, begins, closedOf _ (wClosed.step (by simp [wClosed.openScan]) (by simp [wClosed.openCmd]) wClosed.sample (by simp)
        (by simp)) (by simp [w, Device.setOp]), ?_, fun busy => ?_, ?_, ?_, fun _ => ?_, nofun⟩
      · simp [wStd]
      · simpa [wStd] using busyLast busy
      · simp [w, Device.setOp, trv]
      · simp [enable, on]
      · exact ⟨by simp [w, Device.setOp], rfl, rfl, by simp [w, Device.setOp, trv], rfl, Device.tells_of_same wTells rfl⟩
    | false =>
      rw [if_neg (by rw [enable, on]; decide)] at begins
      have halts : (w.endOp .stopped none).ClosedFrom d .abortedCommand :=
        wClosed.step (by simp [wClosed.openScan]) (by simp [wClosed.openCmd]) (by simp [wClosed.sample]) (by simp) (by simp)
      have kept {α : Type} (q : Trv → α) (h : ∀ e : Device, q (e.goTo .unhomed).trv = q e.trv) :
          q (w.endOp .stopped none).restRule.trv = q { w.trv with op := none } := by
        rw [Device.restRule_keeps _ (fun e => q e.trv) h, Device.endOp_trv]
      have eStd : (w.endOp .stopped none).restRule.std = d.abandonStd.std := by
        rw [Device.restRule_keeps _ Device.std (by simp), Device.endOp_std, wStd]
      have done : w.opDone 7 9 = [⟨0xC1, tag, [0x1D, 7, 0, 9, 255]⟩] := rfl
      have k := Device.tells_endOp wTells .stopped
      rw [show w.trv.state.code = 9 by simp [w, Device.setOp, TravState.code]] at k
      refine ⟨_, begins, closedOf _ halts.rests ?_, ?_, fun busy => ?_, ?_, ?_, nofun, fun _ => ⟨?_, ?_, ?_⟩⟩
      · rw [kept Trv.resume (by simp)]; simp [w, Device.setOp]
      · rw [eStd, Device.abandonStd_phase]
      · rw [eStd]; exact busyLast busy
      · rw [kept Trv.pending (by simp)]; simp [w, Device.setOp, trv]
      · rw [kept Trv.enable (by simp)]; exact enable.trans on
      · rw [kept Trv.op (by simp)]
      · exact Device.tells_of_same k (Device.restRule_keeps _ Device.lnk (by simp))
      · rw [Device.restRule_trv_state _ (by simp [w, Device.setOp])]
        simp [Trv.haltedState, w, Device.setOp, trv, on]

end Sys2Proof.Machine
end


section
/-! PROOFS. How motions arrive and ramps end (O30). -/

namespace Sys2Proof.Machine

/-! ## What an arrival begins -/

section
variable {d : Device}

theorem Device.raiseEnable_of_high (on : d.trv.enable = true) : d.raiseEnable = d := if_pos on

/-- A collection with its time-gated sample (R34, R51, R62). -/
theorem Device.enterStandardizing_trv (d : Device) : d.enterStandardizing.trv = (d.goTo .standardizing).trv := by
  unfold Device.enterStandardizing Device.beginCollection
  split <;> rfl

theorem Device.enterStandardizing_lnk (d : Device) : d.enterStandardizing.lnk = d.lnk := by
  unfold Device.enterStandardizing Device.beginCollection
  split <;> simp [Device.startTimeGating, Device.openSampleNow]

theorem Device.enterStandardizing_prf (d : Device) : d.enterStandardizing.prf = d.prf := by
  unfold Device.enterStandardizing Device.beginCollection
  split <;> simp [Device.startTimeGating, Device.openSampleNow]

theorem Device.enterStandardizing_entry (d : Device) {t : Fin 24} (other : t ≠ srcShutter) : d.enterStandardizing.entry t = d.entry t := by
  refine Eq.trans ?_ (d.goTo_entry other .standardizing)
  unfold Device.enterStandardizing Device.beginCollection
  split <;> rfl

theorem Device.enterStandardizing_collects (off : d.trv.enable = false) : d.enterStandardizing.collectsFrom d := by
  unfold Device.collectsFrom
  rw [Device.enterStandardizing_trv, Device.goTo_trv]
  refine ⟨rfl, rfl, off, fun q hq => ?_⟩
  have settings : (d.goTo .standardizing).std.settings = some q := by rw [Device.goTo_std]; exact hq
  unfold Device.enterStandardizing Device.beginCollection
  rw [settings]
  simp [Device.startTimeGating, Device.openSampleNow, Device.after, Option.mem_def.mp hq]

theorem Device.collectsFrom_congr {e x : Device} (h : e.collectsFrom x) (settings : x.std.settings = d.std.settings) (clk : x.clk = d.clk)
    (counter : x.trv.counter = d.trv.counter) (pins : x.pins = d.pins) : e.collectsFrom d := by
  unfold Device.collectsFrom at *
  rwa [settings, clk, counter, pins] at h

/-- POINT with its time-gated sample, ENABLE high (R33, R51, R111). -/
theorem Device.enterPoint_holds (ready : d.trv.enable = true ∨ d.pins.ready = true) : d.enterPoint =
    (((d.raiseEnable.goTo .point).setTrv { (d.raiseEnable.goTo .point).trv with motion := .hold, target := 0 }).setPrf
      { d.prf with batchCount := 0 }).startTimeGating ((d.trv.active.map ScanSettings.pointPeriod).getD 0) := by
  have able : ¬(d.trv.enable = false ∧ d.pins.ready = false) := by rcases ready with h | h <;> simp [h]
  have prf : (d.raiseEnable.goTo .point).prf = d.prf := by simp
  have active : (d.raiseEnable.goTo .point).trv.active = d.trv.active := by simp
  unfold Device.enterPoint Device.withEnable
  rw [if_neg able, ← prf, ← active]
  rfl

/-- A run toward the range that does not begin at it (R28, R31). -/
theorem Device.startRun_runs {side : Side} (ready : d.trv.enable = true ∨ d.pins.ready = true) (opened : d.pins.limit side = false)
    (before : d.atRangeStart side = false) : Device.startRun side d = d.raiseEnable.setTrv { d.raiseEnable.trv with
      motion := .runUp side, target := signed side d.scanSpeed, scanDir := side } := by
  have speed : d.raiseEnable.scanSpeed = d.scanSpeed := by simp [Device.scanSpeed]
  have start : (d.raiseEnable.setTrv { d.raiseEnable.trv with
      motion := .runUp side, target := signed side d.scanSpeed, scanDir := side }).atRangeStart side = d.atRangeStart side := by
    simp [Device.atRangeStart]
  unfold Device.startRun
  rw [Device.startDrive_runs ready opened, speed]
  exact if_neg (by rw [start, before]; decide)

/-- From speed 0 a move away from the counter has its whole speed as target (R21). -/
theorem Device.moveTarget_from_rest {f : FrameRecord} (frame : d.trv.frame = some f) {dest v : Nat} (still : d.trv.commanded = 0)
    (far : 20 < Machine.dist d.trv.counter dest) :
    d.moveTarget dest v = if d.trv.counter < dest then ((v * 100 : Nat) : Int) else -((v * 100 : Nat) : Int) := by
  have apart : d.trv.counter ≠ dest := by
    rintro same
    rw [same, Machine.dist, if_pos (le_refl _)] at far
    omega
  rw [Device.moveTarget_eq frame, still, if_neg (by simp [apart])]
end

/-- What a ramp step leads to, motion by motion (R7, R15, R21, R31). -/
theorem Device.afterRamp_moving {dest v : Nat} {p : Purpose} {d : Device} (h : d.trv.motion = .move dest v p) : d.afterRamp =
    if d.trv.commanded = 0 ∧ d.trv.target = 0 then
      if Machine.dist d.trv.counter dest ≤ 20 then d.arrive p
      else d.beginMove dest (d.frameField FrameRecord.homingSpeed) p (fun d => d.arrive p)
    else d := by
  simp only [Device.afterRamp, h]

theorem Device.afterRamp_braking {last : Bool} {d : Device} (h : d.trv.motion = .braking last) :
    d.afterRamp = if d.trv.commanded = 0 then d.turnBraked last else d := by
  simp only [Device.afterRamp, h]

theorem Device.afterRamp_stopping {d : Device} (h : d.trv.motion = .stopping) : d.afterRamp =
    if d.trv.commanded = 0 then if d.dropEnable.opKind = some .stop then d.dropEnable.endOp .stopped none else d.dropEnable else d := by
  simp only [Device.afterRamp, h]

/-- Settles O30: motion by motion, each end by its own rule. -/
theorem rampsEnd : Obligations.RampsEnd := by
  unfold Obligations.RampsEnd
  intro d f frame on follows e t speed
  have speeds (side : Side) : speed side = signed side d.scanSpeed := by cases side <;> rfl
  refine ⟨fun h => ?_, fun h => ?_, fun h moving => ?_, fun h still => ?_, fun dest v p h => ⟨fun moving => ?_, fun still zero far low high opened => ?_,
    fun still zero near => ⟨fun park noResume due kinds => ?_, fun park o op scan due => ?_, fun point => ?_, fun side run opened before => ?_⟩⟩,
    fun last r h range => ⟨fun moving => ?_, fun still isLast low high far opened => ?_, fun still notLast opened beyond => ?_,
      fun still notLast lowEnd ends highEnd within => ?_⟩⟩
  · rcases h with h | h | h | ⟨side, h⟩ | h | h <;> simp only [e, Device.afterRamp, show d.trv.motion = _ from h]
  · simp only [e, Device.afterRamp, show d.trv.motion = _ from h]; rfl
  · exact (Device.afterRamp_stopping h).trans (if_neg moving)
  · have ends : e = if d.dropEnable.opKind = some .stop then d.dropEnable.endOp .stopped none else d.dropEnable :=
      (Device.afterRamp_stopping h).trans (if_pos still)
    have kind : d.dropEnable.opKind = d.opKind := by simp [Device.opKind]
    have rest := d.dropEnable_restTimer.trans (if_pos on)
    rw [ends, kind]
    by_cases stop : d.opKind = some .stop
    · obtain ⟨o, op, isStop⟩ := Option.map_eq_some_iff.mp stop
      have told := Device.tells_from (d.dropEnable.endOp_tells .stopped) d.dropEnable_lnk
      rw [Device.opDone_congr (d := d) (by simp), Device.dropEnable_state] at told
      rw [if_pos stop, if_pos stop]
      refine ⟨by simp, by simp, by simp [t], by simpa using rest, by simp [t], fun x hx => ?_, told⟩
      rw [if_pos (by rw [← Option.some.inj (op.symm.trans hx)]; exact isStop)]
      simp
    · rw [if_neg stop, if_neg stop]
      refine ⟨by simp, by simp, by simp [t], rest, by simp [t], fun x hx => ?_, Device.tells_of_lnk (by simp)⟩
      rw [if_neg fun c => stop (Option.map_eq_some_iff.mpr ⟨x, hx, c⟩)]
      simpa using hx
  · exact (Device.afterRamp_moving h).trans (if_neg (by rw [not_and_or]; exact moving))
  · have ends : e = d.beginMove dest (d.frameField FrameRecord.homingSpeed) p (fun d => d.arrive p) :=
      (Device.afterRamp_moving h).trans ((if_pos ⟨still, zero⟩).trans (if_neg (Nat.not_le.mpr far)))
    have creeps := Device.beginMove_runs (v := f.homingSpeed) (p := p) (k := fun d => d.arrive p) frame (dest := dest) (by omega)
      (by omega) far (.inl on) opened
    rw [ends, Device.frameField_of_some frame, creeps, Device.raiseEnable_of_high on, Int.toNat_natCast,
      Device.moveTarget_from_rest frame still far]
  · have arrives : e = d.enterParked none := by
      have := (Device.afterRamp_moving h).trans ((if_pos ⟨still, zero⟩).trans (if_pos near))
      rw [park] at this; exact this
    rw [arrives]
    cases op : d.trv.op with
    | none =>
      obtain ⟨parks, ended, -, told⟩ := Device.enterParked_idle op (.inl noResume) none
      refine ⟨parks.state, parks.enable, ended, parks.pending, ?_⟩
      rw [Device.opDone, op]
      simpa using told
    | some o =>
      have stage := d.parkedStage_op.1.trans op
      have ends : d.parkedStage.parkedOp none = d.parkedStage.endOp (if o.kind = .scan then .planDone else .complete) none := by
        rcases kinds o op with k | k | k
        · rw [Device.parkedOp_complete stage (.inl k), if_neg (by rw [k]; decide)]
        · rw [Device.parkedOp_complete stage (.inr k), if_neg (by rw [k]; decide)]
        · rw [Device.parkedOp_planDone stage k (due o op k), if_pos k]
      obtain ⟨parks, ended, -, told⟩ := Device.enterParked_completes op ends (.inl noResume)
      refine ⟨parks.state, parks.enable, ended, parks.pending, ?_⟩
      rw [Device.opDone, op, Device.opKind, op]
      by_cases k : o.kind = .scan <;> simpa [k, OpResult.code] using told
  · have arrives : e = d.enterParked none := by
      have := (Device.afterRamp_moving h).trans ((if_pos ⟨still, zero⟩).trans (if_pos near))
      rw [park] at this; exact this
    have parks := d.parkedStage_parks
    obtain ⟨stageOp, stageResume⟩ := d.parkedStage_op
    have kept : d.parkedStage.enterStandardizing.trv.op = some o := by
      rw [Device.enterStandardizing_trv]; simpa using stageOp.trans op
    rw [arrives, Device.enterParked_of_kept (Device.parkedOp_standardizes (stageOp.trans op) scan due) (by rw [kept]; nofun)]
    refine ⟨Device.collectsFrom_congr (Device.enterStandardizing_collects parks.enable) (by rw [parks.std]) parks.clk parks.counter
      parks.pins, kept, ?_, ?_, Device.tells_of_same d.parkedStage_tells (Device.enterStandardizing_lnk _)⟩
    · rw [Device.enterStandardizing_trv]; simpa using parks.pending
    · rw [Device.enterStandardizing_trv]; simpa using stageResume
  · have arrives : e = d.enterPoint := by
      have := (Device.afterRamp_moving h).trans ((if_pos ⟨still, zero⟩).trans (if_pos near))
      rw [point] at this; exact this
    rw [arrives, Device.enterPoint_holds (.inl on), Device.raiseEnable_of_high on]
    simp [Device.startTimeGating, Device.openSampleNow, on, TravState.opens, Device.after, t]
  · have arrives : e = Device.startRun side d := by
      have := (Device.afterRamp_moving h).trans ((if_pos ⟨still, zero⟩).trans (if_pos near))
      rw [run] at this; exact this
    rw [arrives, Device.startRun_runs (.inl on) opened before, Device.raiseEnable_of_high on, speeds]
  · exact (Device.afterRamp_braking h).trans (if_neg moving)
  · have ends : e = d.enterParking := by
      have := (Device.afterRamp_braking h).trans (if_pos still)
      rw [isLast] at this; exact this
    have zFrame : (d.goTo .parking).trv.frame = some f := by simpa using frame
    rw [ends, Device.enterParking, Device.frameField_of_some frame, Device.frameField_of_some frame,
      Device.beginMove_runs zFrame (by omega) (by omega) (by simpa using far) (.inl (by simpa using on))
        (by simpa [sideToward, t] using opened)]
    exact ⟨by simp, rfl, by simp [TravState.opens], by simp [t], Device.tells_of_lnk (by simp)⟩
  · have ahead : d.beyondStart d.trv.scanDir = true ∧ d.atRangeStart d.trv.scanDir = false := by
      unfold Device.beyondStart Device.atRangeStart
      rw [show d.trv.range = some r from range]
      cases dir : d.trv.scanDir <;> simp only [t, dir] at beyond <;> simp [beyond]
    have ends : e = Device.startRun d.trv.scanDir d := by
      have := (Device.afterRamp_braking h).trans (if_pos still)
      rw [notLast] at this
      exact this.trans ((if_neg (by decide)).trans (if_pos ahead.1))
    rw [ends, Device.startRun_runs (.inl on) opened ahead.2, Device.raiseEnable_of_high on, speeds]
  · intro dest far opened
    have ahead : d.beyondStart d.trv.scanDir = false := by
      unfold Device.beyondStart
      rw [show d.trv.range = some r from range]
      cases dir : d.trv.scanDir <;> simp only [t, dir] at within <;> simp [within]
    have runUp : (r.runUp d.trv.scanDir).toNat = dest ∧ (f.softLow : Int) ≤ r.runUp d.trv.scanDir ∧
        r.runUp d.trv.scanDir ≤ f.softHigh := by
      cases dir : d.trv.scanDir
      all_goals exact ⟨by simp only [dest, t, dir, EffRange.runUp], by simp only [EffRange.runUp]; omega, by simp only [EffRange.runUp]; omega⟩
    obtain ⟨same, low, high⟩ := runUp
    have ends : e = d.moveToRunUp d.trv.scanDir := by
      have := (Device.afterRamp_braking h).trans (if_pos still)
      rw [notLast] at this
      exact this.trans ((if_neg (by decide)).trans (if_neg (by rw [ahead]; decide)))
    have moves : d.moveToRunUp d.trv.scanDir = d.beginMove (r.runUp d.trv.scanDir) (d.frameField FrameRecord.travelSpeed)
        (.runUp d.trv.scanDir) (Device.startRun d.trv.scanDir) := by
      rw [Device.moveToRunUp, show d.trv.range = some r from range]
    rw [ends, moves, Device.frameField_of_some frame, Device.beginMove_runs frame low high (by rw [same]; exact far) (.inl on)
      (by rw [same]; exact opened), Device.raiseEnable_of_high on, same]
    exact ⟨rfl, rfl, rfl, on⟩

end Sys2Proof.Machine
end


section
/-! PROOFS. The head leaves the sheet: every outcome of a move, parking without a resume, the link state (O17). -/

namespace Sys2Proof.Machine

/-! ## Every outcome of a move -/

/-- A move begins in one of four ways (R13, R16, R21). -/
theorem Device.beginMove_outcome (d : Device) (dest : Int) (v : Nat) (p : Purpose) (k : Device → Device) :
    d.beginMove dest v p k = k d ∨ d.beginMove dest v p k = d.driveFault 2 ∨
    d.beginMove dest v p k = d.raiseEnable.riseOvertravel.haltAtOnce ∨
    ∃ m t, d.beginMove dest v p k = d.raiseEnable.setTrv { d.raiseEnable.trv with motion := m, target := t } := by
  unfold Device.beginMove
  extract_lets pos
  split
  · exact .inl rfl
  · by_cases able : d.trv.enable = false ∧ d.pins.ready = false
    · exact .inr (.inl (Device.startDrive_faults able.1 able.2))
    · have ready : d.trv.enable = true ∨ d.pins.ready = true := by
        cases h : d.trv.enable <;> cases r : d.pins.ready <;> simp_all
      cases limit : d.pins.limit (sideToward d.trv.counter pos) with
      | false => exact .inr (.inr (.inr ⟨_, _, Device.startDrive_runs ready limit⟩))
      | true => exact .inr (.inr (.inl (Device.startDrive_limited ready limit)))

/-! ## Parking with the link state not GOOD -/

/-- No resume begins unless the link state is GOOD: it does nothing, or reports a refusal (R20, R41). -/
theorem Device.tryResume_of_link {d : Device} (bad : d.lnk.link ≠ .good) :
    d.tryResume = d ∨ ∃ k c, d.tryResume = d.resumeRefused k c := by
  unfold Device.tryResume
  split
  · exact .inl rfl
  · split
    · split
      · split
        · exact .inr ⟨_, _, rfl⟩
        · next passes => exact absurd (Device.measureCheck_none (Device.scanCheck_none passes).2).2 bad
      · split
        · exact .inr ⟨_, _, rfl⟩
        · next passes => exact absurd (Device.measureCheck_none (Device.pointCheck_none passes)).2 bad
    · exact .inl rfl

theorem Device.ParkedFrom.refused {d e : Device} (h : e.ParkedFrom d) (k : OpKind) (c : ReplyCode) : (e.resumeRefused k c).ParkedFrom d := by
  have trv : (e.resumeRefused k c).trv = { e.trv with resume := none } := by simp [Device.resumeRefused]
  constructor
  case state => rw [trv]; exact h.state
  case openCmd => rw [trv]; exact h.openCmd
  case enable => rw [trv]; exact h.enable
  case commanded => rw [trv]; exact h.commanded
  case motion => rw [trv]; exact h.motion
  case counter => rw [trv]; exact h.counter
  case homed => rw [trv]; exact h.homed
  case faultCount => rw [trv]; exact h.faultCount
  case frame => rw [trv]; exact h.frame
  case pending => rw [trv]; exact h.pending
  case settings => rw [trv]; exact h.settings
  case sample => simpa [Device.resumeRefused] using h.sample
  case inputs => simpa [Device.resumeRefused] using h.inputs
  case prf => simpa [Device.resumeRefused] using h.prf
  case unpended => simpa [Device.resumeRefused] using h.unpended
  case std => simpa [Device.resumeRefused] using h.std
  case cnv => simpa [Device.resumeRefused] using h.cnv
  case win => simpa [Device.resumeRefused] using h.win
  case brk => simpa [Device.resumeRefused] using h.brk
  case pins => simpa [Device.resumeRefused] using h.pins
  case clk => simpa [Device.resumeRefused] using h.clk
  case link =>
    refine Eq.trans ?_ h.link
    exact (Device.outside_fields (e.resumeRefused_outside k c)).2.2.2.2.1
  case entry => intro t other; exact (Device.entry_congr t (by simp [Device.resumeRefused])).trans (h.entry t other)
  case shutter => exact (Device.cond_congr _ (by simp [Device.resumeRefused])).trans h.shutter

/-- An entry to PARKED that ends what is in flight, the link state not GOOD (R25, R41, R42). -/
theorem Device.enterParked_unlinked {d b : Device} {ending : Option (OpResult × Option OpResult)} (bad : d.lnk.link ≠ .good)
    (stage : d.parkedStage.parkedOp ending = b) (parks : b.ParkedFrom d) (idle : b.trv.op = none) :
    (d.enterParked ending).ParkedFrom d ∧ (d.enterParked ending).trv.op = none := by
  have entered : d.enterParked ending = b.tryResume := by
    change (if (d.parkedStage.parkedOp ending).trv.op.isNone then (d.parkedStage.parkedOp ending).tryResume
      else d.parkedStage.parkedOp ending) = _
    rw [stage, idle]; rfl
  rw [entered]
  rcases Device.tryResume_of_link (show b.lnk.link ≠ .good by rw [parks.link]; exact bad) with h | ⟨k, c, h⟩
  · rw [h]; exact ⟨parks, idle⟩
  · rw [h]; exact ⟨parks.refused k c, by simp [Device.resumeRefused, idle]⟩

/-! ## The head leaves the sheet -/

/-- The head off its operation, before its move to the park position (R39, R42). -/
def Device.leavingStage (d : Device) (c : Completion) (r : OpResult) : Device := ((d.goTo .parking).closeScan c).endOp r none

section
variable (d : Device) (c : Completion) (r : OpResult)

theorem Device.leaveSheet_eq : d.leaveSheet c r = (d.leavingStage c r).beginMove ((d.leavingStage c r).frameField FrameRecord.park)
    ((d.leavingStage c r).frameField FrameRecord.travelSpeed) .park (Device.enterParked none) := rfl

@[simp] theorem Device.leavingStage_trv : (d.leavingStage c r).trv = { (d.goTo .parking).trv with op := none } := by
  simp [Device.leavingStage]

theorem Device.leavingStage_closed (aborted : c ≠ .complete) : (d.leavingStage c r).ClosedFrom d c := by
  obtain ⟨p, closes, openScan, -, -, -, latest⟩ := (d.goTo .parking).closeScan_aborted_only aborted
  refine ⟨by simp [Device.leavingStage], ?_, by simp [TravState.opens], by simp [Device.leavingStage], ?_, by simp [Device.leavingStage]⟩
  · simpa [Device.leavingStage, closes, Device.now] using latest
  · simp [Device.leavingStage, Device.closeScan_steady _ aborted]

theorem Device.leavingStage_tells (aborted : c ≠ .complete) : (d.leavingStage c r).tells d (d.opDone r.code 8) := by
  have before : ((d.goTo .parking).closeScan c).tells d [] :=
    Device.tells_of_lnk (((d.goTo .parking).closeScan_aborted aborted).1.trans (d.goTo_lnk _))
  have k := Device.tells_endOp before r
  rw [Device.opDone_congr (d := d) (by simp)] at k
  simpa [Device.leavingStage, TravState.code] using k

theorem Device.leavingStage_lnk (aborted : c ≠ .complete) {o : OpRecord} (op : d.trv.op = some o) :
    (d.leavingStage c r).lnk = (d.offer (o.done r.code 8 255)).lnk := by
  obtain ⟨closesLnk, closesTrv⟩ := (d.goTo .parking).closeScan_aborted aborted
  have same : ((d.goTo .parking).closeScan c).lnk = d.lnk := closesLnk.trans (d.goTo_lnk _)
  have there : ((d.goTo .parking).closeScan c).trv.op = some o ∧ ((d.goTo .parking).closeScan c).trv.state = .parking := by
    rw [closesTrv]; simp [op]
  rw [Device.leavingStage, Device.endOp_of_some there.1, there.2, Device.offer_eq, Device.offer_eq]
  exact congrArg (fun l : Lnk => l.offered (o.done r.code 8 255)) same

theorem Device.leavingStage_link (aborted : c ≠ .complete) : (d.leavingStage c r).lnk.link = d.lnk.link :=
  (Device.outside_fields (d.leavingStage_closed c r aborted).outside).2.2.2.2.1

/-- Wherever its move leads, the head has left its operation, its scan and its samples (R39, R42). -/
theorem Device.leaveSheet_closed (aborted : c ≠ .complete) (stays : d.lnk.link ≠ .good ∨ d.brk.sheet ≠ .running) :
    (d.leaveSheet c r).ClosedFrom d c ∧ (d.leaveSheet c r).trv.op = none := by
  have closed := d.leavingStage_closed c r aborted
  have link := d.leavingStage_link c r aborted
  have op : (d.leavingStage c r).trv.op = none := by simp
  rw [Device.leaveSheet_eq]
  generalize d.leavingStage c r = z at closed link op
  generalize z.frameField FrameRecord.park = dest
  rcases z.beginMove_outcome dest (z.frameField FrameRecord.travelSpeed) .park (Device.enterParked none) with h | h | h | ⟨m, t, h⟩ <;>
    rw [h]
  · have stage : z.parkedStage.parkedOp none = z.parkedStage := Device.parkedOp_none (z.parkedStage_op.1.trans op)
    have parked : (z.enterParked none).ParkedFrom z ∧ (z.enterParked none).trv.op = none := by
      rcases stays with bad | still
      · exact Device.enterParked_unlinked (by rw [link]; exact bad) stage z.parkedStage_parks (z.parkedStage_op.1.trans op)
      · obtain ⟨parks, ended, -⟩ := Device.enterParked_idle op (.inr (by rw [closed.fields.1]; exact still)) none
        exact ⟨parks, ended⟩
    exact ⟨closed.parks parked.1 (by simp) (by simp), parked.2⟩
  · exact ⟨closed.halts (z.driveFault_halts 2) (by simp) (by simp), (z.driveFault_halts 2).op⟩
  · exact ⟨closed.halts z.limited_halts.1 (by simp) (by simp), z.limited_halts.1.op⟩
  · exact ⟨closed.moves m t, by simp [op]⟩
end

/-- The three ways in which the head, moving, leaves the sheet for a park position within the soft limits (R16, R21, R25). -/
theorem Device.leaveSheet_ends {d : Device} {f : FrameRecord} (c : Completion) (r : OpResult) (aborted : c ≠ .complete)
    (frame : d.trv.frame = some f) (low : f.softLow ≤ f.park) (high : f.park ≤ f.softHigh) :
    let e := d.leaveSheet c r
    let z := d.leavingStage c r
    let toward : Side := if d.trv.counter < f.park then .ds else .ts
    (20 < Machine.dist d.trv.counter f.park → d.trv.enable = true → d.pins.limit toward = false →
      e.trv.state = .parking ∧ e.trv.motion = .move f.park f.travelSpeed .park ∧ e.trv.enable = true ∧
      e.trv.commanded = d.trv.commanded ∧ e.trv.resume = d.trv.resume ∧ e.lnk = z.lnk) ∧
    (20 < Machine.dist d.trv.counter f.park → d.trv.enable = true → d.pins.limit toward = true →
      e.trv.state = .halted ∧ e.trv.enable = false ∧ e.cond srcOvertravel = true ∧ e.tells d (d.opDone r.code 8)) ∧
    (Machine.dist d.trv.counter f.park ≤ 20 → e = z.enterParked none) := by
  intro e z toward
  have zFrame : z.trv.frame = some f := by simp [z, frame]
  have counter : z.trv.counter = d.trv.counter := by simp [z]
  have pins : z.pins = d.pins := (d.leavingStage_closed c r aborted).fields.2.2.1
  have ends : e = z.beginMove f.park f.travelSpeed .park (Device.enterParked none) := by
    rw [show e = d.leaveSheet c r from rfl, Device.leaveSheet_eq, Device.frameField_of_some zFrame, Device.frameField_of_some zFrame]
  have side : sideToward z.trv.counter (f.park : Int).toNat = toward := by rw [counter]; rfl
  rw [ends]
  refine ⟨fun far on opened => ?_, fun far on shut => ?_, fun near => ?_⟩
  · rw [Device.beginMove_runs zFrame (by omega) (by omega) (by rw [counter]; exact far) (.inl (by simpa [z] using on))
      (by rw [side, pins]; exact opened)]
    exact ⟨by simp [z], rfl, by simp, by simp [z], by simp [z], by simp⟩
  · rw [Device.beginMove_limited zFrame (by omega) (by omega) (by rw [counter]; exact far) (.inl (by simpa [z] using on))
      (by rw [side, pins]; exact shut)]
    obtain ⟨halts, state, raised⟩ := z.limited_halts
    have k := Device.tells_trans (d.leavingStage_tells c r aborted) halts.tells
    rw [Device.faultDone, show (d.leavingStage c r).trv.op = none by simp, Option.map_none, Option.toList_none, List.append_nil] at k
    exact ⟨state, halts.enable, raised, k⟩
  · exact Device.beginMove_arrives zFrame (by omega) (by omega) (by rw [counter]; exact near)

/-! ## The link state -/

/-- What the entry to DEGRADED or LOST leaves of the reports and batches (R108, R112). -/
theorem Device.discardTraffic_eq (d : Device) : d.discardTraffic = d.setPrf { d.prf with
    report := if d.prf.report.unbegun = [] then d.prf.report else ⟨d.prf.report.frames.take d.prf.report.next, d.prf.report.next⟩,
    skip := if d.prf.report.unbegun = [] then d.prf.skip else sat16 (d.prf.skip + 1),
    batch := none,
    skippedBatches := if d.prf.batch = none then d.prf.skippedBatches else sat16 (d.prf.skippedBatches + 1) } := by
  unfold Device.discardTraffic Prf.skipped
  by_cases h : d.prf.report.unbegun = []
  · cases b : d.prf.batch with
    | none =>
      have same : d.prf = { d.prf with batch := none } := by rw [← b]
      simp only [h, if_true, b, Option.isSome_none, Bool.false_eq_true, if_false]
      exact congrArg d.setPrf same
    | some f => simp [h, b]
  · cases b : d.prf.batch with
    | none => simp only [h, if_false, b, Option.isSome_none, Bool.false_eq_true, if_true]
    | some f => simp [h, b]

theorem Device.followLink_same {d : Device} (same : d.lnk.link.follow d.lnk.quality = d.lnk.link) : d.followLink = d := if_pos same

/-- A change of the link state, by the state entered (R181). -/
theorem Device.followLink_changed {d : Device} {l : LinkState} (follows : d.lnk.link.follow d.lnk.quality = l) (changes : l ≠ d.lnk.link) :
    let e := (d.setLnk { d.lnk with link := l }).setChanged true
    d.followLink = match l with
      | .good => e.fallIfActive srcLinkDegraded
      | .degraded => (e.rise srcLinkDegraded d.lnk.quality).discardTraffic
      | .lost => (e.rise srcLinkDegraded d.lnk.quality).discardTraffic.parkOnLinkLoss := by
  intro e
  unfold Device.followLink
  simp only [follows]
  rw [if_neg changes]
  cases l <;> rfl

/-- What an entry to LOST does to a standing, a parking or a homing head (R42). -/
theorem Device.parkOnLinkLoss_elsewhere {d : Device} (off : d.trv.state.overSheet = false) (away : d.trv.state ≠ .standardizing) :
    d.parkOnLinkLoss = if d.opKind = some .scan ∨ d.opKind = some .point then d.endOp .link none else d := by
  unfold Device.parkOnLinkLoss
  rw [if_neg (by rw [off]; decide), if_neg away]

theorem TravState.overSheet_iff (st : TravState) : st.overSheet = true ↔ st = .approach ∨ st = .scan ∨ st = .turn ∨ st = .point := by
  cases st <;> decide

/-- Settles O17: the link state by its two thresholds, then an entry to LOST by traverse state. -/
theorem linkStateActs : Obligations.LinkStateActs := by
  unfold Obligations.LinkStateActs
  intro d entered left
  have leaves (e : Device) : e.discardTraffic = left e := e.discardTraffic_eq
  refine ⟨fun h q => ?_, fun h q => ?_, fun h q => ?_, fun h q p => ?_, fun h q => ?_, fun h q => ?_, fun h q => ?_, fun lost => ?_⟩
  · exact Device.followLink_same (by rw [h]; exact if_neg (by omega))
  · refine (Device.followLink_changed (l := .degraded) (by rw [h]; exact if_pos q) (by rw [h]; decide)).trans (leaves _)
  · exact Device.followLink_changed (l := .good) (by rw [h]; exact (if_neg (by omega)).trans (if_pos q)) (by rw [h]; decide)
  · exact Device.followLink_same (by rw [h]; exact (if_neg (by omega)).trans (if_neg (by omega)))
  · refine (Device.followLink_changed (l := .lost) (by rw [h]; exact if_pos q) (by rw [h]; decide)).trans ?_
    exact congrArg Device.parkOnLinkLoss (leaves _)
  · exact Device.followLink_changed (l := .good) (by rw [h]; exact if_pos q) (by rw [h]; decide)
  · exact Device.followLink_same (by rw [h]; exact if_neg (by omega))
  · intro e st sheeted
    have bad : d.lnk.link ≠ .good := by rw [lost]; decide
    obtain ⟨_, _, pins, brk, _⟩ := Device.outside_fields (show e.outside = d.outside by simp [e])
    have steady : e.steady = d.steady := d.parkOnLinkLoss_steady
    have sheetedIff : d.trv.state.overSheet = true ↔ sheeted := d.trv.state.overSheet_iff
    refine ⟨brk, (congrArg Steady.cnv steady :), (congrArg Steady.win steady :), pins, (congrArg Steady.ref steady :),
      (congrArg Steady.counter steady :), (congrArg Steady.homed steady :), fun on => ?_, fun at' => ?_, fun off away o op kind => ?_,
      fun off away other => ?_⟩
    · have ends : e = d.leaveSheet .abortedLink .link := if_pos (sheetedIff.mpr on)
      obtain ⟨closed, op⟩ := d.leaveSheet_closed .abortedLink .link (by decide) (.inl bad)
      rw [ends]
      refine ⟨op, closed.openCmd, closed.openScan, closed.sample.1, closed.sample.2, closed.latest, fun f frame low high => ?_⟩
      intro toward
      obtain ⟨moves, limited, arrives⟩ := Device.leaveSheet_ends .abortedLink .link (by decide) frame low high
      refine ⟨fun far enable opened => ?_, limited, fun near => ?_⟩
      · obtain ⟨state, motion, on', commanded, resume, lnk⟩ := moves far enable opened
        exact ⟨state, motion, on', commanded, resume, fun o op => lnk.trans (d.leavingStage_lnk .abortedLink .link (by decide) op)⟩
      · rw [arrives near]
        have closed := d.leavingStage_closed .abortedLink .link (by decide)
        have told := d.leavingStage_tells .abortedLink .link (by decide)
        have link := d.leavingStage_link .abortedLink .link (by decide)
        have same : (d.leavingStage .abortedLink .link).trv.pending = d.trv.pending ∧
            (d.leavingStage .abortedLink .link).trv.frame = d.trv.frame ∧
            (d.leavingStage .abortedLink .link).trv.resume = d.trv.resume ∧ (d.leavingStage .abortedLink .link).trv.op = none := by simp
        obtain ⟨pending, frame', resume, idle⟩ := same
        generalize d.leavingStage .abortedLink .link = z at closed told link pending frame' resume idle
        have stage : z.parkedStage.parkedOp none = z.parkedStage := Device.parkedOp_none (z.parkedStage_op.1.trans idle)
        obtain ⟨parks, -⟩ := Device.enterParked_unlinked (by rw [link]; exact bad) stage z.parkedStage_parks (z.parkedStage_op.1.trans idle)
        refine ⟨parks.state, parks.enable, parks.commanded, parks.pending, fun noResume => ?_⟩
        have k := Device.tells_trans told (Device.enterParked_idle idle (.inl (resume.trans noResume)) none).2.2.2
        rwa [Device.appliedDone_congr pending frame'] at k
    · have ends : e = d.abandonStd.enterParked (some (if d.opKind = some .standardize then .aborted else .link, none)) :=
        (if_neg (by rw [show d.trv.state = .standardizing from at']; decide)).trans (if_pos at')
      generalize hr : (if d.opKind = some .standardize then .aborted else .link : OpResult) = r at ends
      have stage : d.abandonStd.parkedStage.parkedOp (some (r, none)) = d.abandonStd.parkedStage.endOp r none := by
        cases h : d.trv.op with
        | none =>
          have none' := d.abandonStd.parkedStage_op.1.trans (by simpa using h)
          rw [Device.parkedOp_none none', Device.endOp, none']
        | some o => exact Device.parkedOp_given (d.abandonStd.parkedStage_op.1.trans (by simpa using h))
      obtain ⟨parks, ended⟩ := Device.enterParked_unlinked (d := d.abandonStd) (by simpa using bad) stage
        (d.abandonStd.parkedStage_parks.ended r none) (by simp)
      rw [ends]
      refine ⟨parks.state, ended, parks.enable, parks.openCmd, parks.pending, ?_, fun busy => ?_, fun noResume o op => ?_⟩
      · rw [parks.std, Device.abandonStd_phase]
      · rw [parks.std, Device.abandonStd_last _ busy]
      · have k := Device.tells_from (d := d) (Device.enterParked_ends (d := d.abandonStd) r none (.inl (by simpa using noResume))).2.2.2
          (by simp)
        rw [Device.appliedDone_congr (d := d) (by simp) (by simp), show d.abandonStd.trv.op = some o by simpa using op] at k
        have code : r.code = if o.kind = .standardize then 1 else 5 := by
          rw [← hr, Device.opKind, op]
          by_cases h : o.kind = .standardize <;> simp [h, OpResult.code]
        rw [← code]; exact k
    · have kinds : d.opKind = some .scan ∨ d.opKind = some .point := by
        rw [Device.opKind, op]; exact kind.imp (congrArg some) (congrArg some)
      rw [show e = d.endOp .link none from
        (Device.parkOnLinkLoss_elsewhere (Bool.eq_false_iff.mpr (mt sheetedIff.mp off)) away).trans (if_pos kinds)]
      exact Device.endOp_of_some op .link none
    · have kinds : ¬(d.opKind = some .scan ∨ d.opKind = some .point) := by
        rintro (h | h) <;> obtain ⟨o, op, kind⟩ := Option.map_eq_some_iff.mp h
        · exact (other o op).1 kind
        · exact (other o op).2 kind
      exact (Device.parkOnLinkLoss_elsewhere (Bool.eq_false_iff.mpr (mt sheetedIff.mp off)) away).trans (if_neg kinds)

end Sys2Proof.Machine
end


section
/-! PROOFS. The entry to SCAN: its first boundary in the formulas of R48, and its sample (O24). -/

namespace Sys2Proof.Machine

/-! ## The first boundary that the head will reach -/

/-- The first boundary at or past the counter in the direction of the scan (R48), as an integer whether the range has it or not. -/
def boundaryAhead (side : Side) (r : EffRange) (pitch n : Nat) : Int :=
  match side with
  | .ds => r.low + ((n - r.low + pitch - 1) / pitch) * pitch
  | .ts => r.low + ((n - r.low) / pitch) * pitch

/-- A boundary one pitch on in the direction of the scan (R49). -/
def pitchOn : Side → Int → Nat → Int
  | .ds, x, pitch => x + pitch
  | .ts, x, pitch => x - pitch

/-- The boundary that the gating then waits for: one pitch on where the head stands on the first. -/
def boundaryAwaited (side : Side) (r : EffRange) (pitch n : Nat) : Int :=
  if boundaryAhead side r pitch n ≠ n then boundaryAhead side r pitch n else pitchOn side (boundaryAhead side r pitch n) pitch

theorem firstBoundary_ds {r : EffRange} {p n : Nat} (pos : 0 ≤ r.low) (cuts : r.low ≤ r.high) (pitch : 0 < p) (reached : r.low ≤ n) :
    firstBoundary .ds r p n = if boundaryAhead .ds r p n ≤ r.high then some (boundaryAhead .ds r p n).toNat else none := by
  obtain ⟨low, high, turn⟩ := r
  obtain ⟨l, rfl⟩ := Int.eq_ofNat_of_zero_le pos
  obtain ⟨h, rfl⟩ := Int.eq_ofNat_of_zero_le (pos.trans cuts)
  obtain ⟨m, rfl⟩ := Nat.exists_eq_add_of_le (Int.ofNat_le.mp reached)
  have ahead : boundaryAhead .ds ⟨l, h, turn⟩ p (l + m : Nat) = ((l + (m + p - 1) / p * p : Nat) : Int) := by
    have shift : ((l + m : Nat) : Int) - l + p - 1 = (m + p - 1 : Nat) := by omega
    simp only [boundaryAhead, shift]; push_cast; rfl
  have fits : l + (m + p - 1) / p * p ≤ l + (h - l) / p * p ↔ l + (m + p - 1) / p * p ≤ h := by
    have cuts' : l ≤ h := Int.ofNat_le.mp cuts
    rw [Nat.add_le_add_iff_left, Nat.mul_le_mul_right_iff pitch, Nat.le_div_iff_mul_le pitch]; omega
  rw [ahead, firstBoundary, if_neg (Int.not_lt.mpr cuts)]
  simp only [Int.toNat_natCast, ceilDiv, Nat.add_sub_cancel_left, fits, Int.ofNat_le]

theorem firstBoundary_ts {r : EffRange} {p n : Nat} (pos : 0 ≤ r.low) (cuts : r.low ≤ r.high) (pitch : 0 < p) (reached : (n : Int) ≤ r.high) :
    firstBoundary .ts r p n = if r.low ≤ boundaryAhead .ts r p n then some (boundaryAhead .ts r p n).toNat else none := by
  obtain ⟨low, high, turn⟩ := r
  obtain ⟨l, rfl⟩ := Int.eq_ofNat_of_zero_le pos
  obtain ⟨h, rfl⟩ := Int.eq_ofNat_of_zero_le (pos.trans cuts)
  rw [firstBoundary, if_neg (Int.not_lt.mpr cuts)]
  rcases Nat.lt_or_ge n l with short | inside
  · have none_left : ¬(l : Int) ≤ boundaryAhead .ts ⟨l, h, turn⟩ p n := by
      have floor : ((n : Int) - l) / p < 0 := Int.ediv_neg_of_neg_of_pos (by omega) (by omega)
      have := Int.mul_neg_of_neg_of_pos floor (Int.ofNat_lt.mpr pitch)
      simp only [boundaryAhead]; omega
    rw [if_neg none_left]
    exact if_pos short
  · obtain ⟨m, rfl⟩ := Nat.exists_eq_add_of_le inside
    have ahead : boundaryAhead .ts ⟨l, h, turn⟩ p (l + m : Nat) = ((l + m / p * p : Nat) : Int) := by
      have shift : ((l + m : Nat) : Int) - l = (m : Nat) := by omega
      simp only [boundaryAhead, shift]; push_cast; rfl
    have fits : l + m / p * p ≤ l + (h - l) / p * p :=
      Nat.add_le_add_left (Nat.mul_le_mul_right p (Nat.div_le_div_right (by have := Int.ofNat_le.mp reached; omega))) l
    rw [ahead, if_pos (Int.ofNat_le.mpr (Nat.le_add_right ..))]
    simp only [Int.toNat_natCast, Nat.add_sub_cancel_left, if_neg (Nat.not_lt.mpr inside), Nat.min_eq_right fits]

/-- The head is at or past the end at which the scan begins. -/
def EffRange.begunAt (r : EffRange) : Side → Nat → Prop
  | .ds, n => r.low ≤ n
  | .ts, n => (n : Int) ≤ r.high

theorem Device.atRangeStart_iff {d : Device} {r : EffRange} (range : d.trv.range = some r) (side : Side) :
    d.atRangeStart side = true ↔ r.begunAt side d.trv.counter := by
  unfold Device.atRangeStart
  rw [range]
  cases side <;> exact decide_eq_true_iff

section
variable {side : Side} {r : EffRange} {p n : Nat} (pos : 0 ≤ r.low) (cuts : r.low ≤ r.high) (pitch : 0 < p) (begun : r.begunAt side n)
include pos cuts pitch begun

/-- The boundary ahead lies between the head and the far end, so that only the far end has to be asked. -/
theorem firstBoundary_eq : firstBoundary side r p n =
    if r.low ≤ boundaryAhead side r p n ∧ boundaryAhead side r p n ≤ r.high then some (boundaryAhead side r p n).toNat else none := by
  cases side with
  | ds =>
    have past : (n : Int) ≤ boundaryAhead .ds r p n := by
      have := Int.mul_ediv_add_emod (n - r.low + p - 1) p
      have := Int.emod_lt_of_pos (n - r.low + p - 1) (Int.ofNat_lt.mpr pitch)
      have := Int.mul_comm (p : Int) ((n - r.low + p - 1) / p)
      simp only [boundaryAhead]; omega
    rw [firstBoundary_ds pos cuts pitch begun]
    exact if_congr ⟨fun k => ⟨Int.le_trans begun past, k⟩, fun k => k.2⟩ rfl rfl
  | ts =>
    have before : boundaryAhead .ts r p n ≤ (n : Int) := by
      have := Int.mul_ediv_add_emod (n - r.low) p
      have := Int.emod_nonneg (n - r.low) (Int.ne_of_gt (Int.ofNat_lt.mpr pitch))
      have := Int.mul_comm (p : Int) ((n - r.low) / p)
      simp only [boundaryAhead]; omega
    rw [firstBoundary_ts pos cuts pitch begun]
    exact if_congr ⟨fun k => ⟨k, Int.le_trans before begun⟩, fun k => k.1⟩ rfl rfl

theorem firstBoundary_here_iff : firstBoundary side r p n = some n ↔
    boundaryAhead side r p n = n ∧ r.low ≤ boundaryAhead side r p n ∧ boundaryAhead side r p n ≤ r.high := by
  rw [firstBoundary_eq pos cuts pitch begun]
  split
  · rw [Option.some_inj]; omega
  · simp only [reduceCtorEq, false_iff]; tauto

omit pos cuts in
/-- One pitch on from a boundary that the head stands on. -/
theorem nextBoundary_eq : nextBoundary side r p n =
    if r.low ≤ pitchOn side n p ∧ pitchOn side n p ≤ r.high then some (pitchOn side n p).toNat else none := by
  cases side with
  | ds =>
    have low : r.low ≤ n := begun
    have fits : ((n + p : Nat) : Int) ≤ r.high ↔ r.low ≤ n + p ∧ (n : Int) + p ≤ r.high := by omega
    exact if_congr fits (congrArg some (by simp only [pitchOn]; omega)) rfl
  | ts =>
    have high : (n : Int) ≤ r.high := begun
    have fits : r.low + p ≤ n ↔ r.low ≤ n - p ∧ (n : Int) - p ≤ r.high := by omega
    exact if_congr fits (congrArg some (by simp only [pitchOn]; omega)) rfl

/-- Where the gating stands after its start: on the next boundary that the head will reach. -/
theorem gate_awaits : (if firstBoundary side r p n = some n then nextBoundary side r p n else firstBoundary side r p n) =
    if r.low ≤ boundaryAwaited side r p n ∧ boundaryAwaited side r p n ≤ r.high then some (boundaryAwaited side r p n).toNat else none := by
  have inside := firstBoundary_here_iff pos cuts pitch begun
  have starts := firstBoundary_eq pos cuts pitch begun
  by_cases here : boundaryAhead side r p n = n
  · rw [show boundaryAwaited side r p n = _ from if_neg (not_not.mpr here)]
    by_cases holds : r.low ≤ boundaryAhead side r p n ∧ boundaryAhead side r p n ≤ r.high
    · rw [if_pos (inside.mpr ⟨here, holds⟩), nextBoundary_eq pitch begun, here]
    · rw [if_neg fun k => holds (inside.mp k).2, starts, if_neg holds, here]
      have past : ¬(r.low ≤ pitchOn side n p ∧ pitchOn side n p ≤ r.high) := by
        rw [here] at holds
        cases side with
        | ds => have low : r.low ≤ n := begun; simp only [pitchOn]; omega
        | ts => have high : (n : Int) ≤ r.high := begun; simp only [pitchOn]; omega
      exact (if_neg past).symm
  · rw [show boundaryAwaited side r p n = _ from if_pos here, if_neg fun k => here (inside.mp k).1, starts]

end

/-! ## The entry to SCAN -/

theorem Device.startGating_only (d : Device) : d.startGating = d.setAcq d.startGating.acq := by
  unfold Device.startGating Device.openAtBoundary Device.openSampleNow
  dsimp only
  split_ifs <;> rfl

theorem Device.startGating_acq {d : Device} {r : EffRange} {p : Nat} (gate : d.gate = some (r, p)) :
    d.startGating.acq = { d.acq with
      next := if firstBoundary d.trv.scanDir r p d.trv.counter = some d.trv.counter
        then nextBoundary d.trv.scanDir r p d.trv.counter else firstBoundary d.trv.scanDir r p d.trv.counter,
      sample := if firstBoundary d.trv.scanDir r p d.trv.counter = some d.trv.counter
        then some ⟨.position, d.trv.counter, d.clk, 0, 0, 0, 0, 0, d.pins.sp, false, false⟩ else d.acq.sample } := by
  have here (x : Acq) : (d.setAcq x).gate = some (r, p) := gate
  unfold Device.startGating Device.openAtBoundary Device.openSampleNow
  simp only [gate, here]
  by_cases here : firstBoundary d.trv.scanDir r p d.trv.counter = some d.trv.counter
  · rw [if_pos here, if_pos here]; exact (congrArg Device.acq (if_pos here)).trans rfl
  · rw [if_neg here, if_neg here]; exact (congrArg Device.acq (if_neg here)).trans rfl

/-- The head enters SCAN in a direction, its scan record and gating still to start. -/
def Device.scanStage (d : Device) (side : Side) : Device :=
  (d.goTo .scan).setTrv { (d.goTo .scan).trv with motion := .scanning, scanDir := side }

theorem Device.enterScan_eq (d : Device) (side : Side) : d.enterScan side = ((d.scanStage side).openScanRecord side).startGating := rfl

theorem Device.afterStep_runUp {d : Device} {side : Side} (runs : d.trv.state = .approach ∨ d.trv.state = .turn)
    (motion : d.trv.motion = .runUp side) (up : Bool) : d.afterStep up = if d.atRangeStart side then d.enterScan side else d := by
  unfold Device.afterStep
  rcases runs with state | state <;> rw [state, motion]

/-- A legal step that does not leave the coordinate (R4, R15). -/
theorem Device.sampleEncoder_inside {d : Device} {a b a0 b0 up : Bool} {n : Nat} (last : d.trv.sampling = some (a0, b0))
    (legal : (a != a0) = !(b != b0)) (dir : up = stepUp a0 b0 a b) (count : n = if up then d.trv.counter + 1 else d.trv.counter - 1)
    (pos : 0 < d.trv.counter) (room : d.trv.counter < 262143) : d.sampleEncoder a b =
      (d.setTrv { d.trv with sampling := some (a, b), counter := n, restTimer := some (d.clk + 100000) }).afterStep up := by
  have changed : (a ≠ a0 ∨ b ≠ b0) ∧ ¬(a ≠ a0 ∧ b ≠ b0) := by revert legal; cases a <;> cases a0 <;> cases b <;> cases b0 <;> decide
  have counts : stepCounter up d.trv.counter = n := by
    cases up with
    | true => exact (stepCounter_up room).trans count.symm
    | false => exact (stepCounter_down pos (Nat.le_of_lt room)).trans count.symm
  have wrapless : ¬(d.trv.homed = true ∧ stepWraps up d.trv.counter = true) := by
    rintro ⟨-, wraps⟩
    cases up <;> simp [stepWraps] at wraps <;> omega
  let x := d.setTrv { d.trv with sampling := some (a, b) }
  rw [Device.sampleEncoder_step last changed.1 changed.2, ← dir]
  refine (Device.takeStep_counts (d := x) wrapless).trans ?_
  rw [show stepCounter up x.trv.counter = n from counts]; rfl

/-- Settles O24. -/
theorem runUpEntersScan : Obligations.RunUpEntersScan := by
  unfold Obligations.RunUpEntersScan
  intro s dt a b r k side d up n a0 b0 last legal dir count pos room awake runs motion follows range active low cuts pitch m reached
  have takes : d.sampleEncoder a b = if m.atRangeStart side then m.enterScan side else m :=
    (Device.sampleEncoder_inside last legal dir count pos room).trans (Device.afterStep_runUp (d := m) runs motion up)
  have starts : m.atRangeStart side = true ↔ reached := (Device.atRangeStart_iff (d := m) range side).trans (by cases side <;> rfl)
  have begun (h : reached) : r.begunAt side n := by cases side <;> exact h
  refine ⟨fun h => ?_, fun h => ⟨m.enterScan side, ?_, ?_⟩⟩
  · exact exec_ends (row_legalStep ..) awake (takes.trans (if_neg fun k => h (starts.mp k)))
  · exact exec_ends (row_legalStep ..) awake (takes.trans (if_pos (starts.mpr h)))
  let x := (m.scanStage side).openScanRecord side
  have gate : x.gate = some (r, k.pitch) := by
    simp [x, Device.gate, Device.openScanRecord, Device.scanStage, m, range, active]
  have acq := Device.startGating_acq gate
  have dir : x.trv.scanDir = side := rfl
  have at_n : x.trv.counter = n := by simp [x, Device.openScanRecord, Device.scanStage, m]
  rw [dir, at_n, gate_awaits low cuts pitch (begun h)] at acq
  have enters : m.enterScan side = x.setAcq x.startGating.acq := Device.startGating_only x
  have trv : x.trv = { (m.goTo .scan).trv with motion := .scanning, scanDir := side } := rfl
  rw [Device.goTo_trv] at trv
  have same : (m.goTo .scan).prf = d.prf ∧ (m.goTo .scan).now = d.now ∧ (m.goTo .scan).trv.active = some k := by
    simp [Device.now, m, active]
  obtain ⟨prf, now, settings⟩ := same
  have record : x.prf = { d.prf with
      scanNumber := (d.prf.scanNumber + 1) % 4294967296,
      openScan := some ⟨(d.prf.scanNumber + 1) % 4294967296, side, d.now, ⟨k.p0, k.width, k.count⟩, 0, 0, none, none,
        List.replicate k.count SliceAcc.empty⟩ } := by
    rw [← now, ← prf]
    simp only [x, Device.openScanRecord, Device.scanStage, Device.setPrf, Device.setTrv, settings]
    rfl
  have acq0 : x.acq = { d.acq with sample := none, sampleTimer := none, next := none } := Device.goTo_acq ..
  have clk : x.clk = d.clk := Device.goTo_clk ..
  have pins : x.pins = d.pins := Device.goTo_pins ..
  rw [acq0, clk, pins] at acq
  rw [enters, acq]
  have number : x.prf.scanNumber = (d.prf.scanNumber + 1) % 4294967296 := congrArg Prf.scanNumber record
  refine ⟨(congrArg Trv.state trv :), rfl, rfl, (congrArg Trv.openCmd trv :), at_n, (congrArg Trv.enable trv :), (congrArg Trv.commanded trv :),
    (congrArg Trv.target trv :), (congrArg Trv.op trv :), number, ((congrArg Prf.openScan record).trans (by rw [← number]) :),
    (congrArg Prf.latest record :), (congrArg Prf.filtered record :), rfl, Device.goTo_std .., Device.goTo_cnv .., Device.goTo_brk ..,
    Device.tells_of_lnk (Device.goTo_lnk ..), ?_⟩
  have opens := firstBoundary_here_iff low cuts pitch (begun h)
  cases side with
  | ds => exact ⟨rfl, if_congr opens rfl rfl, rfl⟩
  | ts => exact ⟨rfl, if_congr opens rfl rfl, rfl⟩

end Sys2Proof.Machine
end


section
/-! PROOFS. Measuring operations begin, by a command or by a resume (O35, O37). -/

namespace Sys2Proof.Machine

/-! ## What the start of a motion keeps -/

/-- A part in which a motion has begun, or ended at its start, since another: resume, settings and profiles stand as they did. -/
structure Device.BegunFrom (e d : Device) : Prop where
  op : e.trv.op = d.trv.op ∨ e.trv.op = none
  resume : e.trv.resume = d.trv.resume ∨ e.trv.resume = none
  settings : e.trv.active = d.trv.active ∧ e.trv.planCount = d.trv.planCount ∧ e.trv.range = d.trv.range ∧ e.trv.pending = d.trv.pending
  profiles : e.prf.filtered = d.prf.filtered ∧ e.prf.reseed = d.prf.reseed ∧ e.prf.latest = d.prf.latest
  steady : e.steady = d.steady
  brk : e.brk = d.brk
  pins : e.pins = d.pins

section
variable {d e : Device}

theorem Device.BegunFrom.refl : d.BegunFrom d := ⟨.inl rfl, .inl rfl, ⟨rfl, rfl, rfl, rfl⟩, ⟨rfl, rfl, rfl⟩, rfl, rfl, rfl⟩

theorem Device.HaltedFrom.begun (halts : e.HaltedFrom d) (closed : d.prf.openScan = none) (steady : e.steady = d.steady) : e.BegunFrom d := by
  refine ⟨.inr halts.op, halts.resume.symm, ⟨halts.active, halts.planCount, halts.range, halts.pending⟩, ?_, steady, halts.brk, halts.pins⟩
  rw [halts.prf closed]; exact ⟨rfl, rfl, rfl⟩

theorem Device.begun_move (d : Device) (m : Motion) (v : Int) :
    (d.raiseEnable.setTrv { d.raiseEnable.trv with motion := m, target := v }).BegunFrom d :=
  ⟨.inl (by simp), .inl (by simp), by simp, by simp, by simp, by simp, by simp⟩

theorem Device.driveFault_begun (closed : d.prf.openScan = none) : (d.driveFault 2).BegunFrom d :=
  (d.driveFault_halts 2).begun closed (by simp)

theorem Device.limited_begun (closed : d.prf.openScan = none) : d.raiseEnable.riseOvertravel.haltAtOnce.BegunFrom d :=
  d.limited_halts.1.begun closed (by simp)

theorem Device.enterPoint_begun (closed : d.prf.openScan = none) : d.enterPoint.BegunFrom d := by
  by_cases ready : d.trv.enable = true ∨ d.pins.ready = true
  · refine ⟨.inl ?_, .inl ?_, ?_, ?_, by simp, ?_, ?_⟩ <;> rw [Device.enterPoint_holds ready] <;>
      simp [Device.startTimeGating, Device.openSampleNow]
  · have off : d.trv.enable = false ∧ d.pins.ready = false := by
      simpa [not_or, Bool.not_eq_true] using ready
    rw [show d.enterPoint = d.driveFault 2 from Device.withEnable_faults off.1 off.2]
    exact Device.driveFault_begun closed

/-- A run-up that begins at the range is a scan at once. -/
theorem Device.enterScan_begun (side : Side) : (d.enterScan side).BegunFrom d := by
  have goes : (d.scanStage side).BegunFrom d :=
    ⟨.inl (by simp [Device.scanStage]), .inl (by simp [Device.scanStage]), by simp [Device.scanStage], by simp [Device.scanStage], by simp [Device.scanStage],
      by simp [Device.scanStage], by simp [Device.scanStage]⟩
  rw [Device.enterScan_eq, Device.startGating_only]
  exact ⟨goes.op, goes.resume, goes.settings, goes.profiles, by rw [← Device.startGating_only, ← Device.enterScan_eq]; simp, goes.brk, goes.pins⟩

theorem Device.BegunFrom.trans {x : Device} (h : e.BegunFrom x) (k : x.BegunFrom d) : e.BegunFrom d := by
  obtain ⟨active, plan, range, pending⟩ := k.settings
  obtain ⟨filtered, reseed, latest⟩ := k.profiles
  refine ⟨?_, ?_, ⟨h.settings.1.trans active, h.settings.2.1.trans plan, h.settings.2.2.1.trans range, h.settings.2.2.2.trans pending⟩,
    ⟨h.profiles.1.trans filtered, h.profiles.2.1.trans reseed, h.profiles.2.2.trans latest⟩, h.steady.trans k.steady,
    h.brk.trans k.brk, h.pins.trans k.pins⟩
  · rcases h.op with same | none
    · rw [same]; exact k.op
    · exact .inr none
  · rcases h.resume with same | none
    · rw [same]; exact k.resume
    · exact .inr none

theorem Device.startRun_begun (closed : d.prf.openScan = none) (side : Side) : (Device.startRun side d).BegunFrom d := by
  by_cases able : d.trv.enable = false ∧ d.pins.ready = false
  · rw [show Device.startRun side d = d.driveFault 2 from Device.startDrive_faults able.1 able.2]
    exact Device.driveFault_begun closed
  have ready : d.trv.enable = true ∨ d.pins.ready = true := by
    simpa [-not_and, not_and_or, Bool.not_eq_false] using able
  cases limit : d.pins.limit side with
  | true =>
    rw [show Device.startRun side d = _ from Device.startDrive_limited ready limit]
    exact Device.limited_begun closed
  | false =>
    rw [show Device.startRun side d = _ from Device.startDrive_runs ready limit]
    let x := d.raiseEnable.setTrv { d.raiseEnable.trv with
      motion := .runUp side, target := signed side d.raiseEnable.scanSpeed, scanDir := side }
    have runs : x.BegunFrom d := ⟨.inl (by simp [x]), .inl (by simp [x]), by simp [x], by simp [x], by simp [x], by simp [x], by simp [x]⟩
    exact keeps_ite (L := fun e : Device => e.BegunFrom d) (fun _ => (x.enterScan_begun side).trans runs) fun _ => runs

theorem Device.beginMove_begun (closed : d.prf.openScan = none) (dest : Int) (v : Nat) (p : Purpose) {k : Device → Device}
    (arrives : (k d).BegunFrom d) : (d.beginMove dest v p k).BegunFrom d := by
  rcases d.beginMove_outcome dest v p k with h | h | h | ⟨m, t, h⟩ <;> rw [h]
  · exact arrives
  · exact Device.driveFault_begun closed
  · exact Device.limited_begun closed
  · exact d.begun_move m t

/-! ## An operation opened -/

/-- An accepted measuring operation before its first motion: its range recomputed, its record open (R19, R20, R22). -/
def Device.opened (d : Device) (o : OpRecord) : Device := d.motionTaken.refreshRange.setOp o

/-- The epoch that begins where the recomputed range differs from the one last used (R22, R104). -/
def Device.epochPrf (d : Device) : Prf := if d.rangeMoved then { d.prf with filtered := none, reseed := true } else d.prf

theorem Device.refreshRange_eq (d : Device) : d.refreshRange = (d.setTrv { d.trv with range := d.rangeInForce }).setPrf d.epochPrf := by
  unfold Device.refreshRange Device.epochPrf Device.rangeMoved
  dsimp only
  split <;> split <;> rfl

section
variable (o : OpRecord)

theorem Device.opened_trv : (d.opened o).trv = { d.trv with resume := none, range := d.rangeInForce, op := some o } := by
  have range : d.motionTaken.rangeInForce = d.rangeInForce := by simp [Device.rangeInForce]
  simp [Device.opened, Device.setOp, range]

theorem Device.opened_prf : (d.opened o).prf = d.epochPrf := by
  have range : d.motionTaken.rangeInForce = d.rangeInForce := by simp [Device.rangeInForce]
  have moved : d.motionTaken.rangeMoved = d.rangeMoved := by
    unfold Device.rangeMoved
    rw [range, Device.motionTaken_trv]
  have prf : d.motionTaken.epochPrf = d.epochPrf := by rw [Device.epochPrf, moved, d.motionTaken_blocks.2.2.1]; rfl
  simp [Device.opened, Device.setOp, Device.refreshRange_eq, prf]

theorem Device.opened_blocks : (d.opened o).acq = d.acq ∧ (d.opened o).std = d.std ∧ (d.opened o).lnk = d.lnk ∧ (d.opened o).brk = d.brk ∧
    (d.opened o).pins = d.pins ∧ (d.opened o).clk = d.clk ∧ (d.opened o).steady = d.steady := by
  obtain ⟨acq, std, -, -, clk⟩ := d.motionTaken_blocks
  have taken : d.motionTaken.brk = d.brk ∧ d.motionTaken.pins = d.pins := by rw [Device.motionTaken_eq]; split <;> simp
  have steady : (d.opened o).steady = d.steady := by simp [Device.opened]
  refine ⟨?_, ?_, ?_, ?_, ?_, ?_, steady⟩ <;>
    simp [Device.opened, Device.setOp, Device.refreshRange_eq, acq, std, clk, taken, d.motionTaken_lnk]

theorem Device.opened_alm : (d.opened o).alm = d.motionTaken.alm := by simp [Device.opened, Device.setOp]

theorem Device.opened_fault : (d.pins.ready = true → (d.opened o).cond srcDriveFault = false) ∧
    (d.pins.ready = false → (d.opened o).entry srcDriveFault = d.entry srcDriveFault) := by
  have taken := d.motionTaken_eq
  refine ⟨fun ready => ?_, fun low => ?_⟩
  · rw [if_pos ready] at taken
    rw [Device.cond_congr srcDriveFault (Device.opened_alm o), taken]
    exact Device.fallIfActive_cond_self ..
  · rw [if_neg (by simp [low])] at taken
    rw [Device.entry_congr srcDriveFault (Device.opened_alm o), taken]
    rfl

/-! ## Its first motion -/

/-- The state in which an opened operation begins its first motion. -/
def Device.launch (d : Device) (o : OpRecord) (st : TravState) : Device := (d.opened o).goTo st

variable (st : TravState)

theorem Device.launch_trv : (d.launch o st).trv = { d.trv with
    state := st, resume := none, range := d.rangeInForce, op := some o, openCmd := st.opens,
    mismatch := (d.opened o).mismatchAt st.opens } := by
  rw [Device.launch, Device.goTo_trv, Device.opened_trv]; simp

theorem Device.launch_blocks : (d.launch o st).prf = d.epochPrf ∧ (d.launch o st).std = d.std ∧ (d.launch o st).lnk = d.lnk ∧
    (d.launch o st).brk = d.brk ∧ (d.launch o st).pins = d.pins ∧ (d.launch o st).clk = d.clk ∧ (d.launch o st).steady = d.steady := by
  obtain ⟨-, std, lnk, brk, pins, clk, steady⟩ := d.opened_blocks o
  simp [Device.launch, Device.opened_prf, std, lnk, brk, pins, clk, steady]

theorem Device.launch_fault : (d.pins.ready = true → (d.launch o st).cond srcDriveFault = false) ∧
    (d.pins.ready = false → (d.launch o st).entry srcDriveFault = d.entry srcDriveFault) := by
  have same : (d.launch o st).entry srcDriveFault = (d.opened o).entry srcDriveFault := Device.goTo_entry _ (by decide) st
  exact ⟨fun ready => (Device.cond_of_entry same).trans ((Device.opened_fault o).1 ready),
    fun low => same.trans ((Device.opened_fault o).2 low)⟩

/-- The operation over with FAULT at its start, ENABLE low. -/
def Device.endedAtStart (e d : Device) (o : OpRecord) : Prop :=
  e.trv.op = none ∧ e.trv.enable = false ∧ e.tells d [o.done 2 9 255]

theorem Device.launch_halts {o : OpRecord} {st : TravState} (measures : o.kind ≠ .standardize) (halts : e.HaltedFrom (d.launch o st)) :
    e.endedAtStart d o := by
  have op : (d.launch o st).trv.op = some o := by rw [Device.launch_trv]
  have told : (d.launch o st).faultDone 9 = [o.done 2 9 255] := by
    rw [Device.faultDone, op]; simp [measures]
  exact ⟨halts.op, halts.enable, told ▸ Device.tells_trans (Device.tells_of_lnk (d.launch_blocks o st).2.2.1) halts.tells⟩

theorem Device.launch_faults {o : OpRecord} {st : TravState} (measures : o.kind ≠ .standardize) (off : d.trv.enable = false) :
    ((d.launch o st).driveFault 2).endedAtStart d o ∧ ((d.launch o st).driveFault 2).cond srcDriveFault = true ∧
    ((d.launch o st).driveFault 2).trv.state = if d.trv.homed = false ∧ d.trv.restTimer = none then .unhomed else .halted := by
  refine ⟨Device.launch_halts measures (Device.driveFault_halts ..), Device.driveFault_cond .., ?_⟩
  rw [Device.driveFault_state, Device.launch_trv]
  simp [Trv.haltedState, off]

theorem Device.launch_limited {o : OpRecord} {st : TravState} (measures : o.kind ≠ .standardize) :
    let e := (d.launch o st).raiseEnable.riseOvertravel.haltAtOnce
    e.endedAtStart d o ∧ e.cond srcOvertravel = true ∧ e.trv.state = .halted := by
  obtain ⟨halts, state, raised⟩ := (d.launch o st).limited_halts
  exact ⟨Device.launch_halts measures halts, raised, state⟩

/-- A part in which the first motion has begun: the link untouched, the epoch begun or going on. -/
structure Device.StartedFrom (e d : Device) : Prop where
  lnk : e.lnk = d.lnk
  prf : e.prf = d.epochPrf
  brk : e.brk = d.brk
  fault : d.pins.ready = true → e.cond srcDriveFault = false
  resume : e.trv.resume = none
  range : e.trv.range = d.rangeInForce
  planCount : e.trv.planCount = d.trv.planCount

theorem Device.launch_started (t : Trv) (resume : t.resume = none) (range : t.range = d.rangeInForce)
    (planCount : t.planCount = d.trv.planCount) : ((d.launch o st).raiseEnable.setTrv t).StartedFrom d := by
  obtain ⟨prf, -, lnk, brk, -, -, -⟩ := d.launch_blocks o st
  refine ⟨by simp [lnk], by simp [prf], by simp [brk], fun ready => ?_, resume, range, planCount⟩
  rw [← (d.launch_fault o st).1 ready]
  exact Device.cond_congr _ (by simp)

theorem Device.launch_moves {o : OpRecord} {st : TravState} {f : FrameRecord} {dest v : Nat} {p : Purpose} (frame : d.trv.frame = some f)
    (far : 20 < Machine.dist d.trv.counter dest) :
    let x := (d.launch o st).raiseEnable
    let e := x.setTrv { x.trv with motion := .move dest v p, target := x.moveTarget dest v }
    e.trv.state = st ∧ e.trv.op = some o ∧ e.trv.enable = true ∧ e.trv.openCmd = st.opens ∧ e.trv.motion = .move dest v p ∧
      (d.trv.commanded = 0 →
        e.trv.target = if d.trv.counter < dest then ((v * 100 : Nat) : Int) else -((v * 100 : Nat) : Int)) ∧ e.StartedFrom d := by
  intro x e
  have trv := d.launch_trv o st
  have xTrv : x.trv.counter = d.trv.counter ∧ x.trv.frame = d.trv.frame ∧ x.trv.commanded = d.trv.commanded := by simp [x, trv]
  obtain ⟨counter, xFrame, commanded⟩ := xTrv
  have target (still : d.trv.commanded = 0) : e.trv.target = _ :=
    Device.moveTarget_from_rest (xFrame.trans frame) (commanded.trans still) (by rw [counter]; exact far)
  rw [counter] at target
  exact ⟨by simp [e, x, trv], by simp [e, x, trv], by simp [e, x], by simp [e, x, trv], rfl, target,
    Device.launch_started o st _ (by simp [x, trv]) (by simp [x, trv]) (by simp [x, trv])⟩
end

end

/-! ## The beginnings of SCAN and POINT -/

section
variable (d : Device) (tag : Byte)

/-- The operation record of a SCAN (R19, R27). -/
def Device.scanRecord : OpRecord := ⟨.scan, tag, 0, d.scanNeedsStd, decide (d.trv.planCount = 0), d.rangeMoved⟩

/-- The operation record of a POINT (R19, R33). -/
def Device.pointRecord (pos : Nat) : OpRecord := ⟨.point, tag, pos, false, false, d.rangeMoved⟩

theorem Device.motionTaken_range : d.motionTaken.rangeInForce = d.rangeInForce ∧ d.motionTaken.rangeMoved = d.rangeMoved := by
  have range : d.motionTaken.rangeInForce = d.rangeInForce := by simp [Device.rangeInForce]
  refine ⟨range, ?_⟩
  unfold Device.rangeMoved
  rw [range, Device.motionTaken_trv]

theorem Device.motionTaken_scanNeedsStd : d.motionTaken.scanNeedsStd = d.scanNeedsStd := by
  simp [Device.scanNeedsStd, d.motionTaken_blocks.2.1]

theorem Device.openScanOp_taken : d.motionTaken.openScanOp tag = d.opened (d.scanRecord tag) := by
  simp [Device.openScanOp, Device.opened, Device.scanRecord, d.motionTaken_range.2, d.motionTaken_scanNeedsStd]

theorem Device.beginScanParked_taken : d.motionTaken.beginScanParked tag =
    if d.scanNeedsStd then (d.opened (d.scanRecord tag)).enterStandardizing else (d.opened (d.scanRecord tag)).approachScan := by
  rw [← Device.openScanOp_taken, ← Device.motionTaken_scanNeedsStd]; rfl

theorem Device.beginScan_taken : d.motionTaken.beginScan tag =
    if d.trv.state = .halted ∧ d.scanNeedsStd then (d.opened (d.scanRecord tag)).enterParking else d.motionTaken.beginScanParked tag := by
  rw [← Device.openScanOp_taken, ← Device.motionTaken_scanNeedsStd, ← show d.motionTaken.trv.state = d.trv.state by simp]; rfl

theorem Device.beginPoint_taken (pos : Nat) : d.motionTaken.beginPoint tag pos = (d.opened (d.pointRecord tag pos)).approachPoint pos := by
  rw [Device.pointRecord, ← d.motionTaken_range.2]; rfl

variable {d} {f : FrameRecord} {k : ScanSettings} (frame : d.trv.frame = some f) (active : d.trv.active = some k)
include frame active

theorem Device.rangeInForce_eq : d.rangeInForce = some (effectiveRange f k) := by simp only [Device.rangeInForce, frame, active]

/-- The approach of a scan: a move to the run-up point on its side (R28). -/
theorem Device.approachScan_opened (o : OpRecord) : (d.opened o).approachScan =
    let r := effectiveRange f k
    let side := r.firstSide d.trv.counter
    (d.launch o .approach).beginMove (r.runUp side) f.travelSpeed (.runUp side) (Device.startRun side) := by
  have range : (d.opened o).trv.range = some (effectiveRange f k) := by rw [Device.opened_trv, ← Device.rangeInForce_eq frame active]
  have range' : (d.launch o .approach).trv.range = some (effectiveRange f k) := by
    rw [Device.launch_trv, ← Device.rangeInForce_eq frame active]
  have counter : (d.opened o).trv.counter = d.trv.counter := by rw [Device.opened_trv]
  have frame' : (d.launch o .approach).trv.frame = some f := by rw [Device.launch_trv]; exact frame
  unfold Device.approachScan
  simp only [range, counter]
  unfold Device.moveToRunUp
  rw [show (d.opened o).goTo .approach = d.launch o .approach from rfl, range', Device.frameField_of_some frame']

omit active in
theorem Device.approachPoint_opened (o : OpRecord) (pos : Nat) : (d.opened o).approachPoint pos =
    (d.launch o .approach).beginMove pos f.travelSpeed .point Device.enterPoint := by
  have frame' : (d.opened o).trv.frame = some f := by rw [Device.opened_trv]; exact frame
  unfold Device.approachPoint
  rw [show (d.opened o).goTo .approach = d.launch o .approach from rfl, Device.frameField_of_some frame']

omit active in
theorem Device.enterParking_opened (o : OpRecord) : (d.opened o).enterParking =
    (d.launch o .parking).beginMove f.park f.travelSpeed .park (Device.enterParked none) := by
  have frame' : (d.opened o).trv.frame = some f := by rw [Device.opened_trv]; exact frame
  unfold Device.enterParking
  rw [show (d.opened o).goTo .parking = d.launch o .parking from rfl, Device.frameField_of_some frame', Device.frameField_of_some frame']

omit frame active in
/-- The run-up point of either side lies within the soft limits once the range has both its ends (R22, R28). -/
theorem runUp_within (cuts : (effectiveRange f k).low ≤ (effectiveRange f k).high) (side : Side) :
    (f.softLow : Int) ≤ (effectiveRange f k).runUp side ∧ (effectiveRange f k).runUp side ≤ f.softHigh := by
  unfold effectiveRange at *
  cases side <;> simp only [EffRange.runUp] at * <;> omega

end

/-! ## What a measuring operation keeps as it begins -/

/-- A part in which a measuring operation has begun, or ended at its start. -/
structure Device.MeasuresFrom (e d : Device) : Prop where
  resume : e.trv.resume = none
  counter : e.trv.counter = d.trv.counter
  homed : e.trv.homed = d.trv.homed
  settings : d.trv.pending = none → e.trv.active = d.trv.active ∧ e.trv.planCount = d.trv.planCount ∧ e.trv.range = d.rangeInForce
  brk : e.brk = d.brk
  cnv : e.cnv = d.cnv
  win : e.win = d.win
  pins : e.pins = d.pins
  ref : e.std.ref = d.std.ref
  latest : e.prf.latest = d.prf.latest
  epoch : d.rangeMoved = true → e.prf.filtered = none ∧ e.prf.reseed = true
  goesOn : d.rangeMoved = false → d.trv.pending = none → e.prf.filtered = d.prf.filtered ∧ e.prf.reseed = d.prf.reseed

section
variable {d e : Device} {o : OpRecord}

theorem Device.epochPrf_latest (d : Device) : d.epochPrf.latest = d.prf.latest ∧ d.epochPrf.openScan = d.prf.openScan := by
  unfold Device.epochPrf; split <;> exact ⟨rfl, rfl⟩

theorem Device.epochPrf_moved (moved : d.rangeMoved = true) : d.epochPrf = { d.prf with filtered := none, reseed := true } := if_pos moved

theorem Device.epochPrf_same (same : d.rangeMoved = false) : d.epochPrf = d.prf := if_neg (by simp [same])

theorem Device.launch_begun (o : OpRecord) (st : TravState) : (d.launch o st).BegunFrom (d.opened o) :=
  ⟨.inl (by simp [Device.launch]), (by simp [Device.launch, Device.opened_trv]), by simp [Device.launch], by simp [Device.launch],
    by simp [Device.launch], by simp [Device.launch], by simp [Device.launch]⟩

theorem Device.BegunFrom.measures (h : e.BegunFrom (d.opened o)) : e.MeasuresFrom d := by
  obtain ⟨-, std, -, brk, pins, -, steady⟩ := d.opened_blocks o
  have trv := d.opened_trv o
  have same := h.steady.trans steady
  obtain ⟨filtered, reseed, latest⟩ := h.profiles
  rw [Device.opened_prf] at filtered reseed latest
  refine ⟨?_, (congrArg Steady.counter same :), (congrArg Steady.homed same :), fun _ => ?_, h.brk.trans brk, (congrArg Steady.cnv same :),
    (congrArg Steady.win same :), h.pins.trans pins, (congrArg Steady.ref same :), latest.trans d.epochPrf_latest.1, fun moved => ?_,
    fun same _ => ?_⟩
  · rcases h.resume with r | r
    · rw [r, trv]
    · exact r
  · rw [h.settings.1, h.settings.2.1, h.settings.2.2.1, trv]; exact ⟨rfl, rfl, rfl⟩
  · rw [filtered, reseed, Device.epochPrf_moved moved]; exact ⟨rfl, rfl⟩
  · rw [filtered, reseed, Device.epochPrf_same same]; exact ⟨rfl, rfl⟩
end

/-! ## Outcomes of the first motion -/

section
variable {d : Device} {o : OpRecord} {f : FrameRecord}

/-- The first motion of a measuring operation whose destination lies within the soft limits (R13, R16, R21). -/
theorem Device.launch_outcomes {st : TravState} {dest : Int} {v : Nat} {p : Purpose} {arrive : Device → Device}
    (frame : d.trv.frame = some f) (measures : o.kind ≠ .standardize)
    (inside : (f.softLow : Int) ≤ dest ∧ dest ≤ f.softHigh) :
    let e := (d.launch o st).beginMove dest v p arrive
    let side := sideToward d.trv.counter dest.toNat
    (Machine.dist d.trv.counter dest.toNat ≤ 20 → e = arrive (d.launch o st)) ∧
    (20 < Machine.dist d.trv.counter dest.toNat → d.pins.ready = true → d.pins.limit side = false →
      e.trv.state = st ∧ e.trv.op = some o ∧ e.trv.enable = true ∧ e.trv.openCmd = st.opens ∧ e.trv.motion = .move dest.toNat v p ∧
      (d.trv.commanded = 0 →
        e.trv.target = if d.trv.counter < dest.toNat then ((v * 100 : Nat) : Int) else -((v * 100 : Nat) : Int)) ∧ e.StartedFrom d) ∧
    (20 < Machine.dist d.trv.counter dest.toNat → d.pins.ready = true → d.pins.limit side = true →
      e.endedAtStart d o ∧ e.cond srcOvertravel = true ∧ e.trv.state = .halted) ∧
    (20 < Machine.dist d.trv.counter dest.toNat → d.trv.enable = false → d.pins.ready = false → e = (d.launch o st).driveFault 2) := by
  intro e side
  have trv := d.launch_trv o st
  have pins : (d.launch o st).pins = d.pins := (d.launch_blocks o st).2.2.2.2.1
  have counter : (d.launch o st).trv.counter = d.trv.counter := by rw [trv]
  have frame' : (d.launch o st).trv.frame = some f := by rw [trv]; exact frame
  obtain ⟨low, high⟩ := inside
  refine ⟨fun near => ?_, fun far ready opened => ?_, fun far ready shut => ?_, fun far off notReady => ?_⟩
  · exact Device.beginMove_arrives frame' low high (by rw [counter]; exact near)
  · rw [show e = _ from Device.beginMove_runs frame' low high (by rw [counter]; exact far) (.inr (by rw [pins]; exact ready))
      (by rw [counter, pins]; exact opened)]
    exact Device.launch_moves frame far
  · rw [show e = _ from Device.beginMove_limited frame' low high (by rw [counter]; exact far) (.inr (by rw [pins]; exact ready))
      (by rw [counter, pins]; exact shut)]
    exact Device.launch_limited measures
  · exact Device.beginMove_faults frame' low high (by rw [counter]; exact far) (by rw [trv]; exact off) (by rw [pins]; exact notReady)

/-- Within 20 fc of its run-up point a scan runs toward the range at once (R21, R28). -/
theorem Device.launch_startRun {k : ScanSettings} (frame : d.trv.frame = some f) (active : d.trv.active = some k) (side : Side)
    (measures : o.kind ≠ .standardize) :
    let e := Device.startRun side (d.launch o .approach)
    (d.pins.ready = true → d.pins.limit side = false → ¬(effectiveRange f k).begunAt side d.trv.counter →
      e.trv.state = .approach ∧ e.trv.op = some o ∧ e.trv.motion = .runUp side ∧ e.trv.enable = true ∧ e.trv.openCmd = false ∧
      e.trv.scanDir = side ∧ e.trv.target = signed side k.speed ∧ e.StartedFrom d) ∧
    (d.pins.ready = true → d.pins.limit side = true → e.endedAtStart d o ∧ e.cond srcOvertravel = true ∧ e.trv.state = .halted) ∧
    (d.trv.enable = false → d.pins.ready = false → e = (d.launch o .approach).driveFault 2) := by
  intro e
  have trv := d.launch_trv o .approach
  have pins : (d.launch o .approach).pins = d.pins := (d.launch_blocks o .approach).2.2.2.2.1
  refine ⟨fun ready opened before => ?_, fun ready shut => ?_, fun off low => ?_⟩
  · have range : (d.launch o .approach).trv.range = some (effectiveRange f k) := by
      rw [trv, ← Device.rangeInForce_eq frame active]
    have off : (d.launch o .approach).atRangeStart side = false := by
      rw [Bool.eq_false_iff, ne_eq, Device.atRangeStart_iff range, show (d.launch o .approach).trv.counter = d.trv.counter by rw [trv]]
      exact before
    have speed : (d.launch o .approach).scanSpeed = k.speed := by simp [Device.scanSpeed, trv, active]
    rw [show e = _ from Device.startRun_runs (.inr (by rw [pins]; exact ready)) (by rw [pins]; exact opened) off, speed]
    exact ⟨by simp [trv], by simp [trv], rfl, by simp, by simp [trv, TravState.opens], rfl, rfl,
      Device.launch_started o _ _ (by simp [trv]) (by simp [trv]) (by simp [trv])⟩
  · rw [show e = _ from Device.startDrive_limited (.inr (by rw [pins]; exact ready)) (by rw [pins]; exact shut)]
    exact Device.launch_limited measures
  · exact Device.startDrive_faults (by rw [trv]; exact off) (by rw [pins]; exact low)

/-- The head held at its point, its first sample open (R33, R51). -/
def Device.holdPoint (d : Device) (q : Prf) (period : Nat) : Device :=
  ((d.setTrv { d.trv with motion := .hold, target := 0 }).setPrf q).startTimeGating period

theorem Device.holdPoint_fields (d : Device) (q : Prf) (period : Nat) :
    (d.holdPoint q period).trv = { d.trv with motion := .hold, target := 0 } ∧ (d.holdPoint q period).lnk = d.lnk ∧
    (d.holdPoint q period).acq.sampleTimer = some (d.clk + period * 1000) ∧
    (d.holdPoint q period).acq.sample = some ⟨.time, d.trv.counter, d.clk, 0, 0, 0, 0, 0, d.pins.sp, false, false⟩ ∧
    (d.holdPoint q period).prf = q ∧ (d.holdPoint q period).alm = d.alm := ⟨rfl, rfl, rfl, rfl, rfl, rfl⟩

/-- Within 20 fc of its position a POINT holds there at once (R21, R33, R51). -/
theorem Device.launch_enterPoint {k : ScanSettings} (active : d.trv.active = some k) (ready : d.pins.ready = true) :
    let e := (d.launch o .approach).enterPoint
    e.trv.state = .point ∧ e.trv.motion = .hold ∧ e.trv.enable = true ∧ e.trv.openCmd = true ∧ e.trv.op = some o ∧ e.lnk = d.lnk ∧
    e.acq.sampleTimer = some (d.clk + k.pointPeriod * 1000) ∧
    e.acq.sample = some ⟨.time, d.trv.counter, d.clk, 0, 0, 0, 0, 0, d.pins.sp, false, false⟩ ∧
    e.prf = { d.epochPrf with batchCount := 0 } ∧ e.entry srcDriveFault = (d.launch o .approach).entry srcDriveFault ∧
    e.trv.resume = none := by
  have trv := d.launch_trv o .approach
  obtain ⟨prf, -, lnk, -, pins, clk, -⟩ := d.launch_blocks o .approach
  let x := (d.launch o .approach).raiseEnable.goTo .point
  have xTrv : x.trv.state = .point ∧ x.trv.enable = true ∧ x.trv.openCmd = true ∧ x.trv.op = some o ∧ x.trv.counter = d.trv.counter ∧
      x.trv.resume = none := by
    simp [x, trv, TravState.opens]
  have xBlocks : x.lnk = d.lnk ∧ x.clk = d.clk ∧ x.pins = d.pins := by simp [x, lnk, clk, pins]
  obtain ⟨state, enable, openCmd, op, counter, resume⟩ := xTrv
  obtain ⟨xLnk, xClk, xPins⟩ := xBlocks
  have period : ((d.launch o .approach).trv.active.map ScanSettings.pointPeriod).getD 0 = k.pointPeriod := by rw [trv]; simp [active]
  have entry : x.entry srcDriveFault = (d.launch o .approach).entry srcDriveFault :=
    (Device.goTo_entry _ (by decide) _).trans (Device.entry_congr _ (by simp))
  have holds := Device.enterPoint_holds (d := d.launch o .approach) (.inr (by rw [pins]; exact ready))
  rw [period, prf] at holds
  obtain ⟨eTrv, eLnk, timer, sample, ePrf, alm⟩ := x.holdPoint_fields { d.epochPrf with batchCount := 0 } k.pointPeriod
  intro e
  rw [show e = x.holdPoint { d.epochPrf with batchCount := 0 } k.pointPeriod from holds]
  rw [xClk] at timer
  rw [xClk, counter, xPins] at sample
  rw [eTrv]
  exact ⟨state, rfl, enable, openCmd, op, eLnk.trans xLnk, timer, sample, ePrf, (Device.entry_congr _ alm).trans entry, resume⟩

end

end Sys2Proof.Machine
end


section
/-! PROOFS. SCAN, POINT and STANDARDIZE begin (O35). -/

namespace Sys2Proof.Machine

section
variable {d : Device} {o : OpRecord}

theorem Device.enterStandardizing_begun (d : Device) : d.enterStandardizing.BegunFrom d := by
  have outer := Device.outside_fields (show d.enterStandardizing.outside = d.outside by simp)
  refine ⟨.inl ?_, .inl ?_, ?_, ?_, by simp, outer.2.2.2.1, outer.2.2.1⟩ <;>
    simp [Device.enterStandardizing_trv, Device.enterStandardizing_prf]

theorem Device.opened_collects (off : d.trv.enable = false) : (d.opened o).enterStandardizing.collectsFrom d ∧
    (d.opened o).enterStandardizing.trv.op = some o ∧ (d.opened o).enterStandardizing.lnk = d.lnk := by
  obtain ⟨-, std, lnk, -, pins, clk, -⟩ := d.opened_blocks o
  have trv := d.opened_trv o
  refine ⟨Device.collectsFrom_congr (Device.enterStandardizing_collects (by rw [trv]; exact off)) (by rw [std]) clk (by rw [trv]) pins, ?_,
    (Device.enterStandardizing_lnk _).trans lnk⟩
  rw [Device.enterStandardizing_trv, Device.goTo_trv, trv]

/-- Within 20 fc of the park position a scan whose standardize is due is PARKED at once, and standardizes there (R25, R27). -/
theorem Device.launch_parks (scans : o.kind = .scan) (due : o.stdDue = true) :
    let e := (d.launch o .parking).enterParked none
    e.MeasuresFrom d ∧ e.collectsFrom d ∧ e.trv.op = some o ∧ e.trv.pending = none ∧ e.tells d (d.appliedDone 2) := by
  let z := d.launch o .parking
  have trv : z.trv = _ := d.launch_trv o .parking
  obtain ⟨prf, std, lnk, brk, pins, clk, steady⟩ := d.launch_blocks o .parking
  have op : z.parkedStage.trv.op = some o := z.parkedStage_op.1.trans (by rw [trv])
  have parks : z.parkedStage.ParkedFrom z := z.parkedStage_parks
  have goes : z.enterParked none = z.parkedStage.enterStandardizing :=
    Device.enterParked_of_kept (Device.parkedOp_standardizes op scans due)
      (by rw [Device.enterStandardizing_trv, Device.goTo_trv]; simp [op])
  intro e
  rw [show e = _ from goes]
  have outer := Device.outside_fields (show z.parkedStage.enterStandardizing.outside = z.parkedStage.outside by simp)
  have same : z.parkedStage.enterStandardizing.steady = d.steady := by
    rw [Device.enterStandardizing_steady, ← steady]; simp [Device.parkedStage, z]
  have kept : z.parkedStage.enterStandardizing.prf = z.parkedStage.prf := Device.enterStandardizing_prf _
  have trv' := z.parkedStage.enterStandardizing_trv
  rw [Device.goTo_trv] at trv'
  have told := z.parkedStage_tells
  have pending : z.trv.pending = d.trv.pending ∧ z.trv.frame = d.trv.frame := by rw [trv]; exact ⟨rfl, rfl⟩
  rw [Device.appliedDone_congr pending.1 pending.2] at told
  refine ⟨⟨?_, (congrArg Steady.counter same :), (congrArg Steady.homed same :), fun none => ?_, ?_, (congrArg Steady.cnv same :),
    (congrArg Steady.win same :), ?_, (congrArg Steady.ref same :), ?_, fun moved => ?_, fun still none => ?_⟩, ?_, ?_, ?_, ?_⟩
  · rw [trv']; simpa [trv] using z.parkedStage_op.2
  · have stays := parks.settings
    rw [Trv.withPending_of_none (pending.1.trans none)] at stays
    rw [trv']; simp [stays, trv]
  · exact outer.2.2.2.1.trans (parks.brk.trans brk)
  · exact outer.2.2.1.trans (parks.pins.trans pins)
  · rw [kept, ← d.epochPrf_latest.1, ← prf]
    rcases parks.prf with h | h <;> rw [h]
  · rw [kept]
    rcases parks.prf with h | h <;> rw [h]
    · rw [show z.prf = d.epochPrf from prf, Device.epochPrf_moved moved]; exact ⟨rfl, rfl⟩
    · exact ⟨rfl, rfl⟩
  · rw [kept, parks.unpended (pending.1.trans none), show z.prf = d.epochPrf from prf, Device.epochPrf_same still]; exact ⟨rfl, rfl⟩
  · exact Device.collectsFrom_congr (Device.enterStandardizing_collects parks.enable) (by rw [parks.std]; exact congrArg _ std)
      (parks.clk.trans clk) (by rw [parks.counter, trv]) (parks.pins.trans pins)
  · rw [trv']; exact op
  · rw [trv']; exact parks.pending
  · exact Device.tells_of_same (Device.tells_from told lnk) (Device.enterStandardizing_lnk _)
end

/-- Within 20 fc of a run-up point farther than that from the range the head has not begun the scan. -/
theorem runUp_before {r : EffRange} {side : Side} {n : Nat} (inside : 0 ≤ r.runUp side) (near : Machine.dist n (r.runUp side).toNat ≤ 20)
    (wide : 20 < r.turn) : ¬r.begunAt side n := by
  have apart : n ≤ (r.runUp side).toNat + 20 ∧ (r.runUp side).toNat ≤ n + 20 := by
    unfold Machine.dist at near
    split at near <;> omega
  intro begun
  cases side with
  | ds =>
    have begun' : r.low ≤ n := begun
    simp only [EffRange.runUp] at apart inside
    omega
  | ts =>
    have begun' : (n : Int) ≤ r.high := begun
    simp only [EffRange.runUp] at apart inside
    omega

/-- The approach of a scan, by what stands in its way (R13, R16, R21, R28). -/
theorem Device.approachScan_begins {f : FrameRecord} {k : ScanSettings} {d : Device} {o : OpRecord} (frame : d.trv.frame = some f)
    (active : d.trv.active = some k) (measures : o.kind ≠ .standardize)
    (cuts : (effectiveRange f k).low ≤ (effectiveRange f k).high) :
    let r := effectiveRange f k
    let side := r.firstSide d.trv.counter
    let dest := (r.runUp side).toNat
    let e := (d.opened o).approachScan
    (20 < Machine.dist d.trv.counter dest → d.pins.ready = true → d.pins.limit (sideToward d.trv.counter dest) = false →
      e.trv.state = .approach ∧ e.trv.op = some o ∧ e.trv.enable = true ∧ e.trv.openCmd = false ∧
      e.trv.motion = .move dest f.travelSpeed (.runUp side) ∧
      (d.trv.commanded = 0 → e.trv.target = if d.trv.counter < dest then ((f.travelSpeed * 100 : Nat) : Int) else -((f.travelSpeed * 100 : Nat) : Int)) ∧
      e.StartedFrom d) ∧
    (20 < Machine.dist d.trv.counter dest → d.pins.ready = true → d.pins.limit (sideToward d.trv.counter dest) = true →
      e.endedAtStart d o ∧ e.cond srcOvertravel = true ∧ e.trv.state = .halted) ∧
    (Machine.dist d.trv.counter dest ≤ 20 → d.pins.ready = true → d.pins.limit side = true →
      e.endedAtStart d o ∧ e.cond srcOvertravel = true ∧ e.trv.state = .halted) ∧
    (Machine.dist d.trv.counter dest ≤ 20 → d.pins.ready = true → d.pins.limit side = false → 20 < r.turn →
      e.trv.state = .approach ∧ e.trv.op = some o ∧ e.trv.motion = .runUp side ∧ e.trv.enable = true ∧ e.trv.openCmd = false ∧
      e.trv.scanDir = side ∧ e.trv.target = signed side k.speed ∧ e.StartedFrom d) ∧
    (d.trv.enable = false → d.pins.ready = false → e = (d.launch o .approach).driveFault 2) := by
  intro r side dest e
  have inside := runUp_within cuts side
  obtain ⟨arrives, moves, limited, faults⟩ := Device.launch_outcomes (d := d) (o := o) (st := .approach) (v := f.travelSpeed)
    (p := .runUp side) (arrive := Device.startRun side) frame measures inside
  obtain ⟨runs, blocked, stalls⟩ := Device.launch_startRun (o := o) frame active side measures
  have goes : e = (d.launch o .approach).beginMove (r.runUp side) f.travelSpeed (.runUp side) (Device.startRun side) :=
    Device.approachScan_opened frame active o
  rw [goes]
  refine ⟨moves, limited, fun near ready shut => ?_, fun near ready opened wide => ?_, fun off low => ?_⟩
  · rw [arrives near]; exact blocked ready shut
  · rw [arrives near]
    refine runs ready opened fun begun => ?_
    exact runUp_before (Int.le_trans (Int.natCast_nonneg _) inside.1) near wide begun
  · by_cases near : Machine.dist d.trv.counter dest ≤ 20
    · rw [arrives near]; exact stalls off low
    · exact faults (Nat.lt_of_not_le near) off low

/-- However its approach begins, nothing but the motion and the operation changes. -/
theorem Device.approachScan_begun {d : Device} (o : OpRecord) {f : FrameRecord} {k : ScanSettings} (frame : d.trv.frame = some f)
    (active : d.trv.active = some k) (closed : d.prf.openScan = none) : (d.opened o).approachScan.BegunFrom (d.opened o) := by
  have shut : (d.launch o .approach).prf.openScan = none := by rw [(d.launch_blocks o _).1, d.epochPrf_latest.2, closed]
  rw [Device.approachScan_opened frame active]
  exact (Device.beginMove_begun shut _ _ _ (Device.startRun_begun shut _)).trans (Device.launch_begun o .approach)

/-- Settles O35. -/
theorem measuringBegins : Obligations.MeasuringBegins := by
  unfold Obligations.MeasuringBegins
  intro s dt tag p f k d t low high due kept moved epoch scanRec pointRec movesTo ahead clearTo shutTo faulted limited
    hd follows inPlace off still at'
  have closed : d.prf.openScan = none := by
    have notScan : d.trv.state ≠ .scan := by rcases at' with h | ⟨h, _⟩ <;> rw [h] <;> decide
    simpa using mt inPlace.1.mp notScan
  have ready : d.measureVerdict = .taken := measureVerdict_ready (at'.imp id fun h => ⟨⟨h.1, off⟩, h.2⟩)
  have dueIff : d.scanNeedsStd = true ↔ due := scanNeedsStd_iff
  have faultedOf (o : OpRecord) (measures : o.kind ≠ .standardize) (st : TravState) : faulted ((d.launch o st).driveFault 2) o := by
    obtain ⟨⟨op, enable, told⟩, raised, state⟩ := Device.launch_faults (st := st) measures off
    exact ⟨op, enable, raised, told, state⟩
  have limitedOf (e : Device) (o : OpRecord) (h : e.endedAtStart d o ∧ e.cond srcOvertravel = true ∧ e.trv.state = .halted) : limited e o := by
    obtain ⟨⟨op, enable, told⟩, raised, state⟩ := h
    exact ⟨op, enable, raised, told, state⟩
  have keptOf (e : Device) (h : e.MeasuresFrom d) : kept e :=
    ⟨h.resume, h.counter, h.homed, fun n => ⟨(h.settings n).1, (h.settings n).2.1⟩, h.brk, h.cnv, h.win, h.pins, h.ref, h.latest⟩
  have movedIs (frame : d.trv.frame = some f) (active : d.trv.active = some k) : d.rangeMoved = moved := by
    simp only [Device.rangeMoved, Device.rangeInForce_eq frame active, moved]
    cases h : d.trv.range with
    | none => rfl
    | some r => exact (decide_not (p := r.low = low ∧ r.high = high)).symm.trans (decide_eq_decide.mpr not_and_or)
  have epochOf (frame : d.trv.frame = some f) (active : d.trv.active = some k) (e : Device) (h : e.MeasuresFrom d) : epoch e := by
    have same := movedIs frame active
    exact ⟨fun m => h.epoch (same.trans m), fun m n => h.goesOn (same.trans m) n⟩
  refine ⟨fun frame active parkLow parkHigh turn cuts settings shutter sheet link => ?_, fun frame active len top posLow posHigh shutter sheet link => ?_,
    fun parked settings shutter link => ?_⟩
  · have usable : (effectiveRange f k).usable k.pitch = true := decide_eq_true cuts
    have checked : d.scanCheck = none := by
      rw [measureCheck_of_passes frame active usable fun h => settings (dueIff.mp h.1) h.2]
      simp [Device.measureCheck, shutter, sheet, link]
    have row : exec (.scan dt tag []) s = s.replies (d.motionTaken.beginScan tag) 0x9A tag [1, 0] :=
      State.command_accepted (h := Device.scan) hd (motionCommand_accepts rfl ready checked)
    have o : d.scanRecord tag = scanRec := by simp only [Device.scanRecord, movedIs frame active]; rfl
    have cuts' : (effectiveRange f k).low ≤ (effectiveRange f k).high := Int.le_trans (Int.le_add_of_nonneg_right (by positivity)) cuts
    have begins := d.beginScan_taken tag
    rw [Device.beginScanParked_taken, o] at begins
    have rangeOf (e : Device) (h : e.MeasuresFrom d) (none : d.trv.pending = none) : e.trv.range = some ⟨low, high, t⟩ :=
      (h.settings none).2.2.trans (Device.rangeInForce_eq frame active)
    refine ⟨_, row, ?_⟩
    by_cases now : due
    · rcases at' with parked | ⟨halted, -⟩
      · have away : d.trv.state ≠ .halted := by rw [parked]; decide
        have e : d.motionTaken.beginScan tag = (d.opened scanRec).enterStandardizing := by
          rw [begins, if_neg fun h => away h.1, if_pos (dueIff.mpr now)]
        have measures := (d.opened scanRec).enterStandardizing_begun.measures
        obtain ⟨collects, op, lnk⟩ := Device.opened_collects (o := scanRec) off
        rw [e]
        exact ⟨keptOf _ measures, epochOf frame active _ measures, rangeOf _ measures, fun _ h => absurd h away,
          fun _ _ => ⟨collects, op, Device.tells_of_lnk lnk⟩, fun _ h => absurd h away, fun _ h => absurd h away, fun h => absurd now h,
          fun h => absurd now h, fun h => absurd now h⟩
      · have away : d.trv.state ≠ .parked := by rw [halted]; decide
        have e : d.motionTaken.beginScan tag = (d.launch scanRec .parking).beginMove f.park f.travelSpeed .park (Device.enterParked none) := by
          rw [begins, if_pos ⟨halted, dueIff.mpr now⟩, Device.enterParking_opened frame]
        have shut : (d.launch scanRec .parking).prf.openScan = none := by rw [(d.launch_blocks _ _).1, d.epochPrf_latest.2, closed]
        have parks := Device.launch_parks (d := d) (o := scanRec) rfl (dueIff.mpr now)
        obtain ⟨arrives, moves, blocked, faults⟩ := Device.launch_outcomes (d := d) (o := scanRec) (st := .parking) (v := f.travelSpeed)
          (p := .park) (dest := f.park) (arrive := Device.enterParked none) frame nofun
          ⟨Int.ofNat_le.mpr parkLow, Int.ofNat_le.mpr parkHigh⟩
        have measures : (d.motionTaken.beginScan tag).MeasuresFrom d := by
          rw [e]
          rcases Device.beginMove_outcome (d.launch scanRec .parking) f.park f.travelSpeed .park (Device.enterParked none) with
            h | h | h | ⟨m, v, h⟩ <;> rw [h]
          · exact parks.1
          · exact ((Device.driveFault_begun shut).trans (Device.launch_begun ..)).measures
          · exact ((Device.limited_begun shut).trans (Device.launch_begun ..)).measures
          · exact ((Device.begun_move _ m v).trans (Device.launch_begun ..)).measures
        refine ⟨keptOf _ measures, epochOf frame active _ measures, rangeOf _ measures, fun _ _ near => ?_, fun _ h => absurd h away,
          fun _ _ far able => ?_, fun _ _ far => ⟨fun low => ?_, fun able => ?_⟩, fun h => absurd now h, fun h => absurd now h,
          fun h => absurd now h⟩
        · rw [e, show (d.launch scanRec .parking).beginMove _ _ _ _ = _ from arrives near]
          exact parks.2
        · obtain ⟨state, op, enable, -, motion, target, starts⟩ := moves far able.1 able.2
          rw [e]
          exact ⟨op, state, ⟨motion, enable, target still⟩, Device.tells_of_lnk starts.lnk⟩
        · rw [e, show (d.launch scanRec .parking).beginMove _ _ _ _ = _ from faults far off low]
          exact faultedOf scanRec nofun .parking
        · rw [e]
          exact limitedOf _ _ (blocked far able.1 able.2)
    · have e : d.motionTaken.beginScan tag = (d.opened scanRec).approachScan := by
        rw [begins, if_neg fun h => now (dueIff.mp h.2), if_neg fun h => now (dueIff.mp h)]
      have begun := Device.approachScan_begun scanRec frame active closed
      have measures := begun.measures
      obtain ⟨moves, blocked, shut, runs, faults⟩ := Device.approachScan_begins (o := scanRec) frame active nofun cuts'
      rw [e]
      refine ⟨keptOf _ measures, epochOf frame active _ measures, rangeOf _ measures, fun h => absurd h now, fun h => absurd h now,
        fun h => absurd h now, fun h => absurd h now, fun _ => ?_, fun _ low => ?_, fun _ => ?_⟩
      · rcases begun.op with h | h
        · exact .inl (h.trans (by rw [Device.opened_trv]))
        · exact .inr h
      · rw [faults off low]; exact faultedOf scanRec nofun .approach
      · intro side dest
        have first : (effectiveRange f k).firstSide d.trv.counter = side := rfl
        have runUp : ((effectiveRange f k).runUp side).toNat = dest := by cases h : side <;> simp only [dest, h] <;> rfl
        rw [first, runUp] at moves blocked shut runs
        refine ⟨fun far able => ?_, fun far able => limitedOf _ _ (blocked far able.1 able.2),
          fun near able closed => limitedOf _ _ (shut near able closed), fun near able opened wide => ?_⟩
        · obtain ⟨state, op, enable, -, motion, target, starts⟩ := moves far able.1 able.2
          exact ⟨state, op, ⟨motion, enable, target still⟩, Device.tells_of_lnk starts.lnk⟩
        · obtain ⟨state, op, motion, enable, -, dir, target, starts⟩ := runs near able opened wide
          exact ⟨state, op, motion, enable, dir, Device.tells_of_lnk starts.lnk, target⟩
  · have checked : d.pointCheck (field p 0 4) = none := by
      rw [pointCheck_eq frame active, if_neg (by omega)]
      simp [Device.measureCheck, shutter, sheet, link]
    have row : exec (.point dt tag p) s = s.replies (d.motionTaken.beginPoint tag (field p 0 4)) 0x9B tag [1, 0] :=
      State.command_accepted (h := Device.point) hd (motionCommand_accepts len ready checked)
    have o : d.pointRecord tag (field p 0 4) = pointRec := by simp only [Device.pointRecord, movedIs frame active]; rfl
    have shut : (d.launch pointRec .approach).prf.openScan = none := by rw [(d.launch_blocks _ _).1, d.epochPrf_latest.2, closed]
    rw [Device.beginPoint_taken, o, Device.approachPoint_opened frame] at row
    have begun : ((d.launch pointRec .approach).beginMove (field p 0 4) f.travelSpeed .point Device.enterPoint).BegunFrom (d.opened pointRec) :=
      (Device.beginMove_begun shut _ _ _ (Device.enterPoint_begun shut)).trans (Device.launch_begun ..)
    obtain ⟨arrives, moves, blocked, faults⟩ := Device.launch_outcomes (d := d) (o := pointRec) (st := .approach) (v := f.travelSpeed)
      (p := .point) (dest := (field p 0 4 : Nat)) (arrive := Device.enterPoint) frame nofun ⟨Int.ofNat_le.mpr posLow, Int.ofNat_le.mpr posHigh⟩
    refine ⟨_, row, keptOf _ begun.measures, epochOf frame active _ begun.measures, ?_, ?_, fun far able => ?_, fun low => ?_,
      fun far able => limitedOf _ _ (blocked far able.1 able.2), fun near able => ?_⟩
    · exact begun.settings.2.2.1.trans ((congrArg Trv.range (d.opened_trv pointRec)).trans (Device.rangeInForce_eq frame active))
    · rw [begun.settings.2.2.2, Device.opened_trv]
    · obtain ⟨state, op, enable, -, motion, target, starts⟩ := moves far able.1 able.2
      exact ⟨state, ⟨motion, enable, target still⟩, op, Device.tells_of_lnk starts.lnk⟩
    · by_cases near : Machine.dist d.trv.counter (field p 0 4) ≤ 20
      · rw [show (d.launch pointRec .approach).beginMove _ _ _ _ = _ from arrives near]
        rw [show (d.launch pointRec .approach).enterPoint = _ from Device.withEnable_faults (by rw [Device.launch_trv]; exact off)
          (by rw [(d.launch_blocks _ _).2.2.2.2.1]; exact low)]
        exact faultedOf pointRec nofun .approach
      · rw [show (d.launch pointRec .approach).beginMove _ _ _ _ = _ from faults (Nat.lt_of_not_le near) off low]
        exact faultedOf pointRec nofun .approach
    · rw [show (d.launch pointRec .approach).beginMove _ _ _ _ = _ from arrives near]
      obtain ⟨state, motion, enable, openCmd, op, lnk, timer, sample, -, -, -⟩ := Device.launch_enterPoint (o := pointRec) active able
      exact ⟨state, motion, enable, openCmd, op, Device.tells_of_lnk lnk, timer, sample⟩
  · have checked : d.standardizeCheck = none := by simp [Device.standardizeCheck, settings, shutter, link]
    have row : exec (.standardize dt tag []) s = s.replies ((d.motionTaken.setOp (newOp .standardize tag)).enterStandardizing)
        0x9C tag [1, 0] :=
      State.command_accepted (h := Device.standardize) hd (motionCommand_accepts rfl (standardizeVerdict_parked parked) checked)
    let x := d.motionTaken.setOp (newOp .standardize tag)
    have trv : x.trv = { d.trv with resume := none, op := some (newOp .standardize tag) } := by simp [x, Device.setOp]
    obtain ⟨acq, std, prf, now, clk⟩ := d.motionTaken_blocks
    have taken : d.motionTaken.brk = d.brk ∧ d.motionTaken.pins = d.pins := by rw [Device.motionTaken_eq]; split <;> simp
    have same : x.enterStandardizing.steady = d.steady := by simp [x]
    have begun : x.enterStandardizing.BegunFrom x := x.enterStandardizing_begun
    have collects : x.enterStandardizing.collectsFrom d :=
      Device.collectsFrom_congr (Device.enterStandardizing_collects (by rw [trv]; exact off)) (congrArg Std.settings std) clk (by rw [trv])
        taken.2
    have trv' := x.enterStandardizing_trv
    rw [Device.goTo_trv, trv] at trv'
    have prf' : x.enterStandardizing.prf = d.prf := x.enterStandardizing_prf.trans prf
    refine ⟨x.enterStandardizing, row, ⟨?_, (congrArg Steady.counter same :), (congrArg Steady.homed same :), fun _ => ?_,
      begun.brk.trans taken.1, (congrArg Steady.cnv same :), (congrArg Steady.win same :), begun.pins.trans taken.2,
      (congrArg Steady.ref same :), by rw [prf']⟩, collects, ?_, prf', ?_,
      Device.tells_of_lnk (x.enterStandardizing_lnk.trans (by simp [x, Device.setOp, d.motionTaken_lnk]))⟩
    · rw [trv']; simp
    · rw [trv']; exact ⟨rfl, rfl⟩
    · rw [trv']; rfl
    · rw [trv']

end Sys2Proof.Machine
end


section
/-! PROOFS. The automatic resume (O37). -/

namespace Sys2Proof.Machine

/-! ## What a resume comes to -/

section
variable {d : Device}

theorem Device.resumeReady_iff : d.resumeReady = true ↔ d.trv.state = .parked ∧ d.trv.op = none ∧ d.brk.sheet = .running := by
  simp [Device.resumeReady, and_assoc]

theorem Device.tryResume_unready (unready : d.trv.resume = none ∨ d.trv.state ≠ .parked ∨ d.trv.op ≠ none ∨ d.brk.sheet ≠ .running) :
    d.tryResume = d := by
  rcases unready with h | h
  · exact d.tryResume_of_none h
  · have off : d.resumeReady = false := by
      rw [Bool.eq_false_iff, ne_eq, Device.resumeReady_iff]; tauto
    unfold Device.tryResume
    cases d.trv.resume with
    | none => rfl
    | some r => simp only [off]; rfl

theorem Device.tryResume_scan (resume : d.trv.resume = some .scan) (ready : d.resumeReady = true) : d.tryResume =
    match d.scanCheck with
    | some c => d.resumeRefused .scan c
    | none => d.motionTaken.beginScanParked 0 := by
  unfold Device.tryResume
  rw [resume, ready]
  rfl

theorem Device.tryResume_point {pos : Nat} (resume : d.trv.resume = some (.point pos)) (ready : d.resumeReady = true) : d.tryResume =
    match d.pointCheck pos with
    | some c => d.resumeRefused (.point) c
    | none => d.motionTaken.beginPoint 0 pos := by
  unfold Device.tryResume
  rw [resume, ready]
  rfl

/-- A resume that cannot start is over with its refusal (R41). -/
theorem Device.resumeRefused_parked (parked : d.trv.state = .parked) (kind : OpKind) (c : ReplyCode) : d.resumeRefused kind c =
    (d.setTrv { d.trv with resume := none }).offer ⟨0xC1, 0, [kind.code, c.resumeResult.code, 0, 2, 255]⟩ := by
  rw [Device.resumeRefused, Device.offerDone, show (d.setTrv { d.trv with resume := none }).trv.state = .parked from parked]
  rfl

/-- A scan whose checks pass has frame, settings and a range that is not empty (R20). -/
theorem Device.scanCheck_passes (h : d.scanCheck = none) : ∃ f k, d.trv.frame = some f ∧ d.trv.active = some k ∧
    (effectiveRange f k).low ≤ (effectiveRange f k).high := by
  cases frame : d.trv.frame with
  | none => simp [Device.scanCheck, Device.rangeInForce, frame] at h
  | some f =>
    cases active : d.trv.active with
    | none => simp [Device.scanCheck, Device.rangeInForce, frame, active] at h
    | some k =>
      refine ⟨f, k, rfl, rfl, ?_⟩
      rw [scanCheck_eq frame active] at h
      have usable : (effectiveRange f k).usable k.pitch = true := by
        by_contra no
        rw [if_pos (by simp [no])] at h
        cases h
      have room := of_decide_eq_true usable
      exact Int.le_trans (Int.le_add_of_nonneg_right (by positivity)) room

/-- A point whose checks pass has frame and settings, and its position lies within the soft limits (R20). -/
theorem Device.pointCheck_passes {pos : Nat} (h : d.pointCheck pos = none) : ∃ f k, d.trv.frame = some f ∧ d.trv.active = some k ∧
    f.softLow ≤ pos ∧ pos ≤ f.softHigh := by
  cases frame : d.trv.frame with
  | none => simp [Device.pointCheck, frame] at h
  | some f =>
    cases active : d.trv.active with
    | none => simp [Device.pointCheck, frame, active] at h
    | some k =>
      refine ⟨f, k, rfl, rfl, ?_⟩
      rw [pointCheck_eq frame active] at h
      by_contra no
      rw [if_pos (by omega)] at h
      cases h
end

/-- Settles O37. -/
theorem resumeActs : Obligations.ResumeActs := by
  unfold Obligations.ResumeActs
  intro s dt r d cleared range moved epoch result awake
  have row (e : Device) (acts : d.tryResume = e) : exec (.automaticResume dt) s = s.ends e := exec_ends (row_automaticResume ..) awake acts
  refine ⟨fun unready => row d (Device.tryResume_unready unready), fun resume parked idle running => ?_⟩
  have ready : d.resumeReady = true := Device.resumeReady_iff.mpr ⟨parked, idle, running⟩
  have movedIs {f : FrameRecord} {k : ScanSettings} (frame : d.trv.frame = some f) (active : d.trv.active = some k) : d.rangeMoved = moved := by
    have now : range = some ((effectiveRange f k).low, (effectiveRange f k).high) := by simp only [range, frame, active]; rfl
    simp only [Device.rangeMoved, Device.rangeInForce_eq frame active, moved, now]
    cases d.trv.range with
    | none => rfl
    | some r => simp [EffRange.sameEnds]
  have epochOf {f : FrameRecord} {k : ScanSettings} (frame : d.trv.frame = some f) (active : d.trv.active = some k) (e : Device)
      (h : e.prf = d.epochPrf) : epoch e := by
    unfold Device.epochPrf at h
    rw [movedIs frame active] at h
    cases m : moved with
    | true => rw [if_pos m] at h; simp [epoch, m, h]
    | false => rw [if_neg (by simp [m])] at h; simpa [epoch, m] using h
  have coded (c : ReplyCode) : c.resumeResult.code = result c := by cases c <;> rfl
  have scanRec {f : FrameRecord} {k : ScanSettings} (frame : d.trv.frame = some f) (active : d.trv.active = some k) :
      d.scanRecord 0 = ⟨.scan, 0, 0, d.scanNeedsStd, decide (d.trv.planCount = 0), moved⟩ := by
    rw [Device.scanRecord, movedIs frame active]
  have pointRec {f : FrameRecord} {k : ScanSettings} (frame : d.trv.frame = some f) (active : d.trv.active = some k) (pos : Nat) :
      d.pointRecord 0 pos = ⟨.point, 0, pos, false, false, moved⟩ := by
    rw [Device.pointRecord, movedIs frame active]
  have pointActs {pos : Nat} {f : FrameRecord} {k : ScanSettings} (resume : d.trv.resume = some (.point pos)) (passes : d.pointCheck pos = none)
      (frame : d.trv.frame = some f) (active : d.trv.active = some k) : d.tryResume =
        (d.launch ⟨.point, 0, pos, false, false, moved⟩ .approach).beginMove pos f.travelSpeed .point Device.enterPoint := by
    have acts := Device.tryResume_point resume ready
    rw [passes] at acts
    replace acts := acts.trans (d.beginPoint_taken 0 pos)
    rwa [pointRec frame active, Device.approachPoint_opened frame] at acts
  have scanActs {f : FrameRecord} {k : ScanSettings} (resume : d.trv.resume = some .scan) (passes : d.scanCheck = none)
      (frame : d.trv.frame = some f) (active : d.trv.active = some k) : d.tryResume =
        let x := d.opened ⟨.scan, 0, 0, d.scanNeedsStd, decide (d.trv.planCount = 0), moved⟩
        if d.scanNeedsStd then x.enterStandardizing else x.approachScan := by
    rw [Device.tryResume_scan resume ready, passes, ← scanRec frame active]
    exact d.beginScanParked_taken 0
  refine ⟨fun c scans fails => row _ ?_, fun c pos points fails => row _ ?_, fun scans passes due => ?_, fun pos points passes near able => ?_,
    fun pos f points passes far frame able opened => ?_, fun f k scans passes plan ref frame active able => ?_, fun low off start => ?_⟩
  · subst scans
    rw [Device.tryResume_scan resume ready, fails]
    exact (Device.resumeRefused_parked parked _ c).trans (by rw [coded]; rfl)
  · subst points
    rw [Device.tryResume_point resume ready, fails]
    exact (Device.resumeRefused_parked parked _ c).trans (by rw [coded]; rfl)
  · subst scans
    obtain ⟨f, k, frame, active, -⟩ := Device.scanCheck_passes passes
    have needs : d.scanNeedsStd = true := scanNeedsStd_iff.mpr due
    have acts := (scanActs resume passes frame active).trans (if_pos needs)
    rw [needs] at acts
    let o : OpRecord := ⟨.scan, 0, 0, true, decide (d.trv.planCount = 0), moved⟩
    obtain ⟨-, -, lnk, brk, -, -, -⟩ := d.opened_blocks o
    have begun := (d.opened o).enterStandardizing_begun
    have trv := (d.opened o).enterStandardizing_trv
    rw [Device.goTo_trv, Device.opened_trv] at trv
    have entry : (d.opened o).enterStandardizing.entry srcDriveFault = (d.opened o).entry srcDriveFault :=
      Device.enterStandardizing_entry _ (by decide)
    refine ⟨_, row _ acts, by rw [trv], by rw [trv]; simp, by rw [trv], (Device.enterStandardizing_lnk _).trans lnk, begun.brk.trans brk,
      fun able => (Device.cond_of_entry entry).trans ((Device.opened_fault o).1 able), fun low => entry.trans ((Device.opened_fault o).2 low),
      fun off => (Device.opened_collects off).1, epochOf frame active _ ?_, by rw [trv]⟩
    exact (Device.enterStandardizing_prf _).trans (Device.opened_prf o)
  · subst points
    obtain ⟨f, k, frame, active, inside⟩ := Device.pointCheck_passes passes
    have acts := pointActs resume passes frame active
    let o : OpRecord := ⟨.point, 0, pos, false, false, moved⟩
    obtain ⟨arrives, -, -, -⟩ := Device.launch_outcomes (d := d) (o := o) (st := .approach) (v := f.travelSpeed) (p := .point)
      (dest := (pos : Nat)) (arrive := Device.enterPoint) frame nofun ⟨Int.ofNat_le.mpr inside.1, Int.ofNat_le.mpr inside.2⟩
    obtain ⟨state, -, enable, -, op, lnk, -, -, prf, fault, none⟩ := Device.launch_enterPoint (o := o) active able
    refine ⟨_, row _ (acts.trans (arrives near)), state, none, enable, lnk, ?_, by rw [prf], epochOf frame active _ ?_, op⟩
    · exact (Device.cond_of_entry fault).trans ((d.launch_fault o _).1 able)
    · rw [prf]; unfold Device.epochPrf; split <;> rfl
  · subst points
    obtain ⟨f', k, frame', active, inside⟩ := Device.pointCheck_passes passes
    cases frame.symm.trans frame'
    have acts := pointActs resume passes frame active
    let o : OpRecord := ⟨.point, 0, pos, false, false, moved⟩
    obtain ⟨-, moves, -, -⟩ := Device.launch_outcomes (d := d) (o := o) (st := .approach) (v := f.travelSpeed) (p := .point)
      (dest := (pos : Nat)) (arrive := Device.enterPoint) frame nofun ⟨Int.ofNat_le.mpr inside.1, Int.ofNat_le.mpr inside.2⟩
    obtain ⟨state, op, enable, openCmd, motion, -, starts⟩ := moves far able opened
    exact ⟨_, row _ acts, state, motion, enable, starts.resume, openCmd, starts.lnk, starts.brk, starts.fault able,
      epochOf frame active _ starts.prf, op⟩
  · subst scans
    intro t low high side dest begun
    have needs : d.scanNeedsStd = false := Bool.eq_false_iff.mpr fun h => (scanNeedsStd_iff.mp h).elim plan ref
    obtain ⟨f', k', frame', active', cuts⟩ := Device.scanCheck_passes passes
    cases frame.symm.trans frame'
    cases active.symm.trans active'
    have acts := (scanActs resume passes frame active).trans (if_neg (by simp [needs]))
    rw [needs, decide_eq_false plan] at acts
    obtain ⟨moves, -, -, runs, -⟩ := Device.approachScan_begins (o := ⟨.scan, 0, 0, false, false, moved⟩) frame active nofun cuts
    have first : (effectiveRange f k).firstSide d.trv.counter = side := rfl
    have runUp : ((effectiveRange f k).runUp side).toNat = dest := by cases h : side <;> simp only [dest, h] <;> rfl
    rw [first, runUp] at moves runs
    have begins (e : Device) (acts : d.tryResume = e) (state : e.trv.state = .approach) (enable : e.trv.enable = true)
        (openCmd : e.trv.openCmd = false) (starts : e.StartedFrom d)
        (op : e.trv.op = some ⟨.scan, 0, 0, false, false, moved⟩) : begun e :=
      ⟨row e acts, state, enable, starts.resume, openCmd, starts.range.trans (Device.rangeInForce_eq frame active), starts.planCount,
        starts.lnk, starts.brk, starts.fault able, epochOf frame active e starts.prf, op⟩
    refine ⟨fun far opened => ?_, fun near opened wide => ?_⟩
    · obtain ⟨state, op, enable, openCmd, motion, -, starts⟩ := moves far able opened
      exact ⟨_, begins _ acts state enable openCmd starts op, motion⟩
    · obtain ⟨state, op, motion, enable, openCmd, dir, target, starts⟩ := runs near able opened wide
      exact ⟨_, begins _ acts state enable openCmd starts op, motion, dir, target⟩
  · have begins : ∃ o : OpRecord, o.kind ≠ .standardize ∧ d.tryResume = (d.launch o .approach).driveFault 2 ∧
        o.done 2 9 255 = ⟨0xC1, 0, [if r = .scan then 0x1A else 0x1B, 2, if moved then 1 else 0, 9, 255]⟩ := by
      rcases start with ⟨scans, passes, plan, ref⟩ | ⟨pos, points, passes⟩
      · subst scans
        obtain ⟨f, k, frame, active, cuts⟩ := Device.scanCheck_passes passes
        have needs : d.scanNeedsStd = false := Bool.eq_false_iff.mpr fun h => (scanNeedsStd_iff.mp h).elim plan ref
        have acts := (scanActs resume passes frame active).trans (if_neg (by simp [needs]))
        refine ⟨⟨.scan, 0, 0, d.scanNeedsStd, decide (d.trv.planCount = 0), moved⟩, nofun, acts.trans ?_, rfl⟩
        exact (Device.approachScan_begins frame active (by simp) cuts).2.2.2.2 off low
      · subst points
        obtain ⟨f, k, frame, active, inside⟩ := Device.pointCheck_passes passes
        have acts := pointActs resume passes frame active
        let o : OpRecord := ⟨.point, 0, pos, false, false, moved⟩
        obtain ⟨arrives, -, -, faults⟩ := Device.launch_outcomes (d := d) (o := o) (st := .approach) (v := f.travelSpeed) (p := .point)
          (dest := (pos : Nat)) (arrive := Device.enterPoint) frame nofun ⟨Int.ofNat_le.mpr inside.1, Int.ofNat_le.mpr inside.2⟩
        refine ⟨o, nofun, acts.trans ?_, rfl⟩
        by_cases near : Machine.dist d.trv.counter pos ≤ 20
        · exact (arrives near).trans (Device.withEnable_faults (by rw [Device.launch_trv]; exact off)
            (by rw [(d.launch_blocks _ _).2.2.2.2.1]; exact low))
        · exact faults (Nat.lt_of_not_le near) off low
    obtain ⟨o, measures, acts, told⟩ := begins
    have halts := (d.launch o .approach).driveFault_halts 2
    obtain ⟨⟨op, enable, tells⟩, raised, state⟩ := Device.launch_faults (d := d) (st := .approach) measures off
    exact ⟨_, row _ acts, op, halts.resume.elim id fun h => h.trans (by rw [Device.launch_trv]), enable, raised,
      halts.brk.trans (d.launch_blocks o _).2.2.2.1, told ▸ tells, state⟩

end Sys2Proof.Machine
end


section
/-! PROOFS. The entries of alarm sources that motions do not own, the channel supervision, and time-gated samples (O39). -/

namespace Sys2Proof.Machine

/-! ## Entries that are only examined -/

/-- The entry of a source as it stood, but that an examination may have taken a request from it (R160). -/
def Device.entryKept (e d : Device) (b : Fin 24) : Prop :=
  (e.entry b).content = (d.entry b).content ∧ ((d.entry b).state ≠ .requested → (e.entry b).state = (d.entry b).state)

/-- The sources whose entries no motion, end of an operation or closing of a scan changes (R153). -/
def measureSource (b : Fin 24) : Prop :=
  b ≠ srcShutter ∧ b ≠ srcDriveFault ∧ b ≠ srcOvertravel ∧ ∀ n, b ≠ srcWindow n

section
variable {d e x : Device} {a b : Fin 24}

theorem Device.entryKept_of_entry (h : e.entry b = d.entry b) : e.entryKept d b := by
  unfold Device.entryKept; rw [h]; exact ⟨rfl, fun _ => rfl⟩

theorem Device.entryKept_of_alm (h : e.alm = d.alm) : e.entryKept d b := Device.entryKept_of_entry (Device.entry_congr b h)

theorem Device.entryKept.trans (h : e.entryKept x b) (k : x.entryKept d b) : e.entryKept d b :=
  ⟨h.1.trans k.1, fun out => (h.2 (by rw [k.2 out]; exact out)).trans (k.2 out)⟩

theorem Device.rise_entryKept (other : b ≠ a) (v : Nat) : (d.rise a v).entryKept d b :=
  ⟨d.rise_content_of_ne v other, fun out => by rw [d.rise_entry_of_unrequested other out]⟩

theorem Device.fallIfActive_entryKept (other : b ≠ a) : (d.fallIfActive a).entryKept d b :=
  Device.entryKept_of_entry (d.fallIfActive_entry_of_ne other)

theorem Device.fall_entryKept (other : b ≠ a) : (d.fall a).entryKept d b := Device.entryKept_of_entry (d.fall_entry_of_ne other)

theorem Device.entryKept.value (h : e.entryKept d b) : (e.entry b).value = (d.entry b).value := (congrArg AlarmEntry.value h.1 :)
theorem Device.entryKept.live (h : e.entryKept d b) : (e.entry b).live = (d.entry b).live := (congrArg AlarmEntry.live h.1 :)
theorem Device.entryKept.repeats (h : e.entryKept d b) : (e.entry b).repeats = (d.entry b).repeats := (congrArg AlarmEntry.repeats h.1 :)

theorem Device.evaluateWindow_entryKept (scan : Nat) (n : Fin 8) (other : b ≠ srcWindow n) : (d.evaluateWindow scan n).entryKept d b := by
  obtain ⟨v, evaluated⟩ := d.evaluateWindow_eq scan n
  have stored : (d.setWindowAt n (d.windowAfter scan n)).entryKept d b := Device.entryKept_of_alm rfl
  rw [evaluated]
  exact keeps_ite (L := fun e => Device.entryKept e d b) (fun _ => (Device.rise_entryKept other v).trans stored) fun _ =>
    keeps_ite (L := fun e => Device.entryKept e d b) (fun _ => (Device.fall_entryKept other).trans stored) fun _ => stored

/-- The entries of the other sources through every motion, end of an operation and closing of a scan. -/
theorem Device.entryKept_motion (d : Device) (own : measureSource b) : MotionKeeps (fun e => e.entryKept d b) where
  changed _ h := (Device.entryKept_of_alm rfl).trans h
  trv _ _ _ h := (Device.entryKept_of_alm rfl).trans h
  goTo st h := (Device.entryKept_of_entry (Device.goTo_entry _ own.1 st)).trans h
  dropEnable h := (Device.entryKept_of_alm (by simp)).trans h
  raiseEnable h := (Device.entryKept_of_alm (by simp)).trans h
  plan _ _ _ _ h := (Device.entryKept_of_alm rfl).trans h
  driveFaultRises v h := (Device.rise_entryKept own.2.1 v).trans h
  driveFaultFalls h := (Device.fallIfActive_entryKept own.2.1).trans h
  overtravel _ _ h := (Device.rise_entryKept own.2.2.1 _).trans h
  acq _ _ h := (Device.entryKept_of_alm rfl).trans h
  cnv _ h := (Device.entryKept_of_alm rfl).trans h
  prf _ _ h := (Device.entryKept_of_alm rfl).trans h
  window scan n h := (Device.evaluateWindow_entryKept scan n (own.2.2.2 n)).trans h
  countScan h := (Device.entryKept_of_alm (by simp)).trans h
  std _ _ _ h := (Device.entryKept_of_alm rfl).trans h
  abandonStd h := (Device.entryKept_of_alm (by simp)).trans h
  offer f _ h := (Device.entryKept_of_alm (by simp)).trans h

/-! ## The channel supervision of one record (R52, R53) -/

theorem runAfter_eq (count n : Nat) : runAfter (decide (count = 0)) n = if count = 0 then min 255 (n + 1) else 0 := by
  simp only [runAfter, decide_eq_true_eq]

theorem flagAfter_eq (count n : Nat) (b : Bool) :
    flagAfter (decide (count = 0)) (runAfter (decide (count = 0)) n) b =
      decide (count = 0 ∧ (b = true ∨ 8 ≤ if count = 0 then min 255 (n + 1) else 0)) := by
  rw [runAfter_eq]
  simp [flagAfter]

theorem ChannelSet.joined_iff (old new : ChannelSet) : old.joined new = true ↔
    new.bw = true ∧ old.bw = false ∨ new.mw = true ∧ old.mw = false ∨ new.mr = true ∧ old.mr = false ∨
      new.cal = true ∧ old.cal = false := by
  simp [ChannelSet.joined, or_assoc]

theorem ChannelSet.mask_eq_zero (c : ChannelSet) : c.mask = 0 ↔ c = ⟨false, false, false, false⟩ := by
  obtain ⟨bw, mw, mr, cal⟩ := c
  cases bw <;> cases mw <;> cases mr <;> cases cal <;> decide

/-- A record closed in a part whose channels and CHANNEL_FAULT entry stand as before. -/
theorem Device.recordClosed_supervised {w : Device} (kept : w.entryKept d srcChannelFault) (dead : w.acq.dead = d.acq.dead)
    (flagged : w.acq.flagged = d.acq.flagged) (q : Sample) : (w.recordClosed q).supervisedFrom d q := by
  let v := w.setAcq { w.acq with last := some q, dead := d.acq.dead.after q, flagged := d.acq.flagged.after (d.acq.dead.after q) q }
  let old := d.acq.flagged
  let new := d.acq.flagged.after (d.acq.dead.after q) q
  have stored : v.entryKept d srcChannelFault := (Device.entryKept_of_alm rfl).trans kept
  have closes : w.recordClosed q = if old.joined new then v.rise srcChannelFault new.mask
      else if old.mask ≠ 0 ∧ new.mask = 0 then v.fall srcChannelFault else v := by
    simp only [Device.recordClosed, Device.superviseChannels, v, old, new, ← dead, ← flagged]; rfl
  have acq : (w.recordClosed q).acq = v.acq := by
    rw [Device.recordClosed, Device.superviseChannels_acq]
    simp only [v, ← dead, ← flagged]; rfl
  unfold Device.supervisedFrom
  intro run flag old' new' joins was now
  have same : new' = new := by
    simp only [new, new', flag, run, ChannelSet.after, RunCounters.after, flagAfter_eq]
    rfl
  have joinsIff : joins ↔ old.joined new = true := by rw [ChannelSet.joined_iff, ← same]
  refine ⟨by rw [acq]; rfl, by rw [acq, same]; rfl, ?_, fun j => ?_, fun j empty left => ?_, fun j stays => ?_⟩
  · rw [acq]
    simp only [v, RunCounters.after, runAfter_eq]
    rfl
  · have rises : w.recordClosed q = v.rise srcChannelFault new.mask := closes.trans (if_pos (joinsIff.mp j))
    have live := v.rise_cond_self srcChannelFault new.mask
    rw [← rises] at live
    refine ⟨live, fun idle => ?_, fun busy => ?_⟩
    · have idle' : (v.entry srcChannelFault).state = .idle := (stored.2 (by rw [idle]; decide)).trans idle
      obtain ⟨value, -, -⟩ := v.rise_of_idle idle' new.mask
      rw [← rises] at value
      rw [same]; exact value
    · have out : (d.entry srcChannelFault).state ≠ .requested := by rcases busy with h | h <;> rw [h] <;> decide
      have busy' : (v.entry srcChannelFault).state ≠ .idle := by
        rw [stored.2 out]; rcases busy with h | h <;> rw [h] <;> decide
      obtain ⟨value, repeats⟩ := v.rise_of_busy busy' new.mask
      rw [← rises, stored.value] at value
      rw [← rises, stored.repeats] at repeats
      exact ⟨value, repeats⟩
  · have zero : new.mask = 0 := (ChannelSet.mask_eq_zero _).mpr (same.symm.trans empty)
    have some_left : old.mask ≠ 0 := fun h => left (((ChannelSet.mask_eq_zero _).mp h).trans empty.symm)
    have falls : w.recordClosed q = v.fall srcChannelFault :=
      closes.trans ((if_neg fun h => j (joinsIff.mpr h)).trans (if_pos ⟨some_left, zero⟩))
    have low := v.fall_cond_self srcChannelFault
    rwa [← falls] at low
  · have keeps : w.recordClosed q = v := by
      refine closes.trans ((if_neg fun h => j (joinsIff.mpr h)).trans (if_neg ?_))
      rintro ⟨some_left, zero⟩
      have empty := (ChannelSet.mask_eq_zero _).mp zero
      rcases stays with h | h
      · exact h (same.trans empty)
      · exact some_left (by rw [show old = new from h.trans same, zero])
    have entry : now = v.entry srcChannelFault := by simp only [now, keeps]
    rw [entry]
    exact ⟨stored.live, stored.value⟩

/-- What happens to other blocks after the record leaves its supervision. -/
theorem Device.supervisedFrom.through {q : Sample} (h : x.supervisedFrom d q) (kept : e.entryKept x srcChannelFault)
    (last : e.acq.last = x.acq.last) (dead : e.acq.dead = x.acq.dead) (flagged : e.acq.flagged = x.acq.flagged) :
    e.supervisedFrom d q := by
  unfold Device.supervisedFrom at *
  simp only [kept.live, kept.value, kept.repeats, last, dead, flagged]
  exact h
end

end Sys2Proof.Machine
end


section
/-! PROOFS. Time-gated samples and what STD makes of them (O39). -/

namespace Sys2Proof.Machine

/-! ## A record given to STD -/

section
variable {d e : Device} {r : Sample} {b : Fin 24}

theorem Device.takeStdSample_sheet (busy : d.std.phase ≠ .idle) (sheet : r.sheet ≠ .none) : d.takeStdSample r =
    (d.failStd (.bare .sheet d.now (d.std.received + 1)) (d.std.received + 1), some .sheet) := by
  unfold Device.takeStdSample
  cases phase : d.std.phase with
  | idle => exact absurd phase busy
  | settling => exact if_pos sheet
  | collecting => exact if_pos sheet

theorem Device.takeStdSample_settling (phase : d.std.phase = .settling) (clear : r.sheet = .none) : d.takeStdSample r =
    (d.setStd { d.std with received := d.std.received + 1, settleLeft := d.std.settleLeft - 1,
                           phase := if d.std.settleLeft - 1 = 0 then .collecting else .settling }, none) := by
  unfold Device.takeStdSample
  rw [phase]
  exact if_neg (not_not.mpr clear)

/-- The collection with one more record summed (R63). -/
def Std.summedWith (s : Std) (q : Sample) : Std := { s with
  received := s.received + 1, summed := s.summed + 1, satMark := s.satMark || q.sat,
  sums := ⟨s.sums.d + q.dur, s.sums.bw + q.bw, s.sums.mw + q.mw, s.sums.mr + q.mr, s.sums.calHigh + q.calHigh,
    s.sums.calTotal + q.calTotal⟩ }

theorem Device.takeStdSample_collecting (phase : d.std.phase = .collecting) (clear : r.sheet = .none) : d.takeStdSample r =
    if d.std.snapshot.samples ≤ d.std.summed + 1 then
      ((d.setStd (d.std.summedWith r)).completeStd, some (d.std.summedWith r).verdict)
    else (d.setStd (d.std.summedWith r), none) := by
  unfold Device.takeStdSample
  rw [phase]
  exact if_neg (not_not.mpr clear)

theorem Device.adopt_entryKept (ref : RefSet) (l : StdLast) (x : Option (Nat × Nat)) (fail : b ≠ srcStdFail) (drift : b ≠ srcStdDrift) :
    (d.adopt ref l x).entryKept d b := by
  let y := d.setStd { d.std.toIdle with ref := some ref, count := wrap32 (d.std.count + 1), last := some l }
  have adopted : (y.fallIfActive srcStdFail).entryKept d b :=
    (Device.fallIfActive_entryKept fail).trans (Device.entryKept_of_alm rfl)
  unfold Device.adopt
  refine keeps_ite (L := fun e => e.entryKept d b) (fun _ => ?_) fun _ => (Device.fallIfActive_entryKept drift).trans adopted
  cases x with
  | none => exact adopted
  | some p => exact (Device.rise_entryKept drift _).trans adopted

theorem Device.failStd_entryKept (l : StdLast) (n : Nat) (fail : b ≠ srcStdFail) : (d.failStd l n).entryKept d b :=
  (Device.rise_entryKept fail _).trans (Device.entryKept_of_alm rfl)

theorem Device.completeStd_entryKept (fail : b ≠ srcStdFail) (drift : b ≠ srcStdDrift) : d.completeStd.entryKept d b := by
  by_cases isChannel : d.std.verdict = .channel
  · rw [Device.completeStd_of_channel isChannel]; exact Device.failStd_entryKept _ _ fail
  by_cases isDrift : d.std.verdict = .drift
  · rw [Device.completeStd_of_drift isDrift]; exact Device.failStd_entryKept _ _ fail
  · rw [Device.completeStd_of_adopted isChannel isDrift]; exact Device.adopt_entryKept _ _ _ fail drift

/-- What a collection makes of STD depends on STD and the time alone. -/
theorem Device.completeStd_std_congr (std : e.std = d.std) (now : e.now = d.now) : e.completeStd.std = d.completeStd.std := by
  by_cases isChannel : d.std.verdict = .channel
  · rw [Device.completeStd_of_channel isChannel, Device.completeStd_of_channel (by rw [std]; exact isChannel), Device.failStd_std,
      Device.failStd_std, std, now]
  by_cases isDrift : d.std.verdict = .drift
  · rw [Device.completeStd_of_drift isDrift, Device.completeStd_of_drift (by rw [std]; exact isDrift), Device.failStd_std,
      Device.failStd_std, std, now]
  · rw [Device.completeStd_of_adopted isChannel isDrift,
      Device.completeStd_of_adopted (by rw [std]; exact isChannel) (by rw [std]; exact isDrift), Device.adopt_std, Device.adopt_std, std, now]

/-- What a record given to STD leaves as it is. -/
theorem Device.takeStdSample_leaves (d : Device) (r : Sample) : (d.takeStdSample r).1.entryKept d srcChannelFault ∧
    (d.takeStdSample r).1.acq = d.acq ∧ (d.takeStdSample r).1.trv = d.trv ∧ (d.takeStdSample r).1.cnv = d.cnv := by
  by_cases busy : d.std.phase = .idle
  · have idle : d.takeStdSample r = (d, none) := by unfold Device.takeStdSample; rw [busy]
    rw [idle]; exact ⟨Device.entryKept_of_alm rfl, rfl, rfl, rfl⟩
  by_cases sheet : r.sheet = .none
  · cases phase : d.std.phase with
    | idle => exact absurd phase busy
    | settling => rw [Device.takeStdSample_settling phase sheet]; exact ⟨Device.entryKept_of_alm rfl, rfl, rfl, rfl⟩
    | collecting =>
      rw [Device.takeStdSample_collecting phase sheet]
      split
      · exact ⟨(Device.completeStd_entryKept (by decide) (by decide)).trans (Device.entryKept_of_alm rfl), by simp, by simp, by simp⟩
      · exact ⟨Device.entryKept_of_alm rfl, rfl, rfl, rfl⟩
  · rw [Device.takeStdSample_sheet busy sheet]
    exact ⟨Device.failStd_entryKept _ _ (by decide), by simp, by simp, by simp⟩

@[simp] theorem Device.reloadPlan_steady (o : OpRecord) : (d.reloadPlan o).steady = d.steady := by simp [Device.reloadPlan]

@[simp] theorem Device.afterStd_steady (x : OpResult) : (d.afterStd x).steady = d.steady := by
  unfold Device.afterStd Device.scanAfterStd
  dsimp only
  repeat' split
  all_goals simp

/-- The approach of a scan whose run-up point lies free ahead (R21, R28). -/
theorem Device.approachScan_moves {f : FrameRecord} {g : EffRange} (frame : d.trv.frame = some f) (range : d.trv.range = some g)
    (inside : (f.softLow : Int) ≤ g.runUp (g.firstSide d.trv.counter) ∧ g.runUp (g.firstSide d.trv.counter) ≤ f.softHigh)
    (far : 20 < Machine.dist d.trv.counter (g.runUp (g.firstSide d.trv.counter)).toNat) (ready : d.trv.enable = true ∨ d.pins.ready = true)
    (opened : d.pins.limit (sideToward d.trv.counter (g.runUp (g.firstSide d.trv.counter)).toNat) = false) : d.approachScan =
      let x := (d.goTo .approach).raiseEnable
      let dest := (g.runUp (g.firstSide d.trv.counter)).toNat
      x.setTrv { x.trv with
        motion := .move dest f.travelSpeed (.runUp (g.firstSide d.trv.counter)), target := x.moveTarget dest f.travelSpeed } := by
  have counter : (d.goTo .approach).trv.counter = d.trv.counter := by simp
  have frame' : (d.goTo .approach).trv.frame = some f := by simp [frame]
  unfold Device.approachScan Device.moveToRunUp
  rw [show (d.goTo .approach).trv.range = some g by simp [range], range, Device.frameField_of_some frame']
  exact Device.beginMove_runs frame' inside.1 inside.2 (by rw [counter]; exact far) (by simpa using ready) (by rw [counter]; simpa using opened)

theorem Device.reloadPlan_trv (d : Device) (o : OpRecord) : (d.reloadPlan o).trv = { d.trv with
    planCount := if o.reloadDue then (d.trv.active.map ScanSettings.base).getD 0 else d.trv.planCount,
    op := some { o with stdDue := false, reloadDue := false } } := rfl

theorem Device.reloadPlan_std (d : Device) (o : OpRecord) : (d.reloadPlan o).std = d.std := rfl

/-- A SCAN goes on after an adoption, its plan reloaded where that was due (R29, R32). -/
theorem Device.afterStd_adopts {x : OpResult} {v : OpRecord} (op : d.trv.op = some v) (scans : v.kind = .scan)
    (adopts : x = .adopted ∨ x = .adoptedDrift) : d.afterStd x =
      if d.lnk.link = .lost then (d.reloadPlan v).enterParked (some (.link, none))
      else if d.brk.sheet = .running ∨ d.brk.sheet = .noSheet then (d.reloadPlan v).approachScan
      else (d.reloadPlan v).enterParked (some (.sheetBreak, none)) := by
  unfold Device.afterStd
  rw [op]
  exact (if_pos scans).trans (if_pos adopts)

/-- In BREAK and THREADING a SCAN is over after its adoption, the plan reloaded where that was due (R32, R39). -/
theorem Device.afterStd_breaks {x : OpResult} {v : OpRecord} (op : d.trv.op = some v) (scans : v.kind = .scan)
    (adopts : x = .adopted ∨ x = .adoptedDrift) (link : d.lnk.link ≠ .lost) (sheet : d.brk.sheet = .sheetBreak ∨ d.brk.sheet = .threading) :
    (d.afterStd x).ParkedFrom (d.reloadPlan v) ∧ (d.afterStd x).trv.op = none ∧ (d.afterStd x).trv.resume = d.trv.resume ∧
    (d.afterStd x).tells d (d.appliedDone 2 ++ [v.done 4 2 255]) := by
  have off : ¬(d.brk.sheet = .running ∨ d.brk.sheet = .noSheet) := by rcases sheet with h | h <;> rw [h] <;> decide
  rw [Device.afterStd_adopts op scans adopts, if_neg link, if_neg off]
  have stays : (d.reloadPlan v).brk.sheet ≠ .running := fun h => off (.inl h)
  obtain ⟨parks, idle, resume, told⟩ := Device.enterParked_ends (d := d.reloadPlan v) .sheetBreak none (.inr stays)
  exact ⟨parks, idle, resume, Device.tells_from told rfl⟩

/-- With the sheet in place a SCAN approaches after its adoption, where its run-up point lies free ahead (R28, R32). -/
theorem Device.afterStd_approaches {x : OpResult} {v : OpRecord} {f : FrameRecord} {g : EffRange} (op : d.trv.op = some v)
    (scans : v.kind = .scan) (adopts : x = .adopted ∨ x = .adoptedDrift) (link : d.lnk.link ≠ .lost)
    (sheet : d.brk.sheet = .running ∨ d.brk.sheet = .noSheet) (frame : d.trv.frame = some f) (range : d.trv.range = some g)
    (inside : (f.softLow : Int) ≤ g.runUp (g.firstSide d.trv.counter) ∧ g.runUp (g.firstSide d.trv.counter) ≤ f.softHigh)
    (far : 20 < Machine.dist d.trv.counter (g.runUp (g.firstSide d.trv.counter)).toNat) (ready : d.pins.ready = true)
    (opened : d.pins.limit (sideToward d.trv.counter (g.runUp (g.firstSide d.trv.counter)).toNat) = false) :
    let e := d.afterStd x
    e.std = d.std ∧ e.tells d [] ∧ e.trv.state = .approach ∧
    e.trv.motion = .move (g.runUp (g.firstSide d.trv.counter)).toNat f.travelSpeed (.runUp (g.firstSide d.trv.counter)) ∧
    e.trv.enable = true ∧ e.trv.openCmd = false ∧ e.trv.resume = none ∧ e.trv.pending = d.trv.pending ∧ e.trv.active = d.trv.active ∧
    e.trv.range = some g ∧ e.trv.planCount = (if v.reloadDue then (d.trv.active.map ScanSettings.base).getD 0 else d.trv.planCount) ∧
    e.acq.sample = none ∧ e.acq.sampleTimer = none ∧ e.trv.op = some { v with stdDue := false, reloadDue := false } := by
  intro e
  rw [show e = _ from Device.afterStd_adopts op scans adopts, if_neg link, if_pos sheet,
    Device.approachScan_moves (d := d.reloadPlan v) frame range inside far (.inr ready) opened]
  refine ⟨?_, Device.tells_of_lnk (by simp; rfl), ?_, rfl, ?_, ?_, ?_, ?_, ?_, ?_, ?_, ?_, ?_, ?_⟩ <;>
    simp [Device.reloadPlan, TravState.opens, range, Device.planBase]

theorem Device.reportStd_steady (c : Device × Option OpResult) : (Device.reportStd c).steady = c.1.steady := by
  unfold Device.reportStd
  split
  · rfl
  · exact Device.afterStd_steady _

theorem Device.recordClosed_entryKept (q : Sample) (other : b ≠ srcChannelFault) : (d.recordClosed q).entryKept d b := by
  have stored (a : Acq) : (d.setAcq a).entryKept d b := Device.entryKept_of_alm rfl
  unfold Device.recordClosed Device.superviseChannels
  exact keeps_ite (L := fun e => e.entryKept d b) (fun _ => (Device.rise_entryKept other _).trans (stored _)) fun _ =>
    keeps_ite (L := fun e => e.entryKept d b) (fun _ => (Device.fall_entryKept other).trans (stored _)) fun _ => stored _

/-- A closed record changes the channel state and its alarm alone. -/
theorem Device.recordClosed_leaves (d : Device) (q : Sample) : (d.recordClosed q).trv = d.trv ∧ (d.recordClosed q).std = d.std ∧
    (d.recordClosed q).prf = d.prf ∧ (d.recordClosed q).cnv = d.cnv ∧ (d.recordClosed q).tells d [] ∧
    (d.recordClosed q).acq.sample = d.acq.sample ∧ (d.recordClosed q).acq.sampleTimer = d.acq.sampleTimer := by
  refine ⟨by simp [Device.recordClosed], by simp [Device.recordClosed], by simp [Device.recordClosed], by simp [Device.recordClosed], ?_,
    by simp [Device.recordClosed], by simp [Device.recordClosed]⟩
  exact Device.tells_of_lessAlarms (Device.superviseChannels_lessAlarms (d.setAcq { d.acq with last := some q }) q) rfl

end

theorem Device.enterRing_only (d : Device) (r : ConvRecord) : d.enterRing r = d.setPrf (d.enterRing r).prf := by
  unfold Device.enterRing Device.batchDue
  dsimp only
  repeat' split
  all_goals rfl

/-- The entry of a POINT record, its batch counted and prepared where it is due (R110, R111). -/
theorem Device.enterRing_prf {d : Device} {k : ScanSettings} (active : d.trv.active = some k) (r : ConvRecord) :
    let n := (d.prf.entryNumber + 1) % 4294967296
    let e := d.enterRing r
    e.prf.entryNumber = n ∧ e.prf.ring = (⟨n, r⟩ :: d.prf.ring).take 64 ∧
    (d.prf.batchCount + 1 < k.batch → e.prf.batchCount = d.prf.batchCount + 1 ∧ e.prf.batch = d.prf.batch) ∧
    (k.batch ≤ d.prf.batchCount + 1 → e.prf.batchCount = 0 ∧
      if d.lnk.link = .good ∧ d.prf.batch = none then e.prf.batch = some (pointData e.prf.ring k.pointPeriod k.batch)
      else e.prf.batch = d.prf.batch ∧ e.prf.skippedBatches = min (d.prf.skippedBatches + 1) 65535) := by
  intro n e
  let x := d.setPrf { d.prf with entryNumber := n, ring := (⟨n, r⟩ :: d.prf.ring).take 64, batchCount := d.prf.batchCount + 1 }
  have enters : e = if k.batch ≤ d.prf.batchCount + 1 then x.batchDue k else x := by
    unfold e Device.enterRing
    dsimp only
    simp only [Device.setPrf_trv, active]
    rfl
  by_cases due : k.batch ≤ d.prf.batchCount + 1
  · rw [if_pos due] at enters
    rw [enters]
    unfold Device.batchDue
    by_cases room : d.lnk.link = .good ∧ d.prf.batch = none
    · rw [if_pos (show x.lnk.link = .good ∧ x.prf.batch = none from room), if_pos room]
      exact ⟨rfl, rfl, fun h => absurd due (Nat.not_le.mpr h), fun _ => ⟨rfl, rfl⟩⟩
    · rw [if_neg (show ¬(x.lnk.link = .good ∧ x.prf.batch = none) from room), if_neg room]
      exact ⟨rfl, rfl, fun h => absurd due (Nat.not_le.mpr h), fun _ => ⟨rfl, rfl, rfl⟩⟩
  · rw [if_neg due] at enters
    rw [enters]
    exact ⟨rfl, rfl, fun _ => ⟨rfl, rfl⟩, fun h => absurd h due⟩

/-- Settles O39. -/
theorem timedSamplesClose : Obligations.TimedSamplesClose := by
  unfold Obligations.TimedSamplesClose
  intro s dt t o d now x q fresh supervised awake timer sample
  have closed : x.closing o = q := rfl
  have row (e : Device) (closes : x.closeTimedSample o = e) : exec (.sampleTimerExpiry dt) s = s.ends e := by
    refine exec_expires (row_sampleTimerExpiry ..) timer awake (Eq.trans ?_ closes)
    exact (by simp only [Device.sampleExpired]; rw [show (d.setClk now).acq.sample = some o from sample] :
      (d.setClk now).sampleExpired = (d.setClk now).closeTimedSample o)
  refine ⟨fun k point active => ?_, fun standardizing busy => ?_⟩
  · let z := x.startTimeGating k.pointPeriod
    let rec' := convertRecord d.cnv d.std.ref false q
    let w := (z.setCnv (d.cnv.counted rec')).enterRing rec'
    have elsewhere : d.trv.state ≠ .standardizing := by rw [point]; decide
    have closes : x.closeTimedSample o = w.recordClosed q := by
      have period : (if x.trv.state = .standardizing then (x.std.settings.map StdSettings.period).getD 0
          else (x.trv.active.map ScanSettings.pointPeriod).getD 0) = k.pointPeriod :=
        (if_neg elsewhere).trans (by rw [show x.trv.active = some k from active]; rfl)
      have away : z.trv.state ≠ .standardizing := elsewhere
      unfold Device.closeTimedSample
      dsimp only
      rw [period, if_neg away, closed]
      rfl
    have wIs : w = (z.setCnv (d.cnv.counted rec')).setPrf w.prf := Device.enterRing_only _ _
    obtain ⟨eTrv, eStd, ePrf, eCnv, eTells, eSample, eTimer⟩ := w.recordClosed_leaves q
    have outer := Device.outside_fields (show (w.recordClosed q).outside = x.outside by rw [← closes]; simp)
    have wAcq : w.acq = z.acq := by rw [wIs]; rfl
    have wKept : w.entryKept d srcChannelFault := Device.entryKept_of_alm (by rw [wIs]; rfl)
    have wTells : w.tells d [] := Device.tells_of_lnk (by rw [wIs]; rfl)
    obtain ⟨number, ring, early, due⟩ := Device.enterRing_prf (d := z.setCnv (d.cnv.counted rec')) (k := k) active rec'
    refine ⟨_, row _ closes, ⟨Device.recordClosed_supervised wKept (congrArg Acq.dead wAcq :) (congrArg Acq.flagged wAcq :) q, outer.2.2.2.1,
      outer.2.2.1⟩, eSample.trans (congrArg Acq.sample wAcq), eTimer.trans (congrArg Acq.sampleTimer wAcq), eTrv.trans (by rw [wIs]; rfl),
      eStd.trans (by rw [wIs]; rfl), ?_, ?_, eCnv.trans (by rw [wIs]; rfl), (Device.tells_trans wTells eTells :), fun more => ?_, fun full => ?_⟩
    · rw [ePrf]; exact number
    · rw [ePrf]; exact ring
    · rw [ePrf]; exact early more
    · rw [ePrf]; exact due full
  · let z := x.startTimeGating ((d.std.settings.map StdSettings.period).getD 0)
    let c := z.takeStdSample q
    let w := Device.reportStd c
    have closes : x.closeTimedSample o = w.recordClosed q := by
      have measuring : (x.startTimeGating ((d.std.settings.map StdSettings.period).getD 0)).trv.state = .standardizing := standardizing
      have period : (if x.trv.state = .standardizing then (x.std.settings.map StdSettings.period).getD 0
          else (x.trv.active.map ScanSettings.pointPeriod).getD 0) = (d.std.settings.map StdSettings.period).getD 0 := if_pos standardizing
      unfold Device.closeTimedSample
      dsimp only
      rw [period, if_pos measuring, closed]
    obtain ⟨kept, acq, trv, cnv⟩ := z.takeStdSample_leaves q
    have steady : w.steady = c.1.steady := Device.reportStd_steady c
    have inputs : w.acq.dead = d.acq.dead ∧ w.acq.flagged = d.acq.flagged :=
      ⟨(congrArg (fun y : Steady => y.inputs.dead) steady).trans (congrArg Acq.dead acq :),
        (congrArg (fun y : Steady => y.inputs.flagged) steady).trans (congrArg Acq.flagged acq :)⟩
    have wKept : w.entryKept d srcChannelFault :=
      (d.entryKept_motion (by unfold measureSource; decide)).reportStd c (kept.trans (Device.entryKept_of_alm rfl))
    have outer := Device.outside_fields (show (w.recordClosed q).outside = x.outside by rw [← closes]; simp)
    have watched : supervised (w.recordClosed q) :=
      ⟨Device.recordClosed_supervised wKept inputs.1 inputs.2 q, outer.2.2.2.1, outer.2.2.1⟩
    obtain ⟨eTrv, eStd, ePrf, eCnv, eTells, eSample, eTimer⟩ := w.recordClosed_leaves q
    have cnvKept : (w.recordClosed q).cnv = d.cnv := eCnv.trans ((congrArg Steady.cnv steady).trans cnv)
    have passes {fs : List Frame} (h : w.tells d fs) : (w.recordClosed q).tells d fs := by simpa using Device.tells_trans h eTells
    let y := (z.setStd (d.std.summedWith q)).completeStd
    let r := (d.std.summedWith q).verdict
    have yTrv : y.trv = d.trv := by simp [y, z, x, Device.startTimeGating, Device.openSampleNow]
    have yStd : y.std = ((x.setStd (d.std.summedWith q)).completeStd).std := Device.completeStd_std_congr rfl rfl
    have start : y.tells d [] := Device.tells_from (Device.completeStd_tells _) rfl
    have applied : y.appliedDone 2 = d.appliedDone 2 := Device.appliedDone_congr (by rw [yTrv]) (by rw [yTrv]) 2
    have yOuter := Device.outside_fields (show y.outside = x.outside by simp [y, z])
    have yBrk : y.brk = d.brk := yOuter.2.2.2.1
    have yLink : y.lnk.link = d.lnk.link := yOuter.2.2.2.2.1
    have yPins : y.pins = d.pins := yOuter.2.2.1
    have completes (clear : q.sheet = .none) (collecting : d.std.phase = .collecting)
        (last : d.std.snapshot.samples ≤ d.std.summed + 1) : w = y.afterStd r := by
      have c' : c = (y, some r) := (Device.takeStdSample_collecting (d := z) collecting clear).trans (if_pos last)
      simp only [w, c']; rfl
    clear_value y
    refine ⟨_, row _ closes, watched, cnvKept, fun sheet => ?_, fun clear settling => ?_, fun clear collecting => ⟨fun more => ?_, fun last none alone => ?_, fun v last op scans => ⟨fun fails none => ?_, fun adopts link sheet => ?_, fun adopts link sheet f g frame range low cuts high off ready => ?_⟩⟩⟩
    · have c' : c = (z.failStd (.bare .sheet z.now (d.std.received + 1)) (d.std.received + 1), some .sheet) :=
        Device.takeStdSample_sheet busy sheet
      let y := z.failStd (.bare .sheet z.now (d.std.received + 1)) (d.std.received + 1)
      have w' : w = y.afterStd .sheet := by simp only [w, c']; rfl
      have ySteady : w.steady = y.steady := by rw [w']; exact Device.afterStd_steady _
      have yStd : y.std = { z.std.toIdle with last := some (.bare .sheet z.now (d.std.received + 1)) } := Device.failStd_std ..
      have failKept : (w.recordClosed q).entryKept y srcStdFail :=
        (Device.recordClosed_entryKept q (by decide)).trans
          (by rw [w']; exact (y.entryKept_motion (by unfold measureSource; decide)).afterStd .sheet (Device.entryKept_of_entry rfl))
      refine ⟨?_, ?_, ?_, fun idle => ?_, fun none => ?_⟩
      · rw [eStd]; exact ((congrArg Steady.ref ySteady).trans (congrArg Std.ref yStd) :)
      · rw [eStd]; exact ((congrArg Steady.count ySteady).trans (congrArg Std.count yStd) :)
      · exact failKept.live.trans (z.failStd_cond _ _ _)
      · rw [failKept.value, show (y.entry srcStdFail).value = _ from Device.failStd_value (d := z) idle _ _]
        rw [show failCode (StdLast.bare .sheet z.now (d.std.received + 1)).result = 1 from rfl, codedValue]
      · obtain ⟨parks, idle, -, told⟩ := Device.afterStd_fails (d := y) (r := .sheet) (by simp) (.inl (by simp [y, z]; exact none))
        rw [← w', show y.appliedDone 2 = d.appliedDone 2 from Device.appliedDone_congr (by simp [y, z]; rfl) (by simp [y, z]; rfl) 2,
          show y.trv.op = d.trv.op by simp [y, z]; rfl] at told
        rw [← w'] at parks idle
        refine ⟨?_, ?_, ?_, ?_, ?_, passes ?_⟩
        · rw [eStd, parks.std, yStd]; rfl
        · rw [eStd, parks.std, yStd]; rfl
        · rw [eTrv]; exact parks.state
        · rw [eTrv]; exact idle
        · rw [eTrv]; exact parks.pending
        · have start : y.tells d [] := Device.tells_from (z.failStd_tells _ _) rfl
          exact (Device.tells_trans start told :)
    · have c' : c = _ := Device.takeStdSample_settling (d := z) settling clear
      have w' : w = _ := (congrArg Device.reportStd c').trans rfl
      refine ⟨eTrv.trans (by rw [w']; rfl), passes (by rw [w']; exact Device.tells_of_lnk rfl), eSample.trans (by rw [w']; rfl),
        eTimer.trans (by rw [w']; rfl), eStd.trans (by rw [w']; rfl)⟩
    · have c' : c = _ := (Device.takeStdSample_collecting (d := z) collecting clear).trans (if_neg (Nat.not_le.mpr more))
      have w' : w = z.setStd (d.std.summedWith q) := by simp only [w, c']; rfl
      exact ⟨eTrv.trans (by rw [w']; rfl), eSample.trans (by rw [w']; rfl), eStd.trans (by rw [w']; rfl),
        passes (by rw [w']; exact Device.tells_of_lnk rfl)⟩
    · obtain ⟨parks, idle, -, told⟩ := Device.afterStd_ends (d := y) r
        (fun p h => by rw [alone p (by rw [← yTrv]; exact h)]; decide) (.inl (by rw [yTrv]; exact none))
      rw [← completes clear collecting last] at parks idle told
      rw [applied, yTrv] at told
      refine ⟨?_, ?_, ?_, ?_, ?_, ?_, passes ?_⟩
      · rw [eStd, parks.std, yStd]; rfl
      · rw [eTrv]; exact parks.state
      · rw [eTrv]; exact idle
      · rw [eTrv]; exact parks.openCmd
      · rw [eSample]; exact parks.sample.1
      · rw [eTrv]; exact parks.pending
      · have same : d.trv.op.map (fun p => p.done r.code 2 r.code) = d.trv.op.map (fun p => p.done r.code 2 255) :=
          Option.map_congr fun p h => by simp [OpRecord.done, alone p h]
        rw [same] at told
        exact (Device.tells_trans start told :)
    · have none' : y.trv.resume = .none := by rw [yTrv]; exact none
      obtain ⟨parks, idle, -, told⟩ := Device.afterStd_fails (d := y) (r := r) fails (.inl none')
      rw [← completes clear collecting last] at parks idle told
      rw [applied, yTrv, op, Option.map_some, if_pos scans] at told
      refine ⟨by rw [eStd, parks.std, yStd]; rfl, ⟨?_, ?_, ?_, ?_, ?_, ?_, passes (Device.tells_trans start told :)⟩, fun still => ?_⟩
      · rw [eTrv]; exact parks.state
      · rw [eTrv]; exact idle
      · rw [eTrv]; exact parks.enable
      · rw [eTrv]; exact parks.openCmd
      · rw [eSample]; exact parks.sample.1
      · rw [eTrv]; exact parks.pending
      · rw [eTrv, parks.settings.2.2, yTrv, Trv.withPending_of_none still]
    · obtain ⟨parks, idle, resume, told⟩ := Device.afterStd_breaks (x := r) (yTrv ▸ op) scans adopts (yLink ▸ link) (yBrk ▸ sheet)
      rw [← completes clear collecting last] at parks idle resume told
      rw [applied] at told
      refine ⟨eStd.trans (parks.std.trans ((y.reloadPlan_std v).trans yStd)), ⟨?_, ?_, ?_, ?_, ?_, ?_, passes (Device.tells_trans start told :)⟩, ?_, fun still => ?_⟩
      · rw [eTrv]; exact parks.state
      · rw [eTrv]; exact idle
      · rw [eTrv]; exact parks.enable
      · rw [eTrv]; exact parks.openCmd
      · rw [eSample]; exact parks.sample.1
      · rw [eTrv]; exact parks.pending
      · rw [eTrv, resume, yTrv]
      · rw [eTrv, parks.settings.2.2, Trv.withPending_of_none (by rw [Device.reloadPlan_trv, yTrv]; exact still), Device.reloadPlan_trv, yTrv]
    · intro side dest far opened
      have first : g.firstSide d.trv.counter = side := rfl
      have dest' : (g.runUp side).toNat = dest := by cases h : side <;> simp only [dest, h] <;> rfl
      have inside : (f.softLow : Int) ≤ g.runUp side ∧ g.runUp side ≤ f.softHigh := by
        cases h : side <;> simp only [EffRange.runUp] <;> omega
      have goes := Device.afterStd_approaches (d := y) (x := r) (f := f) (g := g) (by rw [yTrv]; exact op) scans adopts (yLink ▸ link)
        (yBrk ▸ sheet) (by rw [yTrv]; exact frame) (by rw [yTrv]; exact range) (by rw [yTrv, first]; exact inside)
        (by rw [yTrv, first, dest']; exact far) (by rw [yPins]; exact ready) (by rw [yTrv, yPins, first, dest']; exact opened)
      rw [← completes clear collecting last, yTrv, first, dest'] at goes
      obtain ⟨std, told, state, motion, enable, openCmd, resume, pending, settings, range', plan, sampled, timed, op'⟩ := goes
      rw [eTrv, eSample, eTimer, eStd]
      exact ⟨std.trans yStd, passes (Device.tells_trans start told :), state, motion, enable, openCmd, resume, pending, settings, range',
        plan, sampled, timed, op'⟩

end Sys2Proof.Machine
end


section
/-! PROOFS. The sheet state, the stations and the BREAK notices (O48, O50). -/

namespace Sys2Proof.Machine

/-! ## The sheet state -/

theorem Brk.allHold_iff (b : Brk) : b.allHold = true ↔
    ∀ n : Fin 8, b.stations[n].state = .disabled ∨ b.stations[n].state = .present ∨ b.stations[n].state = .losing := by
  have holds (x : StationState) : (decide (x = .disabled) || x.holds) = true ↔ x = .disabled ∨ x = .present ∨ x = .losing := by
    cases x <;> simp [StationState.holds]
  unfold Brk.allHold
  rw [List.all_eq_true]
  exact ⟨fun h n => (holds _).mp (h n (mem_allEight n)), fun h n _ => (holds _).mpr (h n)⟩

/-- R136, in the words of the stations. -/
theorem Brk.evaluate_eq (b : Brk) : b.evaluate =
    if b.openRec.isSome = true ∧ ∃ n : Fin 8, b.stations[n].state = .broken then .sheetBreak
    else if ∀ n : Fin 8, b.stations[n].state = .disabled ∨ b.stations[n].state = .present ∨ b.stations[n].state = .losing then .running
    else if b.openRec.isSome = true then .threading else .noSheet := by
  simp only [← Brk.allHold_iff, ← Brk.anyBroken_iff]
  cases found : b.openRec with
  | none => rw [Brk.evaluate_of_none found]; simp
  | some r => rw [Brk.evaluate_of_some found]; simp

/-! ## Placed notices (R143, R144) -/

/-- A record once the notices of the given break numbers have been placed. -/
def BreakRecord.told (sent : List Nat) (r : BreakRecord) : BreakRecord :=
  { r with notified := r.notified || decide (r.number ∈ sent) }

theorem BreakRecord.told_nil : BreakRecord.told [] = id := by
  funext r; simp [BreakRecord.told]

theorem BreakRecord.told_told (a b : List Nat) : BreakRecord.told b ∘ BreakRecord.told a = BreakRecord.told (a ++ b) := by
  funext r
  by_cases first : r.number ∈ a <;> by_cases second : r.number ∈ b <;> simp [BreakRecord.told, first, second]

theorem BreakRecord.noted_eq_told (n : Nat) : BreakRecord.noted n = BreakRecord.told [n] := by
  funext r
  by_cases same : r.number = n <;> simp [BreakRecord.noted, BreakRecord.told, same]

/-- The notice says nothing of itself. -/
theorem BreakRecord.told_notice (sent : List Nat) (r : BreakRecord) : (r.told sent).notice = r.notice := rfl

/-- The Break Detector and the queue once the notices of the first entries of the due list have been placed. -/
def Device.sending (sent : List Nat) (d : Device) : Device :=
  (d.setBrk { d.brk with
    openRec := d.brk.openRec.map (BreakRecord.told sent), history := d.brk.history.map (BreakRecord.told sent),
    due := d.brk.due.drop sent.length }).setLnk
  { d.lnk with eventQ := d.lnk.eventQ ++ sent.filterMap (fun n => (d.brk.find n).map BreakRecord.notice) }

theorem Device.sending_nil (d : Device) : d.sending [] = d := by
  simp [Device.sending, BreakRecord.told_nil, Device.setBrk, Device.setLnk]

theorem Device.sending_find (sent : List Nat) (d : Device) (n : Nat) : (d.sending sent).brk.find n = (d.brk.find n).map (BreakRecord.told sent) := by
  have all : (d.sending sent).brk.openRec.toList ++ (d.sending sent).brk.history =
      (d.brk.openRec.toList ++ d.brk.history).map (BreakRecord.told sent) := by
    cases found : d.brk.openRec <;> simp [Device.sending, found]
  unfold Brk.find
  rw [all, List.find?_map]; rfl

theorem Device.sending_sending (a b : List Nat) (d : Device) : (d.sending a).sending b = d.sending (a ++ b) := by
  have notices : b.filterMap (fun n => ((d.sending a).brk.find n).map BreakRecord.notice) =
      b.filterMap (fun n => (d.brk.find n).map BreakRecord.notice) := by
    simp only [Device.sending_find, Option.map_map]; rfl
  rw [Device.sending, notices]
  simp [Device.sending, BreakRecord.told_told, Device.setBrk, Device.setLnk, Option.map_map]

theorem Device.placeBreak_of_none {d : Device} (none : d.brk.due = []) : d.placeBreak = d := by
  unfold Device.placeBreak; rw [none]

theorem Device.sending_one {d : Device} {n : Nat} {rest : List Nat} {r : BreakRecord} (first : d.brk.due = n :: rest)
    (found : d.brk.find n = some r) : d.sending [n] =
      (d.setBrk { d.brk with
        openRec := d.brk.openRec.map (BreakRecord.noted n), history := d.brk.history.map (BreakRecord.noted n), due := rest }).setLnk
      { d.lnk with eventQ := d.lnk.eventQ ++ [r.notice] } := by
  simp [Device.sending, found, first, BreakRecord.noted_eq_told]

theorem Device.placeBreak_of_found {d : Device} {n : Nat} {rest : List Nat} {r : BreakRecord} (first : d.brk.due = n :: rest)
    (found : d.brk.find n = some r) : d.placeBreak = d.sending [n] := by
  unfold Device.placeBreak
  rw [first]
  dsimp only
  rw [found]
  rw [Device.sending_one first found]

/-- Nothing is placed while the queue is full, or with nothing due. -/
theorem Device.placeBreaks_rests (k : Nat) {d : Device} (rests : d.brk.due = [] ∨ 8 ≤ d.lnk.eventQ.length) : d.placeBreaks k = d := by
  cases k with
  | zero => rfl
  | succ k =>
    refine if_neg fun ⟨room, due⟩ => ?_
    have room := of_decide_eq_true room
    rcases rests with none | full
    · exact due none
    · omega

/-- The notices of due records are placed oldest first, while there is room and work (R144). -/
theorem Device.placeBreaks_eq (k : Nat) {d : Device} (known : ∀ n ∈ d.brk.due, (d.brk.find n).isSome = true) :
    d.placeBreaks k = d.sending (d.brk.due.take (min k (8 - d.lnk.eventQ.length))) := by
  induction k generalizing d with
  | zero => simp [Device.placeBreaks, Device.sending_nil]
  | succ k ih =>
    cases due : d.brk.due with
    | nil => rw [Device.placeBreaks_rests _ (.inl due), List.take_nil, Device.sending_nil]
    | cons n rest =>
      by_cases room : d.lnk.eventQ.length < 8
      · obtain ⟨r, found⟩ := Option.isSome_iff_exists.mp (known n (by simp [due]))
        have later : (d.sending [n]).brk.due = rest := by simp [Device.sending, due]
        have queue : (d.sending [n]).lnk.eventQ.length = d.lnk.eventQ.length + 1 := by simp [Device.sending, found]
        have still : ∀ m ∈ (d.sending [n]).brk.due, ((d.sending [n]).brk.find m).isSome = true := fun m mem => by
          rw [Device.sending_find, Option.isSome_map]
          exact known m (by rw [due, ← later]; exact List.mem_cons_of_mem _ mem)
        have count : min (k + 1) (8 - d.lnk.eventQ.length) = min k (8 - (d.lnk.eventQ.length + 1)) + 1 := by omega
        rw [show d.placeBreaks (k + 1) = d.placeBreak.placeBreaks k from if_pos ⟨decide_eq_true room, by simp [due]⟩,
          Device.placeBreak_of_found due found, ih still, later, queue, Device.sending_sending, count]
        rfl
      · have none : min (k + 1) (8 - d.lnk.eventQ.length) = 0 := by omega
        rw [Device.placeBreaks_rests _ (.inr (by omega)), none, List.take_zero, Device.sending_nil]

/-- A notice that falls due with every due record at hand (R144). -/
theorem Device.fallDue_eq {d : Device} {n : Nat} (known : ∀ m ∈ d.brk.due ++ [n], (d.brk.find m).isSome = true) : d.fallDue n =
    (d.setBrk { d.brk with due := d.brk.due ++ [n] }).sending ((d.brk.due ++ [n]).take (8 - d.lnk.eventQ.length)) := by
  have all : (d.brk.due ++ [n]).take (min (d.brk.due ++ [n]).length (8 - d.lnk.eventQ.length)) =
      (d.brk.due ++ [n]).take (8 - d.lnk.eventQ.length) := by
    rw [Nat.min_comm, List.take_eq_take_iff]; omega
  have placed := Device.placeBreaks_eq (d.brk.due ++ [n]).length (d := d.setBrk { d.brk with due := d.brk.due ++ [n] }) known
  exact placed.trans (congrArg (Device.sending · _) all)

theorem Device.fallDue_full {d : Device} {n : Nat} (full : 8 ≤ d.lnk.eventQ.length) :
    d.fallDue n = d.setBrk { d.brk with due := d.brk.due ++ [n] } :=
  Device.placeBreaks_rests _ (.inr full)

/-! ## What a placement leaves as it is -/

/-- A record but for its notified mark. -/
def BreakRecord.unmarked (r : BreakRecord) : BreakRecord := { r with notified := false }

@[simp] theorem BreakRecord.noted_unmarked (n : Nat) (r : BreakRecord) : (r.noted n).unmarked = r.unmarked := by
  unfold BreakRecord.noted; split <;> rfl

/-- The Break Detector but for what is due and the notified marks. -/
def Brk.unmarked (b : Brk) : Brk :=
  { b with due := [], openRec := b.openRec.map BreakRecord.unmarked, history := b.history.map BreakRecord.unmarked }

/-- A change of the Break Detector and of the event-notice queue alone, which leaves `b` but for what is due and the marks. -/
def Device.placedFrom (d : Device) (b : Brk) (e : Device) : Prop :=
  ∃ b' q, e = (d.setBrk b').setLnk { d.lnk with eventQ := q } ∧ b'.unmarked = b.unmarked

theorem Device.placeBreak_from (d : Device) : d.placedFrom d.brk d.placeBreak := by
  have noted (n : Nat) : BreakRecord.unmarked ∘ BreakRecord.noted n = BreakRecord.unmarked := funext (BreakRecord.noted_unmarked n)
  unfold Device.placeBreak; split
  · exact ⟨d.brk, d.lnk.eventQ, rfl, rfl⟩
  · next rest _ =>
    dsimp only; split
    · exact ⟨{ d.brk with due := rest }, d.lnk.eventQ, rfl, rfl⟩
    · exact ⟨_, _, rfl, by simp [Brk.unmarked, noted]⟩

theorem Device.placeBreaks_from (k : Nat) (d : Device) : d.placedFrom d.brk (d.placeBreaks k) := by
  induction k generalizing d with
  | zero => exact ⟨d.brk, d.lnk.eventQ, rfl, rfl⟩
  | succ k ih =>
    unfold Device.placeBreaks; split
    · obtain ⟨b, q, placed, same⟩ := d.placeBreak_from
      obtain ⟨b', q', rest, same'⟩ := ih d.placeBreak
      rw [placed] at rest same'
      exact ⟨b', q', by rw [placed, rest]; rfl, same'.trans same⟩
    · exact ⟨d.brk, d.lnk.eventQ, rfl, rfl⟩

theorem Device.fallDue_from (d : Device) (n : Nat) : d.placedFrom d.brk (d.fallDue n) := by
  obtain ⟨b, q, placed, same⟩ := Device.placeBreaks_from (d.brk.due ++ [n]).length (d.setBrk { d.brk with due := d.brk.due ++ [n] })
  exact ⟨b, q, placed, same⟩

/-- The open record completed, still open (R146). -/
theorem Device.finished_from (d : Device) (r : BreakRecord) :
    d.placedFrom { d.brk with openRec := some (d.finishedRecord r), cascade := none } (d.finished r) := by
  unfold Device.finished; split
  · obtain ⟨b, q, placed, same⟩ := Device.fallDue_from
      (d.setBrk { d.brk with openRec := some (d.finishedRecord r), cascade := none }) (d.finishedRecord r).number
    exact ⟨b, q, placed, same⟩
  · exact ⟨_, d.lnk.eventQ, rfl, rfl⟩

/-- The completed record stands until it enters the history, with its mark alone changed. -/
theorem Device.finished_stands (d : Device) (r : BreakRecord) :
    ∃ q, (d.finished r).brk.openRec = some q ∧ q.unmarked = (d.finishedRecord r).unmarked ∧ (d.finished r).brk.cascade = none := by
  obtain ⟨b, q, placed, same⟩ := d.finished_from r
  rw [placed]
  have cascade : b.cascade = none := (congrArg Brk.cascade same :)
  have stands : b.openRec.map BreakRecord.unmarked = some (d.finishedRecord r).unmarked := (congrArg Brk.openRec same :)
  obtain ⟨z, open', mark⟩ := Option.map_eq_some_iff.mp stands
  exact ⟨z, open', mark, cascade⟩

/-- What closing the record leaves in the other blocks. -/
theorem Device.closeRecord_only (d : Device) : ∃ b q, d.closeRecord = (d.setBrk b).setLnk { d.lnk with eventQ := q } := by
  cases stands : d.brk.openRec with
  | none => exact ⟨d.brk, d.lnk.eventQ, Device.closeRecord_of_none stands⟩
  | some r =>
    obtain ⟨b, q, placed, _⟩ := d.finished_from r
    exact ⟨_, q, by rw [Device.closeRecord_of_some stands, placed]; rfl⟩

theorem Device.closeRecord_trv (d : Device) : d.closeRecord.trv = d.trv := by
  obtain ⟨b, q, only⟩ := d.closeRecord_only
  rw [only]; rfl

/-- A record is found by its number. -/
theorem Brk.find_isSome {b : Brk} {r : BreakRecord} {n : Nat} (stands : b.openRec = some r) :
    (b.find n).isSome = true ↔ ∃ q ∈ r :: b.history, q.number = n := by
  rw [Brk.find, stands]
  simp [List.find?_isSome]

theorem Device.closeCascade_of_some {d : Device} {r : BreakRecord} (stands : d.brk.openRec = some r) :
    d.closeCascade = (d.setBrk { d.brk with openRec := some (d.closedWindow r), cascade := none }).fallDue r.number := by
  unfold Device.closeCascade; rw [stands]

/-- The window's record and its notice, with every due record at hand (R142, R144). -/
theorem Device.fallDue_open {d : Device} {b : Brk} {q : BreakRecord} (stands : b.openRec = some q)
    (known : ∀ n ∈ b.due, ∃ z ∈ q :: b.history, z.number = n) : (d.setBrk b).fallDue q.number =
      ((d.setBrk { b with due := b.due ++ [q.number] }).sending ((b.due ++ [q.number]).take (8 - d.lnk.eventQ.length))) := by
  refine Device.fallDue_eq (d := d.setBrk b) fun m mem => (Brk.find_isSome stands).mpr ?_
  rcases List.mem_append.mp mem with old | new
  · exact known m old
  · exact ⟨q, List.mem_cons_self, (List.mem_singleton.mp new).symm⟩

/-- The completed record as it stands open, its notice due where its window still ran (R146). -/
theorem Device.finished_eq {d : Device} {r : BreakRecord} (known : ∀ n ∈ d.brk.due, ∃ z ∈ r :: d.brk.history, z.number = n) :
    d.finished r = if d.brk.cascade.isSome then
      (d.setBrk { d.brk with
        openRec := some (d.finishedRecord r), cascade := none,
        due := d.brk.due ++ [(d.finishedRecord r).number] }).sending
          ((d.brk.due ++ [(d.finishedRecord r).number]).take (8 - d.lnk.eventQ.length))
      else d.setBrk { d.brk with openRec := some (d.finishedRecord r), cascade := none } := by
  have number : (d.finishedRecord r).number = r.number := by unfold Device.finishedRecord; split <;> rfl
  unfold Device.finished
  split
  · rw [Device.fallDue_open (q := d.finishedRecord r) rfl]
    simpa [number] using known
  · rfl

/-- The completed record enters the history, and the due entry of a dropped one goes with it (R146). -/
def Device.archived (d : Device) : Device :=
  d.setBrk { d.brk with
    openRec := none, history := (d.brk.openRec.toList ++ d.brk.history).take 16,
    due := d.brk.due.filter (fun m => !((d.brk.history.drop 15).any (fun q => q.number = m))) }

theorem Device.closeRecord_eq {d : Device} {r : BreakRecord} (stands : d.brk.openRec = some r) :
    d.closeRecord = (d.finished r).archived := by
  obtain ⟨q, still, _, closed⟩ := d.finished_stands r
  rw [Device.closeRecord_of_some stands, still]
  simp [Brk.archive, closed, Device.archived, still]

/-- The one due notice is placed at once (R144). -/
theorem Device.fallDue_first {d : Device} {b : Brk} {q : BreakRecord} (stands : b.openRec = some q) (none : b.due = [])
    (room : d.lnk.eventQ.length < 8) : (d.setBrk b).fallDue q.number =
      (d.setBrk { b with openRec := some { q with notified := true }, history := b.history.map (BreakRecord.noted q.number) }).setLnk
        { d.lnk with eventQ := d.lnk.eventQ ++ [q.notice] } := by
  have found : Brk.find { b with due := [q.number] } q.number = some q := by simp [Brk.find, stands]
  have all : ([q.number] : List Nat).take (8 - d.lnk.eventQ.length) = [q.number] := List.take_of_length_le (by simp; omega)
  have sent := Device.sending_one (d := d.setBrk { b with due := [q.number] }) rfl found
  rw [Device.fallDue_open stands (by simp [none]), none, List.nil_append, all, sent]
  simp [stands, BreakRecord.noted, Device.setBrk, Device.setLnk]

/-- What an evaluation does that leads to RUNNING with no resume held (R137, R146). -/
theorem Device.evaluateSheet_runs {d : Device} (changes : d.brk.sheet ≠ .running) (runs : d.brk.evaluate = .running)
    (calm : d.trv.resume = none) : d.evaluateSheet = ((d.setBrk { d.brk with sheet := .running }).setChanged true).closeRecord := by
  unfold Device.evaluateSheet
  rw [runs]
  dsimp only
  rw [if_neg (Ne.symm changes)]
  exact Device.tryResume_of_none _ ((congrArg Trv.resume (Device.closeRecord_trv _)).trans calm)

/-- Settles O50: the notices that are placed are those of the first entries of the due list, as many as the queue has room for. -/
theorem breakNoticesFallDue : Obligations.BreakNoticesFallDue := by
  unfold Obligations.BreakNoticesFallDue
  intro s dt t r d x closed told falls awake
  have sameNumber {q : BreakRecord} (number : q.number = r.number) (known : ∀ n ∈ d.brk.due, ∃ z ∈ r :: d.brk.history, z.number = n) :
      ∀ n ∈ d.brk.due, ∃ z ∈ q :: d.brk.history, z.number = n := by simpa [number] using known
  refine ⟨fun runs stands none room => ?_, fun runs stands full => ?_, fun runs stands known => ?_,
    ?restored, fun n rest first room found => ?_, fun rests => ?_⟩
  case restored =>
    intro n stands calm runs restoring others notRunning known up back b y
    refine exec_expires (row_restoreExpiry _ dt n) runs awake ?_
    have evaluates : ({ d.brk with stations := up } : Brk).evaluate = .running := by
      have station (m : Fin 8) : up[m] = if m = n then { d.station n with state := .present, restoreTimer := none } else d.station m :=
        Device.setStationAt_station d n m _
      have holds (m : Fin 8) : up[m].state = .disabled ∨ up[m].state = .present ∨ up[m].state = .losing := by
        rw [station]; split
        · exact .inr (.inl rfl)
        · exact others m ‹_›
      rw [Brk.evaluate_eq, if_neg, if_pos holds]
      rintro ⟨_, m, broken⟩
      rcases holds m with h | h | h <;> rw [h] at broken <;> nomatch broken
    let w := (x.setBrk { d.brk with stations := up, sheet := .running }).setChanged true
    have finishes : w.finished r = y.setChanged true := by
      refine (Device.finished_eq (d := w) known).trans ?_
      by_cases runs : d.brk.cascade.isSome = true
      · refine (if_pos runs).trans (Eq.trans ?_ (congrArg (Device.setChanged · true) (if_pos runs).symm))
        rfl
      · refine (if_neg runs).trans (Eq.trans ?_ (congrArg (Device.setChanged · true) (if_neg runs).symm))
        rfl
    calc (x.setBrk { d.brk with stations := up }).evaluateSheet
      _ = w.closeRecord := Device.evaluateSheet_runs (d := x.setBrk { d.brk with stations := up }) notRunning evaluates calm
      _ = (w.finished r).archived := Device.closeRecord_eq (d := w) stands
      _ = (y.setChanged true).archived := congrArg Device.archived finishes
      _ = y.archived.setChanged true := rfl
  · refine exec_expires (row_cascadeExpiry _ dt) runs awake ((Device.closeCascade_of_some (d := x) stands).trans ?_)
    exact Device.fallDue_first (d := x) (b := { d.brk with openRec := some closed, cascade := Option.none }) (q := closed) rfl none room
  · refine exec_expires (row_cascadeExpiry _ dt) runs awake ?_
    exact (Device.closeCascade_of_some (d := x) stands).trans (Device.fallDue_full full)
  · refine exec_expires (row_cascadeExpiry _ dt) runs awake ?_
    exact (Device.closeCascade_of_some (d := x) stands).trans
      (Device.fallDue_open (b := { d.brk with openRec := some closed, cascade := Option.none }) (q := closed) rfl (sameNumber rfl known))
  · refine exec_ends (row_breakNoticePlaced _ dt) awake ?_
    refine (if_pos ⟨decide_eq_true room, by rw [first]; simp⟩ : d.placeBreaks 1 = d.placeBreak).trans ?_
    exact (Device.placeBreak_of_found first found).trans (Device.sending_one first found)
  · exact exec_ends (row_breakNoticePlaced _ dt) awake (Device.placeBreaks_rests 1 rests)

/-! ## What an evaluation leaves -/

/-- What neither a placement nor the closing of a record touches. -/
def Brk.standing (b : Brk) : Vector Station 8 × Option BreakSettings × SheetState × Nat :=
  (b.stations, b.settings, b.sheet, b.breakNumber)

theorem Device.closeRecord_standing (d : Device) : d.closeRecord.brk.standing = d.brk.standing := by
  cases stands : d.brk.openRec with
  | none => rw [Device.closeRecord_of_none stands]
  | some r =>
    obtain ⟨b, q, placed, same⟩ := d.finished_from r
    rw [Device.closeRecord_eq stands, placed]
    exact (congrArg Brk.standing same :)

theorem Device.parkOnBreak_brk (d : Device) : d.parkOnBreak.brk = d.brk := (congrArg Device.brk d.parkOnBreak_outside :)

theorem Device.tryResume_brk (d : Device) : d.tryResume.brk = d.brk := (congrArg Device.brk d.tryResume_outside :)

/-- The entry to RUNNING closes the record, and a held operation may resume (R137, R146, R41). -/
theorem Device.evaluateSheet_running {d : Device} (changes : d.brk.sheet ≠ .running) (runs : d.brk.evaluate = .running) :
    d.evaluateSheet = ((d.setBrk { d.brk with sheet := .running }).setChanged true).closeRecord.tryResume := by
  unfold Device.evaluateSheet
  rw [runs]
  exact if_neg (Ne.symm changes)

/-- An evaluation to another state than RUNNING changes the sheet state alone of the Break Detector. -/
theorem Device.evaluateSheet_elsewhere {d : Device} (elsewhere : d.brk.evaluate ≠ .running) :
    d.evaluateSheet.brk = { d.brk with sheet := d.brk.evaluate } := by
  unfold Device.evaluateSheet
  dsimp only
  split
  · next same => rw [same]
  · cases given : d.brk.evaluate with
    | running => exact absurd given elsewhere
    | sheetBreak => exact Device.parkOnBreak_brk _
    | noSheet => rfl
    | threading => rfl

theorem Device.evaluateSheet_standing (d : Device) :
    d.evaluateSheet.brk.standing = ({ d.brk with sheet := d.brk.evaluate } : Brk).standing := by
  by_cases runs : d.brk.evaluate = .running
  · by_cases same : d.brk.sheet = .running
    · rw [runs, ← same]
      exact congrArg (fun e : Device => e.brk.standing) (if_pos (runs.trans same.symm))
    · rw [Device.evaluateSheet_running same runs, Device.tryResume_brk, Device.closeRecord_standing, runs]; rfl
  · rw [Device.evaluateSheet_elsewhere runs]

/-- What rests on the pins and on the stations' conditions alone is as it was. -/
theorem Device.evaluateSheet_calm (d : Device) :
    d.evaluateSheet.pins = d.pins ∧ ∀ n, d.evaluateSheet.cond (srcBreak n) = d.cond (srcBreak n) := by
  have parks (e : Device) : e.parkOnBreak.pins = e.pins ∧ ∀ n, e.parkOnBreak.cond (srcBreak n) = e.cond (srcBreak n) :=
    ⟨(congrArg Device.pins e.parkOnBreak_outside :), ((Device.breaksAre_calm e.brk _).parkOnBreak ⟨rfl, fun _ => rfl⟩).2⟩
  have resumes (e : Device) : e.tryResume.pins = e.pins ∧ ∀ n, e.tryResume.cond (srcBreak n) = e.cond (srcBreak n) :=
    ⟨(congrArg Device.pins e.tryResume_outside :), ((Device.breaksAre_calm e.brk _).tryResume ⟨rfl, fun _ => rfl⟩).2⟩
  unfold Device.evaluateSheet
  dsimp only
  split
  · exact ⟨rfl, fun _ => rfl⟩
  · cases d.brk.evaluate with
    | sheetBreak => exact parks _
    | running =>
      obtain ⟨b, q, only⟩ := ((d.setBrk { d.brk with sheet := .running }).setChanged true).closeRecord_only
      obtain ⟨pins, conds⟩ := resumes ((d.setBrk { d.brk with sheet := .running }).setChanged true).closeRecord
      exact ⟨pins.trans (by rw [only]; rfl), fun n => (conds n).trans (by rw [only]; rfl)⟩
    | noSheet => exact ⟨rfl, fun _ => rfl⟩
    | threading => exact ⟨rfl, fun _ => rfl⟩

/-! ## One station moves (R132, R136) -/

/-- Only the station has changed, and the sheet state with it. -/
def Device.onlyStation (d : Device) (n : Fin 8) (x : Station) (e : Device) : Prop :=
  e.station n = x ∧ (∀ m : Fin 8, m ≠ n → e.station m = d.station m) ∧
  e.brk.sheet = (if d.brk.openRec.isSome = true ∧ ∃ m : Fin 8, (e.station m).state = .broken then .sheetBreak
    else if ∀ m : Fin 8, (e.station m).state = .disabled ∨ (e.station m).state = .present ∨ (e.station m).state = .losing then .running
    else if d.brk.openRec.isSome = true then .threading else .noSheet) ∧
  e.brk.settings = d.brk.settings ∧ e.brk.breakNumber = d.brk.breakNumber

theorem Device.evaluateSheet_only {d e : Device} {n : Fin 8} {x : Station} (moved : e.brk = (d.setStationAt n x).brk) :
    d.onlyStation n x e.evaluateSheet := by
  have same := e.evaluateSheet_standing
  simp only [Brk.standing, Prod.mk.injEq] at same
  obtain ⟨stations, settings, sheet, number⟩ := same
  have station (m : Fin 8) : e.evaluateSheet.station m = if m = n then x else d.station m := by
    rw [Device.station, stations, moved]
    exact Device.setStationAt_station d n m x
  refine ⟨by rw [station, if_pos rfl], fun m other => by rw [station, if_neg other], ?_, ?_, ?_⟩
  · rw [sheet, Brk.evaluate_eq, ← stations, show e.brk.openRec = d.brk.openRec by rw [moved]; rfl]; rfl
  · rw [settings, moved]; rfl
  · rw [number, moved]; rfl

theorem Device.moveStationInput_shows (d : Device) (n : Fin 8) (v : Bool) : (d.moveStationInput n v).showsSheet n = v := by
  have level : (d.moveStationInput n v).showsSheet n = ((v != (d.station n).polarity) != (d.station n).polarity) := by
    simp [Device.showsSheet, Device.moveStationInput, Device.setPins, Device.station]
  rw [level]
  cases v <;> cases (d.station n).polarity <;> rfl

/-- A definition accepted for a station is one move of it (R130). -/
theorem Device.defineStation_eq (d : Device) (n : Fin 8) (f : StationDef) : d.defineStation n f = d.setStationAt n
    (if f.enabled = false then { d.station n with definition := some f, state := .disabled, qualifyTimer := none, restoreTimer := none }
     else if (d.station n).state = .disabled ∨ (d.station n).polarity ≠ f.polarity then
       d.stationStarted n { d.station n with definition := some f }
     else { d.station n with definition := some f }) := by
  unfold Device.defineStation
  dsimp only
  split
  · rfl
  · split
    · exact d.setStationAt_startStation n _
    · rfl

/-- The station as it starts with a definition (R130). -/
theorem Device.stationStarted_eq (d : Device) (n : Fin 8) (x : Station) (f : StationDef) :
    d.stationStarted n { x with definition := some f } =
      if d.pins.stations[n] != f.polarity then
        { x with definition := some f, state := .restoring, qualifyTimer := none, restoreTimer := some (d.clk + f.restore * 1000) }
      else { x with definition := some f, state := .noSheet, qualifyTimer := none, restoreTimer := none } := rfl

/-- The closed record heads the history (R146). -/
theorem Device.evaluateSheet_closes {d : Device} {r : BreakRecord} (changes : d.brk.sheet ≠ .running) (runs : d.brk.evaluate = .running)
    (stands : d.brk.openRec = some r) : d.evaluateSheet.brk.openRec = none ∧ d.evaluateSheet.brk.cascade = none ∧
      ∃ q ∈ d.evaluateSheet.brk.history.head?, q.unmarked = (d.finishedRecord r).unmarked := by
  have closes : d.evaluateSheet.brk = (((d.setBrk { d.brk with sheet := .running }).setChanged true).finished r).archived.brk := by
    rw [Device.evaluateSheet_running changes runs, Device.tryResume_brk,
      Device.closeRecord_eq (d := (d.setBrk { d.brk with sheet := .running }).setChanged true) stands]
  obtain ⟨q, still, same, closed⟩ := Device.finished_stands ((d.setBrk { d.brk with sheet := .running }).setChanged true) r
  rw [closes]
  refine ⟨rfl, closed, q, ?_, same⟩
  simp [Device.archived, still]

/-! ## Presence (R128, R132) -/

theorem Device.stationInput_same {d : Device} {n : Fin 8} {v : Bool} (same : d.showsSheet n = v) : d.stationInput n v = d := if_pos same

theorem Device.stationInput_seen {d : Device} {n : Fin 8} (hides : d.showsSheet n = false) :
    d.stationInput n true = (d.moveStationInput n true).presenceSeen n := if_neg (by simp [hides])

theorem Device.stationInput_lost {d : Device} {n : Fin 8} (shows : d.showsSheet n = true) :
    d.stationInput n false = (d.moveStationInput n false).presenceLost n := if_neg (by simp [shows])

section
variable {d : Device} {n : Fin 8}

theorem Device.presenceSeen_quiet
    (state : (d.station n).state = .disabled ∨ (d.station n).state = .restoring ∨ (d.station n).state = .present) : d.presenceSeen n = d := by
  unfold Device.presenceSeen
  dsimp only
  rcases state with h | h | h <;> rw [h]

theorem Device.presenceSeen_restores (state : (d.station n).state = .noSheet ∨ (d.station n).state = .broken) : d.presenceSeen n =
    ((d.setStationAt n { d.station n with
      state := .restoring, restoreTimer := some (d.clk + (((d.station n).definition.map StationDef.restore).getD 0) * 1000)
      }).fallIfActive (srcBreak n)).evaluateSheet := by
  unfold Device.presenceSeen
  dsimp only
  rcases state with h | h <;> rw [h] <;> rfl

theorem Device.presenceSeen_holds (state : (d.station n).state = .losing) : d.presenceSeen n =
    (d.setStationAt n { d.station n with
      state := .present, qualifyTimer := none, flickers := min ((d.station n).flickers + 1) 65535 }).evaluateSheet := by
  unfold Device.presenceSeen; dsimp only; rw [state]; rfl

theorem Device.presenceLost_quiet (state : (d.station n).state = .disabled ∨ (d.station n).state = .noSheet ∨
    (d.station n).state = .losing ∨ (d.station n).state = .broken) : d.presenceLost n = d := by
  unfold Device.presenceLost
  dsimp only
  rcases state with h | h | h | h <;> rw [h]

theorem Device.presenceLost_restoring (state : (d.station n).state = .restoring) : d.presenceLost n =
    (d.setStationAt n { d.station n with state := .noSheet, restoreTimer := none }).evaluateSheet := by
  unfold Device.presenceLost; dsimp only; rw [state]

theorem Device.presenceLost_present (state : (d.station n).state = .present) : d.presenceLost n =
    (d.setStationAt n (if (d.brk.settings.map BreakSettings.crawl).getD 0 ≤ d.acq.speed then
      { d.station n with
        state := .losing, qualifyTimer := some (d.clk + (((d.station n).definition.map StationDef.qualify).getD 0) * 1000) }
      else { d.station n with state := .noSheet })).evaluateSheet := by
  unfold Device.presenceLost; dsimp only; rw [state]
  exact congrArg (fun x => (d.setStationAt n x).evaluateSheet) (if_congr decide_eq_true_iff rfl rfl)

end

/-- Settles O48: each event moves one station, and the evaluation gives the sheet state that the stations then stand for. -/
theorem stationsAct : Obligations.StationsAct := by
  unfold Obligations.StationsAct
  intro s dt t tag p n d x restore qualify hold fits only moved awake stood
  obtain ⟨openIff, _⟩ := stood
  have seen {e : Device} (acts : d.stationInput n true = e) : exec (.stationPresenceSeen dt n) s = s.ends e :=
    exec_ends ((row_stationPresenceSeen _ dt n).trans (if_neg (Bool.eq_false_iff.mp awake))) awake acts
  have gone {e : Device} (acts : d.stationInput n false = e) : exec (.stationPresenceLost dt n) s = s.ends e :=
    exec_ends ((row_stationPresenceLost _ dt n).trans (if_neg (Bool.eq_false_iff.mp awake))) awake acts
  refine ⟨fun clear len => ?define, fun shows => seen (Device.stationInput_same shows),
    fun hides => ⟨d.moveStationInput_shows n true, fun quiet => seen ?_, fun lost => ?_, fun losing => ?_⟩,
    fun hides => gone (Device.stationInput_same hides),
    fun shows => ⟨d.moveStationInput_shows n false, fun quiet => gone ?_, fun restoring => ?_, fun present => ?_⟩, fun runs => ?restored⟩
  case define =>
    intro f same sheetShown bad
    have rest (settled : d.brk.sheet = .running ∨ d.brk.sheet = .noSheet) : ¬(d.brk.sheet = .sheetBreak ∨ d.brk.sheet = .threading) := by
      rcases settled with h | h <;> rw [h] <;> nofun
    refine ⟨fun torn => ?_, fun settled wrong => ?_, fun settled good enables unset => ?_, fun settled good able number => ?_⟩
    · exact State.command_refused clear (h := Device.setStation) (c := .sheet) (by decide) ((if_neg (not_not.mpr len)).trans (if_pos torn))
    · exact State.command_refused clear (h := Device.setStation) (c := .badValue) (by decide)
        ((if_neg (not_not.mpr len)).trans ((if_neg (rest settled)).trans (if_pos wrong)))
    · exact State.command_refused clear (h := Device.setStation) (c := .unconfigured) (by decide)
        ((if_neg (not_not.mpr len)).trans ((if_neg (rest settled)).trans ((if_neg good).trans (if_pos ⟨enables, unset⟩))))
    · have which : Fin.ofNat 8 (field p 0 1) = n := by rw [← number]; exact Fin.ofNat_val_eq_self n
      have permitted : ¬(f.enabled = true ∧ d.brk.settings = none) := fun ⟨enables, unset⟩ =>
        able.elim (fun off => by rw [off] at enables; nomatch enables) (fun set => set unset)
      refine ⟨(d.defineStation n f).evaluateSheet, State.command_flagged clear (h := Device.setStation)
        (a := decide (f.qualify ≠ field p 3 2 ∨ f.restore ≠ field p 5 2)) (flagsByte_unless not_and_or.symm)
        ((if_neg (not_not.mpr len)).trans ((if_neg (rest settled)).trans ((if_neg good).trans ((if_neg permitted).trans ?_)))), ?_⟩
      · rw [which]; rfl
      · exact Device.evaluateSheet_only (congrArg Device.brk (d.defineStation_eq n f))
  case restored =>
    let z := (d.setClk (max d.clk t)).setStationAt n { x with state := .present, restoreTimer := none }
    have sheet : z.evaluateSheet.brk.sheet = z.brk.evaluate :=
      (congrArg (fun v => v.2.2.1) z.evaluateSheet_standing :)
    refine ⟨z.evaluateSheet, exec_expires (row_restoreExpiry _ dt n) runs awake rfl, Device.evaluateSheet_only rfl,
      fun r stands running => ?_, fun elsewhere => ?_⟩
    · have changes : d.brk.sheet ≠ .running := by
        have open' : d.brk.openRec.isSome = true := Option.isSome_of_mem stands
        rcases openIff.mp open' with h | h <;> rw [h] <;> nofun
      obtain ⟨closed, window, q, head, same⟩ := Device.evaluateSheet_closes (d := z) changes (sheet.symm.trans running) stands
      have told : (z.finishedRecord r).number = r.number ∧ (z.finishedRecord r).losses = r.losses := by
        unfold Device.finishedRecord; split <;> exact ⟨rfl, rfl⟩
      exact ⟨closed, window, q, head, (congrArg BreakRecord.number same :).trans told.1,
        (congrArg BreakRecord.losses same :).trans told.2, (congrArg BreakRecord.restore same :)⟩
    · have kept := Device.evaluateSheet_elsewhere (d := z) (fun running => elsewhere (sheet.trans running))
      rw [kept]
      exact ⟨rfl, rfl⟩
  · exact (Device.stationInput_seen hides).trans (Device.presenceSeen_quiet (d := moved true) quiet)
  · refine ⟨_, seen ((Device.stationInput_seen hides).trans (Device.presenceSeen_restores (d := moved true) lost)), ?_, ?_, ?_⟩
    · exact Device.evaluateSheet_only (by simp [Device.setStationAt, moved, Device.moveStationInput]; rfl)
    · rw [(Device.evaluateSheet_calm _).2]; exact Device.fallIfActive_cond_self _ _
    · rw [(Device.evaluateSheet_calm _).1]; simp [Device.setStationAt]
  · refine ⟨_, seen ((Device.stationInput_seen hides).trans (Device.presenceSeen_holds (d := moved true) losing)),
      Device.evaluateSheet_only rfl, ?_⟩
    rw [(Device.evaluateSheet_calm _).1]; rfl
  · exact (Device.stationInput_lost shows).trans (Device.presenceLost_quiet (d := moved false) quiet)
  · exact ⟨_, gone ((Device.stationInput_lost shows).trans (Device.presenceLost_restoring (d := moved false) restoring)),
      Device.evaluateSheet_only rfl⟩
  · exact ⟨_, gone ((Device.stationInput_lost shows).trans (Device.presenceLost_present (d := moved false) present)),
      Device.evaluateSheet_only rfl⟩

end Sys2Proof.Machine
end


section
/-! PROOFS. Qualified losses (O49). -/

namespace Sys2Proof.Machine

/-! ## The head leaves a torn sheet -/

/-- What the parking of a head over the sheet leaves, whatever its move leads to (R39). -/
theorem Device.leaveSheet_off (d : Device) (c : Completion) (r : OpResult) (stays : d.brk.sheet ≠ .running) :
    (d.leaveSheet c r).trv.state.overSheet = false := by
  have state : (d.leavingStage c r).trv.state = .parking := by simp
  have sheet : (d.leavingStage c r).brk.sheet ≠ .running := by simpa [Device.leavingStage] using stays
  have op : (d.leavingStage c r).trv.op = none := by simp
  rw [Device.leaveSheet_eq]
  generalize d.leavingStage c r = z at state sheet op
  rcases z.beginMove_outcome (z.frameField FrameRecord.park) (z.frameField FrameRecord.travelSpeed) .park (Device.enterParked none) with
    h | h | h | ⟨m, t, h⟩ <;> rw [h]
  · rw [(Device.enterParked_idle op (.inr sheet) none).1.state]; rfl
  · rw [Device.driveFault_state, Trv.haltedState]; split <;> rfl
  · rw [z.limited_halts.2.1]; rfl
  · rw [show (z.raiseEnable.setTrv { z.raiseEnable.trv with motion := m, target := t }).trv.state = z.trv.state by simp, state]; rfl

@[simp] theorem Device.parkOnBreak_steady (d : Device) : d.parkOnBreak.steady = d.steady := by
  unfold Device.parkOnBreak
  split
  · exact Device.leaveSheet_steady _ (by decide) _
  · rfl

theorem srcBreak_measures (n : Fin 8) : measureSource (srcBreak n) := by
  obtain ⟨_, overtravel, drive, shutter, _⟩ := srcBreak_ne n
  exact ⟨shutter, drive, overtravel, srcBreak_ne_srcWindow n⟩

theorem Device.parkOnBreak_entryKept (d : Device) (n : Fin 8) : d.parkOnBreak.entryKept d (srcBreak n) :=
  (Device.entryKept_motion d (srcBreak_measures n)).parkOnBreak (Device.entryKept_of_alm rfl)

/-- An evaluation to another state than RUNNING in the other blocks. -/
theorem Device.evaluateSheet_blocks {d : Device} (elsewhere : d.brk.evaluate ≠ .running) :
    d.evaluateSheet.cnv = d.cnv ∧ ∀ n, d.evaluateSheet.entryKept d (srcBreak n) := by
  unfold Device.evaluateSheet
  dsimp only
  split
  · exact ⟨rfl, fun n => Device.entryKept_of_alm rfl⟩
  · cases given : d.brk.evaluate with
    | running => exact absurd given elsewhere
    | sheetBreak =>
      exact ⟨(congrArg Steady.cnv (Device.parkOnBreak_steady _) :), fun n =>
        (Device.parkOnBreak_entryKept _ n).trans (Device.entryKept_of_alm rfl)⟩
    | noSheet => exact ⟨rfl, fun n => Device.entryKept_of_alm rfl⟩
    | threading => exact ⟨rfl, fun n => Device.entryKept_of_alm rfl⟩

/-! ## A loss in a part without a sheet, or below the crawl speed -/

section
variable {d : Device} {n : Fin 8} {x : Station}

theorem Device.setStationAt_evaluate_lost (state : x.state = .noSheet) : (d.setStationAt n x).brk.evaluate ≠ .running := by
  have lost : ¬∀ m : Fin 8, (d.setStationAt n x).brk.stations[m].state = .disabled ∨
      (d.setStationAt n x).brk.stations[m].state = .present ∨ (d.setStationAt n x).brk.stations[m].state = .losing := fun all => by
    have at' : (d.setStationAt n x).brk.stations[n] = x := (d.setStationAt_station n n x).trans (if_pos rfl)
    have := all n
    rw [at', state] at this
    rcases this with h | h | h <;> nomatch h
  rw [Brk.evaluate_eq, if_neg lost]
  split <;> [nofun; (split <;> nofun)]

theorem Device.setStationAt_evaluate_broken (state : x.state = .broken) {b : Brk} (stations : b.stations = (d.setStationAt n x).brk.stations)
    (stands : b.openRec.isSome = true) : b.evaluate = .sheetBreak := by
  rw [Brk.evaluate_eq, if_pos]
  refine ⟨stands, n, ?_⟩
  rw [stations]
  exact (congrArg Station.state ((d.setStationAt_station n n x).trans (if_pos rfl))).trans state

end

/-! ## A declared break (R138, R139) -/

/-- The break declared, the head still where it was. -/
def Device.torn (d : Device) (n : Fin 8) : Device :=
  ((d.setBrk { d.brk with openRec := some (d.newBreakRecord n), breakNumber := (d.newBreakRecord n).number, sheet := .sheetBreak }).noteResume).setChanged true

/-- What may resume after the break (R40). -/
def Device.resumeAfter (d : Device) (r : Option Resume) : Prop :=
  ∀ k o, d.trv.active = some k → k.autoResume = true → d.trv.op = some o →
    (o.kind = .scan → r = some .scan) ∧ (o.kind = .point → r = some (.point o.position))

theorem Device.noteResume_only (d : Device) : ∃ r, d.noteResume = d.setTrv { d.trv with resume := r } ∧ d.resumeAfter r := by
  unfold Device.noteResume Device.resumeAfter
  cases op : d.trv.op with
  | none => exact ⟨d.trv.resume, rfl, nofun⟩
  | some o =>
    cases active : d.trv.active with
    | none => exact ⟨d.trv.resume, rfl, nofun⟩
    | some k =>
      by_cases able : k.autoResume = true
      · by_cases scan : o.kind = .scan
        · exact ⟨some .scan, by simp [able, scan], by simp [scan]⟩
        · by_cases point : o.kind = .point
          · exact ⟨some (.point o.position), by simp [able, point], by simp [point]⟩
          · exact ⟨d.trv.resume, by simp [able, scan, point]; rfl, by simp [scan, point]⟩
      · exact ⟨d.trv.resume, by simp [able]; rfl, by simp [able]⟩

/-- The break with its record, before anything else has followed. -/
def Device.tornBrk (d : Device) (n : Fin 8) : Brk :=
  { d.brk with openRec := some (d.newBreakRecord n), breakNumber := (d.newBreakRecord n).number, sheet := .sheetBreak }

theorem Device.torn_only (d : Device) (n : Fin 8) : ∃ r,
    d.torn n = ((d.setBrk (d.tornBrk n)).setTrv { d.trv with resume := r }).setChanged true ∧ d.resumeAfter r := by
  obtain ⟨r, only, after⟩ := (d.setBrk (d.tornBrk n)).noteResume_only
  exact ⟨r, congrArg (Device.setChanged · true) only, after⟩

theorem Device.noteResume_setBrk (d : Device) (b : Brk) : (d.setBrk b).noteResume = d.noteResume.setBrk b := by
  unfold Device.noteResume
  dsimp only [Device.setBrk_trv]
  repeat' split
  all_goals rfl

theorem Device.torn_brk (d : Device) (n : Fin 8) : (d.torn n).brk = d.tornBrk n := by
  obtain ⟨r, only, _⟩ := d.torn_only n
  rw [only]; rfl

theorem Device.torn_clk (d : Device) (n : Fin 8) : (d.torn n).clk = d.clk := by
  obtain ⟨r, only, _⟩ := d.torn_only n
  rw [only]; rfl

/-- FILTERED to be reseeded, and the condition of the station risen (R138, R139, R147). -/
def Device.breakRaised (d : Device) (n : Fin 8) (number : Nat) : Device :=
  (d.setPrf { d.prf with reseed := true }).rise (srcBreak n) number

/-- What a declaration does: the evaluation finds BREAK and parks the head, FILTERED is to be reseeded, the condition of the station
rises, and the cascade window starts (R138, R139). -/
theorem Device.declareBreak_eq {d : Device} {n : Fin 8} (running : d.brk.sheet = .running) (broken : (d.station n).state = .broken) :
    d.declareBreak n = ((d.torn n).parkOnBreak.breakRaised n (d.newBreakRecord n).number).setBrk
      { d.tornBrk n with cascade := some (d.clk + d.cascadeTime * 1000) } := by
  let v := d.setBrk { d.brk with openRec := some (d.newBreakRecord n), breakNumber := (d.newBreakRecord n).number }
  have given : v.noteResume.brk.evaluate = .sheetBreak := by
    obtain ⟨r, only, _⟩ := v.noteResume_only
    rw [only, Brk.evaluate_eq, if_pos ⟨rfl, n, broken⟩]
  have sheet : v.noteResume.brk.sheet ≠ .sheetBreak := by
    obtain ⟨r, only, _⟩ := v.noteResume_only
    rw [only, show (v.setTrv _).brk.sheet = d.brk.sheet from rfl, running]; nofun
  have tears : (v.noteResume.setBrk { v.noteResume.brk with sheet := .sheetBreak }).setChanged true = d.torn n := by
    rw [Device.torn, Device.noteResume_setBrk, Device.noteResume_setBrk]; rfl
  have parks : v.noteResume.evaluateSheet = (d.torn n).parkOnBreak := by
    rw [← tears]
    unfold Device.evaluateSheet
    rw [given]
    exact if_neg (Ne.symm sheet)
  have outside : ((d.torn n).parkOnBreak.breakRaised n (d.newBreakRecord n).number).outside = (d.torn n).outside := by
    simp [Device.breakRaised]
  obtain ⟨clk, _, _, brk, _⟩ := Device.outside_fields outside
  refine (congrArg (fun p : Device => (p.breakRaised n (d.newBreakRecord n).number).setBrk
    { (p.breakRaised n (d.newBreakRecord n).number).brk with
      cascade := (p.breakRaised n (d.newBreakRecord n).number).after (p.breakRaised n (d.newBreakRecord n).number).cascadeTime })
    parks : d.declareBreak n = _).trans ?_
  dsimp only
  rw [Device.after, Device.cascadeTime, brk, clk, d.torn_brk, d.torn_clk]; rfl

theorem Device.torn_state (d : Device) (n : Fin 8) : (d.torn n).trv.state = d.trv.state := by
  obtain ⟨r, only, _⟩ := d.torn_only n
  rw [only]; rfl

theorem Device.torn_steady (d : Device) (n : Fin 8) : (d.torn n).steady = d.steady := by
  obtain ⟨r, only, _⟩ := d.torn_only n
  rw [only]; rfl

theorem Device.torn_alm (d : Device) (n : Fin 8) : (d.torn n).alm = d.alm := by
  obtain ⟨r, only, _⟩ := d.torn_only n
  rw [only]; rfl

theorem Device.torn_notRunning (d : Device) (n : Fin 8) : (d.torn n).brk.sheet ≠ .running := by
  rw [d.torn_brk]; nofun

section
variable {d : Device} {n : Fin 8}

/-- The head is off the torn sheet, whatever its parking led to (R39). -/
theorem Device.torn_off : (d.torn n).parkOnBreak.trv.state.overSheet = false := by
  unfold Device.parkOnBreak
  split
  · exact Device.leaveSheet_off _ _ _ (d.torn_notRunning n)
  · next off => exact Bool.eq_false_iff.mpr off

theorem Device.breakRaised_tells {fs : List Frame} (told : (d.torn n).parkOnBreak.tells d fs) (number : Nat) :
    ((d.torn n).parkOnBreak.breakRaised n number).tells d fs := 
  Device.tells_rise (d := d) (e := (d.torn n).parkOnBreak.setPrf { (d.torn n).parkOnBreak.prf with reseed := true })
    (Device.tells_of_same told rfl) _ _

variable (running : d.brk.sheet = .running) (broken : (d.station n).state = .broken)
include running broken

/-- What a declaration leaves wherever the head was (R138, R139, R147). -/
theorem Device.declareBreak_leaves :
    (d.declareBreak n).brk = { d.tornBrk n with cascade := some (d.clk + d.cascadeTime * 1000) } ∧
    (d.declareBreak n).pins = d.pins ∧ (d.declareBreak n).cnv = d.cnv ∧ (d.declareBreak n).prf.reseed = true ∧
    (d.declareBreak n).cond (srcBreak n) = true ∧
    ((d.entry (srcBreak n)).state = .idle → ((d.declareBreak n).entry (srcBreak n)).value = some (d.newBreakRecord n).number) ∧
    (d.declareBreak n).trv.state.overSheet = false ∧ (d.declareBreak n).trv.counter = d.trv.counter ∧
    (d.declareBreak n).trv.homed = d.trv.homed ∧ (d.declareBreak n).std.ref = d.std.ref := by
  rw [Device.declareBreak_eq running broken]
  have kept : (d.torn n).parkOnBreak.entryKept d (srcBreak n) :=
    (Device.parkOnBreak_entryKept _ n).trans (Device.entryKept_of_alm (d.torn_alm n))
  have steady : (d.torn n).parkOnBreak.steady = d.steady := (Device.parkOnBreak_steady _).trans (d.torn_steady n)
  have pins : (d.torn n).parkOnBreak.pins = d.pins := by
    obtain ⟨r, only, _⟩ := d.torn_only n
    exact (congrArg Device.pins (Device.parkOnBreak_outside _) :).trans (by rw [only]; rfl)
  have off := Device.torn_off (d := d) (n := n)
  generalize (d.torn n).parkOnBreak = p at kept steady pins off
  have trv : (p.breakRaised n (d.newBreakRecord n).number).trv = p.trv := by simp [Device.breakRaised]
  refine ⟨rfl, ?_, ?_, ?_, ?_, fun idle => ?_, ?_, ?_, ?_, ?_⟩
  · exact Eq.trans (by simp [Device.breakRaised]) pins
  · exact Eq.trans (b := p.cnv) (by simp [Device.breakRaised]) (congrArg Steady.cnv steady :)
  · simp [Device.breakRaised]
  · simp [Device.breakRaised]
  · have idle : (p.entry (srcBreak n)).state = .idle := (kept.2 (by rw [idle]; nofun)).trans idle
    exact (Device.rise_of_idle (d := p.setPrf { p.prf with reseed := true }) idle _).1
  · rw [Device.setBrk_trv, trv]; exact off
  · rw [Device.setBrk_trv, trv]; exact (congrArg Steady.counter steady :)
  · rw [Device.setBrk_trv, trv]; exact (congrArg Steady.homed steady :)
  · exact Eq.trans (b := p.std.ref) (by simp [Device.breakRaised]) (congrArg Steady.ref steady :)

/-- A head off the sheet stays where it is, its operation with it (R39). -/
theorem Device.declareBreak_rests (off : d.trv.state.overSheet = false) : (d.declareBreak n).trv.state = d.trv.state ∧
    (d.declareBreak n).trv.op = d.trv.op ∧ (d.declareBreak n).trv.motion = d.trv.motion ∧ (d.declareBreak n).tells d [] := by
  rw [Device.declareBreak_eq running broken]
  have rests : (d.torn n).parkOnBreak = d.torn n := if_neg (by rw [d.torn_state, off]; nofun)
  obtain ⟨r, only, _⟩ := d.torn_only n
  have told : (d.torn n).parkOnBreak.tells d [] := by rw [rests]; exact Device.tells_of_lnk (by rw [only]; rfl)
  have trv : ((d.torn n).parkOnBreak.breakRaised n (d.newBreakRecord n).number).trv = { d.trv with resume := r } := by
    rw [rests, only]; simp [Device.breakRaised]
  refine ⟨?_, ?_, ?_, Device.tells_of_same (Device.breakRaised_tells told _) rfl⟩
  all_goals rw [Device.setBrk_trv, trv]

/-- A head over the sheet leaves it: its operation over, its scan closed, and where it comes to within the soft limits (R39, R40). -/
theorem Device.declareBreak_parks (on : d.trv.state.overSheet = true) : let e := d.declareBreak n
    e.trv.op = none ∧ e.trv.openCmd = false ∧ e.prf.openScan = none ∧
    (∀ w ∈ d.prf.openScan, e.prf.latest = some (w.finish ((d.trv.active.map ScanSettings.minSamples).getD 1) d.now .abortedBreak)) ∧
    ∀ f, d.trv.frame = some f → d.trv.enable = true → f.softLow ≤ f.park → f.park ≤ f.softHigh →
      (if Machine.dist d.trv.counter f.park ≤ 20 then e.trv.state = .parked ∧ e.trv.enable = false ∧ e.trv.pending = none ∧
        e.tells d (d.opDone 4 8 ++ d.appliedDone 2) else e.tells d (d.opDone 4 8)) ∧
      (20 < Machine.dist d.trv.counter f.park → d.pins.limit (if d.trv.counter < f.park then .ds else .ts) = false →
        e.trv.state = .parking ∧ e.trv.motion = .move f.park f.travelSpeed .park ∧ e.trv.enable = true ∧
        e.trv.commanded = d.trv.commanded ∧ d.resumeAfter e.trv.resume) := by
  intro e
  have ends : e = ((d.torn n).parkOnBreak.breakRaised n (d.newBreakRecord n).number).setBrk
      { d.tornBrk n with cascade := some (d.clk + d.cascadeTime * 1000) } := Device.declareBreak_eq running broken
  have leaves : (d.torn n).parkOnBreak = (d.torn n).leaveSheet .abortedBreak .sheetBreak := if_pos (by rw [d.torn_state]; exact on)
  obtain ⟨closed, op⟩ := (d.torn n).leaveSheet_closed .abortedBreak .sheetBreak (by decide) (.inr (d.torn_notRunning n))
  have trv : e.trv = ((d.torn n).leaveSheet .abortedBreak .sheetBreak).trv := by rw [ends, ← leaves]; simp [Device.breakRaised]
  have tells {fs : List Frame} (told : ((d.torn n).leaveSheet .abortedBreak .sheetBreak).tells d fs) : e.tells d fs := by
    rw [ends]; exact Device.tells_of_same (Device.breakRaised_tells (leaves ▸ told) _) rfl
  have prf : e.prf = { ((d.torn n).leaveSheet .abortedBreak .sheetBreak).prf with reseed := true } := by
    rw [ends, ← leaves]; simp [Device.breakRaised]
  obtain ⟨r, only, after⟩ := d.torn_only n
  have same : (d.torn n).trv = { d.trv with resume := r } ∧ (d.torn n).prf = d.prf ∧ (d.torn n).now = d.now ∧
      (d.torn n).lnk = d.lnk ∧ (d.torn n).pins = d.pins := by rw [only]; exact ⟨rfl, rfl, rfl, rfl, rfl⟩
  have notRunning := d.torn_notRunning n
  rw [trv, prf]
  generalize d.torn n = q at closed op tells same notRunning
  obtain ⟨qTrv, qPrf, qNow, qLnk, qPins⟩ := same
  have sent {x : Device} {fs : List Frame} (told : x.tells q fs) : x.tells d fs := Device.tells_from told qLnk
  have done (code state : Byte) : q.opDone code state = d.opDone code state := Device.opDone_congr (by rw [qTrv]) code state
  have zClosed := q.leavingStage_closed .abortedBreak .sheetBreak (by decide)
  have zTold := sent (q.leavingStage_tells .abortedBreak .sheetBreak (by decide))
  have zSheet : (q.leavingStage .abortedBreak .sheetBreak).brk.sheet ≠ .running := by rw [zClosed.fields.1]; exact notRunning
  have zTrv : (q.leavingStage .abortedBreak .sheetBreak).trv.op = none ∧
      (q.leavingStage .abortedBreak .sheetBreak).trv.pending = d.trv.pending ∧
      (q.leavingStage .abortedBreak .sheetBreak).trv.frame = d.trv.frame := by simp [qTrv]
  refine ⟨op, closed.openCmd, closed.openScan, fun w mem => ?_, fun f frame enable low high => ?_⟩
  · have latest := closed.latest w (by rw [qPrf]; exact mem)
    rw [qTrv, qNow] at latest
    exact latest
  · obtain ⟨moves, limited, arrives⟩ := Device.leaveSheet_ends (d := q) .abortedBreak .sheetBreak (by decide) (by rw [qTrv]; exact frame) low high
    rw [qTrv, qPins] at moves limited
    rw [qTrv] at arrives
    rw [done] at zTold limited
    refine ⟨?_, fun far opened => ?_⟩
    · split
      · next near =>
        obtain ⟨parks, _, _, applied⟩ := Device.enterParked_idle zTrv.1 (.inr zSheet) none
        rw [arrives near] at tells ⊢
        refine ⟨parks.state, parks.enable, parks.pending, tells ?_⟩
        have k := Device.tells_trans zTold applied
        rwa [Device.appliedDone_congr zTrv.2.1 zTrv.2.2] at k
      · next far =>
        refine tells ?_
        cases limit : d.pins.limit (if d.trv.counter < f.park then .ds else .ts)
        · obtain ⟨_, _, _, _, _, lnk⟩ := moves (not_le.mp far) enable limit
          exact Device.tells_of_same zTold lnk
        · exact sent (limited (not_le.mp far) enable limit).2.2.2
    · obtain ⟨state, motion, on', commanded, resume, _⟩ := moves far enable opened
      exact ⟨state, motion, on', commanded, resume ▸ after⟩

end

/-! ## A loss while a record is open (R140, R141, R147) -/

/-- The entry of a station whose condition has risen (R154, R155). -/
def Device.riseOf (e d : Device) (n : Fin 8) (number now : Nat) : Prop :=
  (e.entry (srcBreak n)).live = true ∧ (e.entry (srcBreak n)).last = some now ∧
  ((d.entry (srcBreak n)).state = .idle → (e.entry (srcBreak n)).value = some number ∧ (e.entry (srcBreak n)).first = some now ∧
    (e.entry (srcBreak n)).repeats = 0) ∧
  ((d.entry (srcBreak n)).state ≠ .idle → (e.entry (srcBreak n)).value = (d.entry (srcBreak n)).value ∧
    (e.entry (srcBreak n)).first = (d.entry (srcBreak n)).first ∧
    (e.entry (srcBreak n)).repeats = min ((d.entry (srcBreak n)).repeats + 1) 65535)

theorem Device.riseOf_rise {d e : Device} {n : Fin 8} {number : Nat} (kept : e.entryKept (d.rise (srcBreak n) number) (srcBreak n)) :
    e.riseOf d n number d.now := by
  have content : (e.entry (srcBreak n)).content = ((d.entry (srcBreak n)).afterRise d.now number).content :=
    kept.1.trans (d.rise_content_self _ _)
  have live := (congrArg AlarmEntry.live content :)
  have last := (congrArg AlarmEntry.last content :)
  have first := (congrArg AlarmEntry.first content :)
  have value := (congrArg AlarmEntry.value content :)
  have repeats := (congrArg AlarmEntry.repeats content :)
  simp only [AlarmEntry.content] at live last first value repeats
  unfold AlarmEntry.afterRise at *
  by_cases idle : (d.entry (srcBreak n)).state = .idle
  · rw [if_pos idle] at live last first value repeats
    exact ⟨live, last, fun _ => ⟨value, first, repeats⟩, fun busy => absurd idle busy⟩
  · rw [if_neg idle] at live last first value repeats
    exact ⟨live, last, fun h => absurd h idle, fun _ => ⟨value, first, repeats⟩⟩

/-- The losses of a station not in the list yet (R141). -/
theorem addLoss_fresh {n : Fin 8} {l : List LossEntry} (fresh : ∀ m ∈ l, m.station ≠ n) (offset : Nat) (independent : Bool) :
    addLoss n offset independent l = l ++ [⟨n, offset, independent, 0⟩] := by
  induction l with
  | nil => rfl
  | cons m l ih =>
    rw [addLoss, if_neg (fresh m List.mem_cons_self), ih fun k mem => fresh k (List.mem_cons_of_mem _ mem)]
    rfl

/-- A station's loss already in the list counts a repeat (R141). -/
theorem addLoss_again {n : Fin 8} {l : List LossEntry} (once : (l.map LossEntry.station).Nodup) (known : ∃ m ∈ l, m.station = n)
    (offset : Nat) (independent : Bool) : addLoss n offset independent l =
      l.map (fun m => if m.station = n then { m with repeats := min 255 (m.repeats + 1) } else m) := by
  induction l with
  | nil => obtain ⟨m, mem, _⟩ := known; nomatch mem
  | cons m l ih =>
    obtain ⟨fresh, once⟩ := List.nodup_cons.mp once
    by_cases first : m.station = n
    · have rest : l.map (fun m => if m.station = n then { m with repeats := min 255 (m.repeats + 1) } else m) = l := by
        refine (List.map_congr_left fun k mem => if_neg fun same => fresh ?_).trans (List.map_id l)
        rw [first, ← same]
        exact List.mem_map_of_mem mem
      rw [addLoss, if_pos first, List.map_cons, if_pos first, rest]
    · have later : ∃ k ∈ l, k.station = n := by
        obtain ⟨k, mem, same⟩ := known
        rcases List.mem_cons.mp mem with rfl | mem
        · exact absurd same first
        · exact ⟨k, mem, same⟩
      rw [addLoss, if_neg first, List.map_cons, if_neg first, ih once later]

section
variable {r : BreakRecord} {n : Fin 8} (offset : Nat) (independent : Bool)

/-- A repeated loss of the first-out station (R141, R147). -/
theorem BreakRecord.withLoss_first (first : r.firstOut = n) : r.withLoss n offset independent = { r with repeats := min 255 (r.repeats + 1) } ∧
    (r.withLoss n offset independent).raises n = true := by
  have joined : r.withLoss n offset independent = { r with repeats := min 255 (r.repeats + 1) } := if_pos first
  rw [joined]
  exact ⟨rfl, (BreakRecord.raises_iff _ n).mpr (.inl first)⟩

/-- The first loss of another station (R141, R147). -/
theorem BreakRecord.withLoss_fresh (other : r.firstOut ≠ n) (fresh : ∀ l ∈ r.losses, l.station ≠ n) :
    r.withLoss n offset independent = { r with losses := r.losses ++ [⟨n, offset, independent, 0⟩] } ∧
    ((r.withLoss n offset independent).raises n = true ↔ independent = true) := by
  have joined : r.withLoss n offset independent = { r with losses := r.losses ++ [⟨n, offset, independent, 0⟩] } := by
    rw [BreakRecord.withLoss, if_neg other, addLoss_fresh fresh]
  rw [joined, BreakRecord.raises_iff]
  refine ⟨rfl, ?_, fun free => .inr ⟨_, List.mem_append_right _ (List.mem_singleton_self _), rfl, free⟩⟩
  rintro (first | ⟨l, mem, same, free⟩)
  · exact absurd first other
  · rcases List.mem_append.mp mem with old | new
    · exact absurd same (fresh l old)
    · rw [List.mem_singleton.mp new] at free
      exact free

/-- A further loss of a station in the list (R141, R147). -/
theorem BreakRecord.withLoss_again (once : r.once) (other : r.firstOut ≠ n) {l : LossEntry} (mem : l ∈ r.losses) (same : l.station = n) :
    r.withLoss n offset independent = { r with
      losses := r.losses.map (fun m => if m.station = n then { m with repeats := min 255 (m.repeats + 1) } else m) } ∧
    ((r.withLoss n offset independent).raises n = true ↔ l.independent = true) := by
  have once := (List.nodup_cons.mp once).2
  have joined : r.withLoss n offset independent = { r with
      losses := r.losses.map (fun m => if m.station = n then { m with repeats := min 255 (m.repeats + 1) } else m) } := by
    rw [BreakRecord.withLoss, if_neg other, addLoss_again once ⟨l, mem, same⟩]
  rw [joined, BreakRecord.raises_iff]
  refine ⟨rfl, ?_, fun free => .inr ⟨_, List.mem_map_of_mem mem, ?_⟩⟩
  · rintro (first | ⟨k', mem', same', free⟩)
    · exact absurd first other
    · obtain ⟨k, old, rfl⟩ := List.mem_map.mp mem'
      have station : k.station = n := by split at same' <;> exact same'
      have entry : k = l := List.inj_on_of_nodup_map once old mem (station.trans same.symm)
      rw [if_pos station] at free
      exact entry ▸ free
  · rw [if_pos same]; exact ⟨same, free⟩

end

section
variable {d : Device} {n : Fin 8} {r : BreakRecord}

/-- A loss joins the open record, the sheet state is BREAK, and its condition rises where the record says so. -/
theorem Device.cascadeLoss_leaves (stands : d.brk.openRec = some r) (broken : (d.station n).state = .broken) :
    let q := r.withLoss n (min (d.since r.time) 65535) d.brk.cascade.isNone
    let e := (d.cascadeLoss n).evaluateSheet
    e.brk = { d.brk with
      openRec := some q, cascade := if d.brk.cascade.isSome then some (d.clk + d.cascadeTime * 1000) else none, sheet := .sheetBreak } ∧
    e.pins = d.pins ∧ e.cnv = d.cnv ∧
    (q.raises n = true → e.riseOf d n r.number d.now) ∧
    (q.raises n = false → (e.entry (srcBreak n)).content = (d.entry (srcBreak n)).content) := by
  intro q e
  let v := d.setBrk { d.brk with
    openRec := some q, cascade := if d.brk.cascade.isSome then some (d.clk + d.cascadeTime * 1000) else none }
  have number : q.number = r.number := by
    simp only [q, BreakRecord.withLoss]; split <;> rfl
  have joins : d.cascadeLoss n = if q.raises n then v.rise (srcBreak n) r.number else v := by
    have same : (!d.brk.cascade.isSome) = d.brk.cascade.isNone := by cases d.brk.cascade <;> rfl
    unfold Device.cascadeLoss
    rw [stands]
    dsimp only
    rw [same, ← number]
    rfl
  have key (z : Device) (joined : d.cascadeLoss n = z) (brk : z.brk = v.brk) (pins : z.pins = d.pins) (cnv : z.cnv = d.cnv) :
      e.brk = { v.brk with sheet := .sheetBreak } ∧ e.pins = d.pins ∧ e.cnv = d.cnv ∧ e.entryKept z (srcBreak n) := by
    have given : z.brk.evaluate = .sheetBreak := by
      rw [brk, Brk.evaluate_eq, if_pos ⟨rfl, n, broken⟩]
    have elsewhere : z.brk.evaluate ≠ .running := by rw [given]; nofun
    obtain ⟨cnv', kept⟩ := Device.evaluateSheet_blocks elsewhere
    rw [show e = z.evaluateSheet from congrArg Device.evaluateSheet joined, Device.evaluateSheet_elsewhere elsewhere, given, brk]
    exact ⟨rfl, z.evaluateSheet_calm.1.trans pins, cnv'.trans cnv, kept n⟩
  by_cases raises : q.raises n = true
  · obtain ⟨brk, pins, cnv, kept⟩ := key _ (joins.trans (if_pos raises)) (by simp) (by simp [v]) (by simp [v])
    refine ⟨brk, pins, cnv, fun _ => ?_, fun quiet => ?_⟩
    · exact Device.riseOf_rise (d := v) kept
    · rw [raises] at quiet; nomatch quiet
  · obtain ⟨brk, pins, cnv, kept⟩ := key _ (joins.trans (if_neg raises)) rfl rfl rfl
    exact ⟨brk, pins, cnv, fun h => absurd h raises, fun _ => kept.1⟩

end

/-- Settles O49: a loss without a break to speak of, a declaration, and a loss while a record is open. -/
theorem qualifiedLossesAct : Obligations.QualifiedLossesAct := by
  unfold Obligations.QualifiedLossesAct
  intro s dt t n d x y fast window others lost awake stood runs
  obtain ⟨_, _, _, once⟩ := stood
  have row {e : Device} (acts : x.qualifyLoss n = e) : exec (.qualifyExpiry dt n) s = s.ends e :=
    exec_expires (row_qualifyExpiry _ dt n) runs awake acts
  refine ⟨fun calm => ?_, fun fast running => ?_, fun r stands fast torn => ?_⟩
  · let z := x.setStationAt n { y with state := .noSheet, qualifyTimer := none, threadLosses := min (y.threadLosses + 1) 65535 }
    have acts : x.qualifyLoss n = z.evaluateSheet := if_neg fun ⟨sheet, fast⟩ =>
      calm.elim (fun slow => slow (of_decide_eq_true fast)) (fun none => sheet none)
    have elsewhere : z.brk.evaluate ≠ .running := Device.setStationAt_evaluate_lost rfl
    obtain ⟨self, only, _⟩ := Device.evaluateSheet_only (d := x) (e := z) (n := n) rfl
    have brk := Device.evaluateSheet_elsewhere elsewhere
    refine ⟨z.evaluateSheet, row acts, ⟨only, ?_, ?_, ?_, z.evaluateSheet_calm.1, (Device.evaluateSheet_blocks elsewhere).1⟩, self, ?_, ?_⟩
    all_goals rw [brk]; rfl
  · let z := x.setStationAt n { y with state := .broken, qualifyTimer := none, losses := min (y.losses + 1) 65535 }
    have acts : x.qualifyLoss n = z.declareBreak n :=
      (if_pos ⟨by rw [show x.brk.sheet = .running from running]; nofun, decide_eq_true fast⟩).trans (if_pos running)
    have station (m : Fin 8) := x.setStationAt_station n m { y with state := .broken, qualifyTimer := none, losses := min (y.losses + 1) 65535 }
    have broken : (z.station n).state = .broken := congrArg Station.state ((station n).trans (if_pos rfl))
    obtain ⟨brk, pins, cnv, reseed, raised, value, off, counter, homed, ref⟩ := Device.declareBreak_leaves (d := z) (n := n) running broken
    have at' (m : Fin 8) : (z.declareBreak n).station m = z.station m := by rw [Device.station, brk]; rfl
    refine ⟨z.declareBreak n, row acts, ⟨(at' n).trans ((station n).trans (if_pos rfl)), by rw [brk]; rfl,
      fun m other => (at' m).trans ((station m).trans (if_neg other)), by rw [brk]; rfl, by rw [brk]; rfl, by rw [brk]; rfl, pins, cnv⟩, ?_⟩
    refine ⟨by rw [brk]; rfl, by rw [brk]; rfl, by rw [brk]; rfl, reseed, raised, value, off, counter, homed, ref, fun rests => ?_, fun parks => ?_⟩
    · exact Device.declareBreak_rests (d := z) running broken rests
    · obtain ⟨op, openCmd, openScan, latest, ends⟩ := Device.declareBreak_parks (d := z) running broken parks
      refine ⟨op, openCmd, openScan, latest, fun f frame enable low high => ?_⟩
      obtain ⟨told, moves⟩ := ends f frame enable low high
      refine ⟨?_, moves⟩
      have sent {fs : List Frame} (told : (z.declareBreak n).tells z fs) : (z.declareBreak n).tells d fs := Device.tells_from told rfl
      by_cases near : Machine.dist d.trv.counter f.park ≤ 20
      · rw [if_pos (show Machine.dist z.trv.counter f.park ≤ 20 from near)] at told
        obtain ⟨state, enable, pending, told⟩ := told
        rw [if_pos near]
        exact ⟨state, enable, pending, sent told⟩
      · rw [if_neg (show ¬Machine.dist z.trv.counter f.park ≤ 20 from near)] at told
        rw [if_neg near]
        exact sent told
  · let z := x.setStationAt n { y with state := .broken, qualifyTimer := none, losses := min (y.losses + 1) 65535 }
    have sheet : x.brk.sheet ≠ .noSheet ∧ z.brk.sheet ≠ .running := by
      rcases torn with h | h <;> exact ⟨by rw [show x.brk.sheet = _ from h]; nofun, by rw [show z.brk.sheet = _ from h]; nofun⟩
    have acts : x.qualifyLoss n = (z.cascadeLoss n).evaluateSheet :=
      (if_pos ⟨sheet.1, decide_eq_true fast⟩).trans (if_neg sheet.2)
    have station (m : Fin 8) := x.setStationAt_station n m { y with state := .broken, qualifyTimer := none, losses := min (y.losses + 1) 65535 }
    have broken : (z.station n).state = .broken := congrArg Station.state ((station n).trans (if_pos rfl))
    obtain ⟨brk, pins, cnv, raised, quiet⟩ := Device.cascadeLoss_leaves (d := z) stands broken
    have at' (m : Fin 8) : (z.cascadeLoss n).evaluateSheet.station m = z.station m := by rw [Device.station, brk]; rfl
    refine ⟨_, row acts, ⟨(at' n).trans ((station n).trans (if_pos rfl)), by rw [brk],
      fun m other => (at' m).trans ((station m).trans (if_neg other)), by rw [brk]; rfl, by rw [brk]; rfl, by rw [brk]; rfl, pins, cnv⟩,
      by rw [brk]; rfl, by rw [brk]; rfl, ?_⟩
    intro was now rises silent
    have content (h : now.content = was.content) : silent :=
      ⟨(congrArg AlarmEntry.live h :), (congrArg AlarmEntry.repeats h :), (congrArg AlarmEntry.first h :),
        (congrArg AlarmEntry.last h :), (congrArg AlarmEntry.value h :)⟩
    refine ⟨_, by rw [brk], fun first => ?_, fun other fresh => ?_, fun l mem other same => ?_⟩
    · obtain ⟨joined, raises⟩ := BreakRecord.withLoss_first (min (z.since r.time) 65535) d.brk.cascade.isNone first
      exact ⟨joined, raised raises⟩
    · obtain ⟨joined, raises⟩ := BreakRecord.withLoss_fresh (min (z.since r.time) 65535) d.brk.cascade.isNone other fresh
      refine ⟨joined, fun none => raised (raises.mpr (by rw [none]; rfl)), fun some => content (quiet ?_)⟩
      exact Bool.eq_false_iff.mpr (mt raises.mp (by simpa using some))
    · have known : r.once := once r (List.mem_append_left _ (Option.mem_toList.mpr stands))
      obtain ⟨joined, raises⟩ := BreakRecord.withLoss_again (min (z.since r.time) 65535) d.brk.cascade.isNone known other mem same
      refine ⟨joined, fun free => raised (raises.mpr free), fun bound => content (quiet ?_)⟩
      exact Bool.eq_false_iff.mpr (mt raises.mp (by rw [bound]; nofun))

end Sys2Proof.Machine
end


section
/-! PROOFS. What a record adds to a scan, and what the close of a scan makes of it (O23's second and third part). -/

namespace Sys2Proof.Machine

/-! ## A record in the open scan (R93 to R95) -/

/-- What a record adds to the slice of its midpoint (R94, R95). -/
theorem SliceAcc.take_eq (a : SliceAcc) (r : ConvRecord) :
    let plus (n : Nat) (v : Option Nat) : Nat := if v.isSome then min (n + 1) 65535 else n
    a.take r = match r.form with
      | .converted => { a with
          n := min (a.n + 1) 65535, bwSum := a.bwSum + r.bw.getD 0, bwCount := plus a.bwCount r.bw,
          waterSum := a.waterSum + r.water.getD 0, waterCount := plus a.waterCount r.water,
          calSum := a.calSum + r.cal.getD 0, calCount := plus a.calCount r.cal,
          clampMark := a.clampMark || [r.bwFlags, r.waterFlags, r.calFlags].any (fun f => f.clamp || f.underEnd || f.overEnd) }
      | .raw => { a with n := min (a.n + 1) 65535 }
      | .edge => { a with edgeMark := true }
      | .offSheet => { a with offSheet := min (a.offSheet + 1) 65535 } := by
  intro plus
  have added (sum count : Nat) (v : Option Nat) : addValue sum count v = (sum + v.getD 0, plus count v) := by
    cases v <;> rfl
  unfold SliceAcc.take
  cases r.form with
  | converted => simp [added, MeasFlags.held, sat16, Bool.or_assoc]
  | raw => rfl
  | edge => rfl
  | offSheet => rfl

/-- The slice that holds a midpoint (R93). -/
theorem SliceMap.slice_eq_some {m : SliceMap} (cut : 0 < m.width) {mid k : Nat} :
    m.slice mid = some k ↔ k < m.count ∧ m.p0 + k * m.width ≤ mid ∧ mid < m.p0 + (k + 1) * m.width := by
  unfold SliceMap.slice
  rcases Nat.lt_or_ge mid m.p0 with short | inside
  · rw [if_pos short]
    simp only [reduceCtorEq, false_iff, not_and]
    intro _ past
    have := Nat.zero_le (k * m.width)
    omega
  · obtain ⟨x, rfl⟩ := Nat.exists_eq_add_of_le inside
    rw [if_neg (Nat.not_lt.mpr inside), Nat.add_sub_cancel_left]
    have quotient : x / m.width = k ↔ k * m.width ≤ x ∧ x < (k + 1) * m.width := by
      rw [Nat.div_eq_iff cut]
      have : (k + 1) * m.width = k * m.width + m.width := Nat.succ_mul k m.width
      constructor <;> intro h <;> omega
    have shift : m.p0 + k * m.width ≤ m.p0 + x ∧ m.p0 + x < m.p0 + (k + 1) * m.width ↔ x / m.width = k := by
      rw [quotient]; omega
    rw [shift]
    by_cases fits : x / m.width < m.count
    · rw [if_pos fits, Option.some_inj]
      exact ⟨fun same => ⟨same ▸ fits, same⟩, fun h => h.2⟩
    · rw [if_neg fits]
      simp only [reduceCtorEq, false_iff]
      exact fun ⟨small, same⟩ => fits (same ▸ small)

theorem modify_eq_mapIdx {α : Type} (f : α → α) (k : Nat) (l : List α) :
    l.modify k f = l.mapIdx (fun i a => if i = k then f a else a) := by
  refine List.ext_getElem (by simp) fun i h h' => ?_
  simp only [List.getElem_modify, List.getElem_mapIdx, eq_comm]

/-- What a record does to the slices of the open scan, whichever slice its midpoint lies in, if any (R93). -/
theorem OpenScan.take_slices {w : OpenScan} (sized : w.slices.length = w.map.count) (cut : 0 < w.map.width) (f : SliceAcc → SliceAcc)
    (mid : Nat) : (match w.map.slice mid with
      | none => w.slices
      | some k => w.slices.modify k f) =
      w.slices.mapIdx (fun i a => if w.map.p0 + i * w.map.width ≤ mid ∧ mid < w.map.p0 + (i + 1) * w.map.width then f a else a) := by
  have holds (i : Nat) (small : i < w.slices.length) : (w.map.p0 + i * w.map.width ≤ mid ∧ mid < w.map.p0 + (i + 1) * w.map.width) ↔
      w.map.slice mid = some i := by
    rw [SliceMap.slice_eq_some cut]
    exact (and_iff_right (Nat.lt_of_lt_of_eq small sized)).symm
  cases found : w.map.slice mid with
  | none =>
    refine List.ext_getElem (by simp) fun i h h' => ?_
    rw [List.getElem_mapIdx, if_neg]
    rw [holds i h, found]; nofun
  | some k =>
    refine (modify_eq_mapIdx f k w.slices).trans (List.ext_getElem (by simp) fun i h h' => ?_)
    rw [List.getElem_mapIdx, List.getElem_mapIdx]
    refine if_congr ?_ rfl rfl
    rw [holds i (by simpa using h), found, Option.some_inj, eq_comm]

/-- A record in the open scan (R93): its speed, the edge search, and its slice. -/
theorem OpenScan.take_eq {w : OpenScan} (sized : w.slices.length = w.map.count) (cut : 0 < w.map.width) (r : ConvRecord) :
    let mid := (r.sample.start + r.sample.stop) / 2
    w.take r = { w with
      speedSum := w.speedSum + r.sample.speed, speedCount := w.speedCount + 1,
      minAll := if r.sample.sheet = .all then some (min mid (w.minAll.getD mid)) else w.minAll,
      maxAll := if r.sample.sheet = .all then some (max mid (w.maxAll.getD mid)) else w.maxAll,
      slices := w.slices.mapIdx (fun i a =>
        if w.map.p0 + i * w.map.width ≤ mid ∧ mid < w.map.p0 + (i + 1) * w.map.width then a.take r else a) } := by
  intro mid
  rw [← OpenScan.take_slices sized cut (fun a => a.take r) mid]
  have least : (match w.minAll with | none => mid | some m => min m mid) = min mid (w.minAll.getD mid) := by
    cases w.minAll with
    | none => simp
    | some m => exact Nat.min_comm m mid
  have most : (match w.maxAll with | none => mid | some m => max m mid) = max mid (w.maxAll.getD mid) := by
    cases w.maxAll with
    | none => simp
    | some m => exact Nat.max_comm m mid
  rw [← least, ← most]
  unfold OpenScan.take
  have same : r.sample.mid = mid := rfl
  clear_value mid
  by_cases all : r.sample.sheet = .all
  · simp only [all, if_true, same]
    cases w.map.slice mid <;> rfl
  · simp only [all, if_false, same]
    cases w.map.slice mid <;> rfl

/-! ## The finished record (R98 to R100) -/

/-- A slice of the scan record, in the words of R98 and R99. -/
theorem SliceAcc.finish_eq (a : SliceAcc) (minSamples : Nat) :
    let mean (sum count : Nat) : Option Nat := if count = 0 then none else some ((sum + count / 2) / count)
    a.finish minSamples =
      { bw := mean a.bwSum a.bwCount, water := mean a.waterSum a.waterCount, cal := mean a.calSum a.calCount,
        moisture := if a.bwCount = 0 ∨ a.waterCount = 0 ∨ a.bwSum = 0 then none
          else some (min 10000 ((a.waterSum * 10000 + a.bwSum / 2) / a.bwSum)),
        dry := match mean a.bwSum a.bwCount, mean a.waterSum a.waterCount with
          | some b, some v => some (b - v)
          | _, _ => none,
        notScanned := decide (a.n = 0 ∧ a.offSheet = 0 ∧ a.edgeMark = false),
        offSheet := decide (a.n = 0 ∧ 0 < a.offSheet ∧ a.edgeMark = false), weak := decide (0 < a.n ∧ a.n < minSamples),
        edge := a.edgeMark, clamped := a.clampMark, n := a.n, valid := decide (minSamples ≤ a.n) } := by
  intro mean
  have absent (sum count : Nat) : (mean sum count).isNone = true ↔ count = 0 := by
    simp only [mean]; split <;> simp [*]
  have marks (x y : Prop) [Decidable x] [Decidable y] : (decide (x ∧ y) && !a.edgeMark) = decide (x ∧ y ∧ a.edgeMark = false) := by
    cases a.edgeMark <;> simp
  have dry (b v : Option Nat) : dryOf b v = match b, v with
      | some b, some v => some (b - v)
      | _, _ => none := rfl
  simp only [SliceAcc.finish, ← dry, ← marks]
  congr 1
  exact if_congr (or_congr (absent _ _) (or_congr (absent _ _) Iff.rfl)) rfl rfl

/-- The truncated mean and the range, in the words of R100. -/
theorem meanRange_eq (vs : List Nat) : meanRange vs =
    if vs = [] then none else some ⟨vs.sum / vs.length, vs.foldl max 0 - vs.foldl min (vs.headD 0)⟩ := by
  cases vs with
  | nil => rfl
  | cons v rest => simp [meanRange]

/-! ## The windows at a COMPLETE close (R118, R122) -/

theorem Device.evaluateWindow_win_of_ne {d : Device} {scan : Nat} {n m : Fin 8} (other : m ≠ n) :
    (d.evaluateWindow scan n).window m = d.window m := by
  unfold Device.window
  rw [Device.evaluateWindow_win]
  exact (d.setWindowAt_window n m _).trans (if_neg other)

theorem Device.evaluateWindow_win_self (d : Device) (scan : Nat) (n : Fin 8) :
    (d.evaluateWindow scan n).window n = d.windowAfter scan n := by
  unfold Device.window
  rw [Device.evaluateWindow_win]
  exact (d.setWindowAt_window n n _).trans (if_pos rfl)

/-- The evaluation of other windows leaves a window with its condition. -/
theorem Device.evaluateWindows_elsewhere {n : Fin 8} (scan : Nat) (l : List (Fin 8)) (absent : n ∉ l) (d : Device) :
    (l.foldl (fun d m => d.evaluateWindow scan m) d).prf = d.prf ∧
    (l.foldl (fun d m => d.evaluateWindow scan m) d).window n = d.window n ∧
    (l.foldl (fun d m => d.evaluateWindow scan m) d).entryKept d (srcWindow n) := by
  induction l generalizing d with
  | nil => exact ⟨rfl, rfl, Device.entryKept_of_alm rfl⟩
  | cons m l ih =>
    have other : n ≠ m := fun same => absent (same ▸ List.mem_cons_self)
    obtain ⟨prf, window, kept⟩ := ih (fun mem => absent (List.mem_cons_of_mem _ mem)) (d.evaluateWindow scan m)
    refine ⟨prf.trans (by simp), window.trans (Device.evaluateWindow_win_of_ne other), kept.trans ?_⟩
    exact Device.evaluateWindow_entryKept scan m (mt srcWindow_inj.mp other)

/-- Each window is evaluated once, as if alone. -/
theorem Device.evaluateWindows_at (d : Device) (scan : Nat) (n : Fin 8) : ∃ x : Device, x.prf = d.prf ∧ x.window n = d.window n ∧
    x.entryKept d (srcWindow n) ∧ (d.evaluateWindows scan).window n = x.windowAfter scan n ∧
    (d.evaluateWindows scan).entryKept (x.evaluateWindow scan n) (srcWindow n) := by
  obtain ⟨before, after, split⟩ := List.append_of_mem (mem_allEight n)
  have once : (before ++ n :: after).Nodup := split ▸ (by decide : allEight.Nodup)
  have absent : n ∉ before ∧ n ∉ after := by
    rw [List.nodup_append, List.nodup_cons] at once
    exact ⟨fun mem => once.2.2 n mem n List.mem_cons_self rfl, once.2.1.1⟩
  obtain ⟨prf, window, kept⟩ := Device.evaluateWindows_elsewhere scan before absent.1 d
  obtain ⟨-, window', kept'⟩ := Device.evaluateWindows_elsewhere scan after absent.2
    ((before.foldl (fun d m => d.evaluateWindow scan m) d).evaluateWindow scan n)
  have all : d.evaluateWindows scan = after.foldl (fun d m => d.evaluateWindow scan m)
      ((before.foldl (fun d m => d.evaluateWindow scan m) d).evaluateWindow scan n) := by
    rw [Device.evaluateWindows, split, List.foldl_append, List.foldl_cons]
  exact ⟨_, prf, window, kept, by rw [all, window']; exact Device.evaluateWindow_win_self _ _ _, by rw [all]; exact kept'⟩

/-- The value that an evaluation raises a window's condition with (R122). -/
theorem Device.evaluateWindow_rises {d : Device} {scan : Nat} {n : Fin 8} {f : WindowDef} (defined : (d.window n).definition = some f)
    (on : f.enabled = true) (enters : (d.windowAfter scan n).state = .excursion) (was : (d.window n).state ≠ .excursion) :
    let values := f.values (match f.source with | .latest => d.prf.latest | .filtered => d.prf.filtered)
    d.evaluateWindow scan n = (d.setWindowAt n (d.windowAfter scan n)).rise (srcWindow n) (values.sum / values.length) := by
  intro values
  have after : d.windowAfter scan n = (d.window n).evaluated f scan values := by
    unfold Device.windowAfter; rw [defined]; exact if_pos on
  rw [after] at enters ⊢
  unfold Device.evaluateWindow
  dsimp only
  rw [defined]
  exact (if_pos on).trans (if_pos ⟨enters, was⟩)

/-- The values that take part in an evaluation of a window (R105, R119). -/
def Device.windowValues (d : Device) (f : WindowDef) : List Nat :=
  f.values (match f.source with | .latest => d.prf.latest | .filtered => d.prf.filtered)

theorem Device.windowAfter_of_off {d : Device} {scan : Nat} {n : Fin 8} (off : ∀ f, (d.window n).definition = some f → f.enabled = false) :
    d.windowAfter scan n = d.window n := by
  unfold Device.windowAfter
  cases defined : (d.window n).definition with
  | none => rfl
  | some f => exact if_neg (by rw [off f defined]; nofun)

theorem Device.windowAfter_of_on {d : Device} {scan : Nat} {n : Fin 8} {f : WindowDef} (defined : (d.window n).definition = some f)
    (on : f.enabled = true) : d.windowAfter scan n = (d.window n).evaluated f scan (d.windowValues f) := by
  unfold Device.windowAfter
  rw [defined]
  exact if_pos on

/-- What the evaluation of the windows leaves of each, and of its condition (R118, R122). -/
theorem Device.evaluateWindows_leaves (d : Device) (scan : Nat) (n : Fin 8) :
    let v := d.window n
    let u := (d.evaluateWindows scan).window n
    u = d.windowAfter scan n ∧
    (∀ f, v.definition = some f → f.enabled = true → u.state = .excursion → v.state ≠ .excursion →
      (d.entry (srcWindow n)).state = .idle →
      ((d.evaluateWindows scan).entry (srcWindow n)).value = some ((d.windowValues f).sum / (d.windowValues f).length)) ∧
    (d.evaluateWindows scan).cond (srcWindow n) = (if u.state = .excursion ∧ v.state ≠ .excursion then true
      else if v.state = .excursion ∧ u.state ≠ .excursion then false else d.cond (srcWindow n)) := by
  obtain ⟨x, prf, window, kept, becomes, kept'⟩ := d.evaluateWindows_at scan n
  have same : x.windowAfter scan n = d.windowAfter scan n := by
    unfold Device.windowAfter; rw [window, prf]
  intro v u
  have uIs : u = d.windowAfter scan n := becomes.trans same
  refine ⟨uIs, fun f defined on enters was idle => ?_, ?_⟩
  · have rises := Device.evaluateWindow_rises (d := x) (scan := scan) (by rw [window]; exact defined) on (by rw [same, ← uIs]; exact enters)
      (by rw [window]; exact was)
    have idle' : ((x.setWindowAt n (x.windowAfter scan n)).entry (srcWindow n)).state = .idle :=
      (kept.2 (by rw [idle]; nofun)).trans idle
    rw [kept'.value, rises, (Device.rise_of_idle idle' _).1, prf]
    rfl
  · refine kept'.live.trans ((x.evaluateWindow_cond scan n (srcWindow n)).trans ?_)
    rw [if_pos rfl, same, window, ← uIs]
    exact if_congr Iff.rfl rfl (if_congr Iff.rfl rfl kept.live)

/-- What one evaluation with data says (R120). -/
theorem Window.evaluated_eval {w : Window} {f : WindowDef} {scan : Nat} {values : List Nat} (data : values ≠ []) :
    (w.evaluated f scan values).eval = some ⟨scan,
      if f.high.any (fun h => decide (h < values.sum / values.length)) then .above
      else if f.low.any (fun l => decide (values.sum / values.length < l)) then .below else .within,
      some (values.sum / values.length), values.length⟩ := by
  rw [Window.evaluated, if_neg data]; rfl

/-- The values that LATEST or FILTERED gives a window (R105, R116, R119). -/
theorem WindowDef.values_latest {f : WindowDef} (source : f.source = .latest) (p : Profile) : f.values (some p) =
    (((p.slices.drop f.base).take (2 ^ f.exponent)).filter (fun x => x.valid)).filterMap (fun x => x.meas f.meas) := by
  unfold WindowDef.values WindowDef.members
  rw [source, List.filterMap_filter]
  rfl

theorem WindowDef.values_filtered {f : WindowDef} (source : f.source = .filtered) (p : Profile) : f.values (some p) =
    ((p.slices.drop f.base).take (2 ^ f.exponent)).filterMap (fun x => x.meas f.meas) := by
  unfold WindowDef.values WindowDef.members
  rw [source]
  rfl

/-! ## The report (R106) -/

section
variable {d : Device} {k : ScanSettings} {c : Completion} (active : d.trv.active = some k)
include active

theorem Device.prepareReport_none (other : k.source ≠ 1) (wanted : k.source ≠ 2 ∨ c ≠ .complete) : d.prepareReport c = d := by
  unfold Device.prepareReport Device.reportSource
  rw [active]
  dsimp only
  rw [if_neg other]
  by_cases filtered : k.source = 2
  · rw [if_pos filtered]
    exact if_pos ⟨rfl, wanted.resolve_left (not_not.mpr filtered)⟩
  · rw [if_neg filtered]

/-- A report that is due is prepared on a good link with nothing still to begin, and skipped otherwise. -/
theorem Device.prepareReport_due {p : Profile} {src : ProfileSource} (due : k.source = 1 ∧ src = .latest ∨ k.source = 2 ∧ src = .filtered ∧ c = .complete)
    (profile : d.prf.profile src = some p) : d.prepareReport c =
      if d.lnk.link = .good ∧ d.prf.report.unbegun = [] then d.setPrf { d.prf with report := ⟨p.report src, 0⟩ } else d.setPrf d.prf.skipped := by
  have source : d.reportSource = some src := by
    unfold Device.reportSource
    rw [active]
    rcases due with ⟨one, latest⟩ | ⟨two, filtered, _⟩
    · rw [latest]; exact if_pos one
    · rw [filtered]; exact (if_neg (by rw [two]; decide)).trans (if_pos two)
  unfold Device.prepareReport
  rw [source]
  dsimp only
  rw [if_neg, profile]
  rintro ⟨filtered, aborted⟩
  rcases due with ⟨_, latest⟩ | ⟨_, _, complete⟩
  · rw [latest] at filtered; nomatch filtered
  · exact aborted complete

end

/-! ## The close in stages (R97, R101) -/

section
variable (d : Device) (w : OpenScan) (c : Completion)

/-- The scan record of a close. -/
def Device.scanRecordOf : Profile := w.finish ((d.trv.active.map ScanSettings.minSamples).getD 1) d.now c

/-- FILTERED after a COMPLETE close. -/
def Device.filteredOf : Profile :=
  foldProfile d.prf.filtered d.prf.reseed ((d.trv.active.map ScanSettings.weight).getD 256) (d.scanRecordOf w c)

/-- The profiles once the scan record has become LATEST and, where it is COMPLETE, has been folded. -/
def Device.closedPrf : Prf :=
  { d.prf with
    openScan := none, latest := some (d.scanRecordOf w c),
    filtered := if c = .complete then some (d.filteredOf w c) else d.prf.filtered, reseed := if c = .complete then false else d.prf.reseed }

/-- The close up to its report. -/
def Device.closedStage : Device :=
  if c = .complete then ((d.setPrf (d.closedPrf w c)).evaluateWindows (d.scanRecordOf w c).number).countScan else d.setPrf (d.closedPrf w c)

theorem Device.closeScan_stages (stands : d.prf.openScan = some w) : d.closeScan c = (d.closedStage w c).prepareReport c := by
  rw [Device.closeScan_of_some c stands]
  by_cases complete : c = .complete
  · rw [if_pos complete, Device.closedStage, if_pos complete, Device.closedPrf, if_pos complete, if_pos complete]; rfl
  · rw [if_neg complete, Device.closedStage, if_neg complete, Device.closedPrf, if_neg complete, if_neg complete]; rfl

theorem Device.closedStage_blocks : (d.closedStage w c).prf = d.closedPrf w c ∧ (d.closedStage w c).trv = d.trv ∧
    (d.closedStage w c).lnk.link = d.lnk.link := by
  unfold Device.closedStage
  split
  · have outside : (((d.setPrf (d.closedPrf w c)).evaluateWindows (d.scanRecordOf w c).number).countScan).outside = d.outside := by simp
    obtain ⟨_, _, _, _, link, _⟩ := Device.outside_fields outside
    exact ⟨by simp, by simp, link⟩
  · exact ⟨rfl, rfl, rfl⟩

/-- What the close leaves of the blocks but the profiles and, for COMPLETE, the windows with their conditions and the scan count. -/
theorem Device.closeScan_rest (stands : d.prf.openScan = some w) : ∃ r n, d.closeScan c =
    (d.closedStage w c).setPrf { d.closedPrf w c with report := r, skip := n } := by
  obtain ⟨r, n, only⟩ := (d.closedStage w c).prepareReport_only c
  exact ⟨r, n, by rw [d.closeScan_stages w c stands, only, (d.closedStage_blocks w c).1]⟩

/-- A COMPLETE close counts for the reference set (R74), and its windows are evaluated over the profiles as the close leaves them. -/
theorem Device.closeScan_complete (stands : d.prf.openScan = some w) :
    (d.closeScan .complete).std = { d.std with ref := d.std.ref.map (fun r => { r with scansSince := min (r.scansSince + 1) 4294967295 }) } ∧
    (d.closeScan .complete).win = ((d.setPrf (d.closedPrf w .complete)).evaluateWindows w.number).win ∧
    (d.closeScan .complete).alm = ((d.setPrf (d.closedPrf w .complete)).evaluateWindows w.number).alm := by
  obtain ⟨r, n, rest⟩ := d.closeScan_rest w .complete stands
  have stage : d.closedStage w .complete = ((d.setPrf (d.closedPrf w .complete)).evaluateWindows w.number).countScan := if_pos rfl
  have std := Device.evaluateWindows_std (d.setPrf (d.closedPrf w .complete)) w.number
  rw [rest, stage]
  generalize (d.setPrf (d.closedPrf w .complete)).evaluateWindows w.number = x at std
  refine ⟨?_, rfl, rfl⟩
  change x.countScan.std = _
  rw [Device.countScan, std]; rfl

end

end Sys2Proof.Machine
end


section
/-! PROOFS. A step in SCAN: what it does at a boundary and at the range end (O23's first part). -/

namespace Sys2Proof.Machine

/-! ## The close of a scan does not see where the head stands -/

/-- The same part with another head: its traverse, its samples, and whether its states have changed. -/
def Device.steered (d : Device) (t : Trv) (a : Acq) (b : Bool) : Device := ((d.setTrv t).setAcq a).setChanged b

section
variable (d : Device) (t : Trv) (a : Acq) (b : Bool)

theorem Device.acknowledge_steered (s : Fin 24) : (d.steered t a b).acknowledge s = (d.acknowledge s).steered t a b := by
  let v := d.setEntry s { d.entry s with state := if (d.entry s).live then .standing else .idle }
  have rotates (x : Device) (alm : x.alm = v.alm) : (if x.alm.rotating then x.setAlm { x.alm with lowest := s } else x) =
      if v.alm.rotating then x.setAlm { v.alm with lowest := s } else x := by rw [alm]
  refine (rotates (v.steered t a b) rfl : (d.steered t a b).acknowledge s = _).trans ?_
  refine Eq.trans ?_ (congrArg (Device.steered · t a b) (rotates v rfl).symm)
  split <;> rfl

theorem Device.placeAlarm_steered (s : Fin 24) : (d.steered t a b).placeAlarm s = (d.placeAlarm s).steered t a b := by
  let v := (d.setLnk { d.lnk with alarmQ := d.lnk.alarmQ ++ [d.alm.notice s] }).setEntry s { d.entry s with state := .inService }
  have places : d.placeAlarm s = if d.alm.autoAck then v.acknowledge s else v := rfl
  have there : (d.steered t a b).placeAlarm s = if d.alm.autoAck then (v.steered t a b).acknowledge s else v.steered t a b := rfl
  rw [there, places, Device.acknowledge_steered]
  split <;> rfl

theorem Device.examineLoop_steered (n : Nat) : (d.steered t a b).examineLoop n = (d.examineLoop n).steered t a b := by
  induction n generalizing d with
  | zero => rfl
  | succ n ih =>
    unfold Device.examineLoop
    rw [show (d.steered t a b).alm = d.alm from rfl, show (d.steered t a b).lnk = d.lnk from rfl]
    split
    · rfl
    · split
      · rw [Device.placeAlarm_steered, ih]
      · rfl

theorem Device.rise_steered (s : Fin 24) (v : Nat) : (d.steered t a b).rise s v = (d.rise s v).steered t a b := by
  have examined (e : Device) : (e.steered t a b).examine = e.examine.steered t a b := by
    unfold Device.examine
    rw [show (e.steered t a b).alm = e.alm from rfl]
    split
    · rfl
    · exact Device.examineLoop_steered _ t a b 8
  exact examined (d.setEntry s ((d.entry s).afterRise d.now v))

theorem Device.evaluateWindow_steered (scan : Nat) (n : Fin 8) :
    (d.steered t a b).evaluateWindow scan n = (d.evaluateWindow scan n).steered t a b := by
  unfold Device.evaluateWindow
  rw [show (d.steered t a b).window n = d.window n from rfl, show (d.steered t a b).prf = d.prf from rfl]
  dsimp only
  cases (d.window n).definition with
  | none => rfl
  | some f =>
    dsimp only
    by_cases on : f.enabled = true
    · rw [if_pos on, if_pos on]
      generalize WindowDef.values f _ = values
      generalize (d.window n).evaluated f scan values = u
      rw [show (d.steered t a b).setWindowAt n u = (d.setWindowAt n u).steered t a b from rfl]
      by_cases enters : u.state = .excursion ∧ (d.window n).state ≠ .excursion
      · rw [if_pos enters, if_pos enters, Device.rise_steered]
      · rw [if_neg enters, if_neg enters]
        by_cases leaves : (d.window n).state = .excursion ∧ u.state ≠ .excursion
        · rw [if_pos leaves, if_pos leaves]; rfl
        · rw [if_neg leaves, if_neg leaves]
    · rw [if_neg on, if_neg on]

theorem Device.evaluateWindows_steered (scan : Nat) : (d.steered t a b).evaluateWindows scan = (d.evaluateWindows scan).steered t a b := by
  unfold Device.evaluateWindows
  induction allEight generalizing d with
  | nil => rfl
  | cons n l ih => rw [List.foldl_cons, Device.evaluateWindow_steered, ih]; rfl

/-- The close reads the settings of the traverse alone. -/
theorem Device.closeScan_steered {t : Trv} (active : t.active = d.trv.active) (c : Completion) :
    (d.steered t a b).closeScan c = (d.closeScan c).steered t a b := by
  cases stands : d.prf.openScan with
  | none => rw [Device.closeScan_of_none c stands, Device.closeScan_of_none c (d := d.steered t a b) stands]
  | some w =>
    have scan : (d.steered t a b).scanRecordOf w c = d.scanRecordOf w c := by
      unfold Device.scanRecordOf
      rw [show (d.steered t a b).trv = t from rfl, active]; rfl
    have prf : (d.steered t a b).closedPrf w c = d.closedPrf w c := by
      unfold Device.closedPrf Device.filteredOf
      rw [scan, show (d.steered t a b).trv = t from rfl, active]; rfl
    have stage : (d.steered t a b).closedStage w c = (d.closedStage w c).steered t a b := by
      unfold Device.closedStage
      rw [prf, scan, show (d.steered t a b).setPrf (d.closedPrf w c) = (d.setPrf (d.closedPrf w c)).steered t a b from rfl,
        Device.evaluateWindows_steered]
      generalize (d.setPrf (d.closedPrf w c)).evaluateWindows (d.scanRecordOf w c).number = x
      split <;> rfl
    have settings : (d.closedStage w c).trv.active = t.active := by rw [(d.closedStage_blocks w c).2.1, active]
    rw [Device.closeScan_stages _ w c stands, Device.closeScan_stages (d.steered t a b) w c stands, stage]
    generalize d.closedStage w c = x at settings
    have source : (x.steered t a b).reportSource = x.reportSource := by
      unfold Device.reportSource
      rw [show (x.steered t a b).trv = t from rfl, settings]
    unfold Device.prepareReport
    rw [source, show (x.steered t a b).lnk = x.lnk from rfl, show (x.steered t a b).prf = x.prf from rfl]
    repeat' split
    all_goals rfl

end

/-! ## What a close tells the host -/

theorem Device.evaluateWindows_tells (d : Device) (scan : Nat) : (d.evaluateWindows scan).tells d [] := by
  unfold Device.evaluateWindows
  induction allEight generalizing d with
  | nil => exact Device.tells_of_lnk rfl
  | cons n l ih =>
    have first : (d.evaluateWindow scan n).tells d [] := Device.tells_of_lessAlarms (d.evaluateWindow_lessAlarms scan n) rfl
    exact (Device.tells_trans first (ih _) :)

/-- A close tells the host nothing but alarms; its report waits in the profile block. -/
theorem Device.closeScan_tells (d : Device) (c : Completion) : (d.closeScan c).tells d [] := by
  cases stands : d.prf.openScan with
  | none => rw [Device.closeScan_of_none c stands]; exact Device.tells_of_lnk rfl
  | some w =>
    obtain ⟨r, n, rest⟩ := d.closeScan_rest w c stands
    rw [rest]
    refine Device.tells_of_same (e := d.closedStage w c) ?_ rfl
    unfold Device.closedStage
    split
    · have told := Device.evaluateWindows_tells (d.setPrf (d.closedPrf w c)) (d.scanRecordOf w c).number
      generalize (d.setPrf (d.closedPrf w c)).evaluateWindows (d.scanRecordOf w c).number = x at told
      exact Device.tells_of_same (e := x) (Device.tells_from told rfl) rfl
    · exact Device.tells_of_lnk rfl

/-! ## The entry to TURN (R30, R31, R36, R37) -/

/-- An entry to a state for which the shutter stands as it has to. -/
theorem Device.goTo_steered {d : Device} {st : TravState} (same : d.trv.openCmd = st.opens) : d.goTo st =
    d.steered { d.trv with state := st, resume := if st = .halted ∨ st = .approach then none else d.trv.resume }
      { d.acq with sample := none, sampleTimer := none, next := none } true := if_pos same

/-- The head brakes; it runs back, or the plan is over and, with automatic reload, a standardize is due (R31, R32, R33). -/
theorem Device.chooseTurn_eq (d : Device) : d.chooseTurn = d.setTrv { d.trv with
    target := 0, motion := .braking (decide (d.trv.planCount = 0)),
    scanDir := if d.trv.planCount = 0 then d.trv.scanDir else d.trv.scanDir.opposite,
    op := d.trv.op.map (fun o => if d.trv.planCount = 0 ∧ (d.trv.active.map ScanSettings.autoReload).getD false = true then
      { o with stdDue := true, reloadDue := true } else o) } := by
  unfold Device.chooseTurn
  by_cases over' : d.trv.planCount = 0
  · simp [over']
  · simp [over']

/-- FILTERED after the application of pending settings: emptied where they cut the sheet otherwise (R36, R104). -/
theorem Device.applyPending_epoch {d : Device} {q : Byte × ScanSettings} {f : FrameRecord} (pending : d.trv.pending = some q)
    (frame : d.trv.frame = some f) : d.applyPending.prf =
      if d.cutsAs q.2 (effectiveRange f q.2) then d.prf else { d.prf with filtered := none, reseed := true } := by
  have taken := Device.applySettings_eq (d := d.setTrv { d.trv with pending := none }) frame q.2
  rw [Device.applyPending_of_some (tag := q.1) (s := q.2) pending, Device.offerDone_prf, taken]
  exact (apply_ite Device.prf _ _ _).trans rfl

section
variable {d : Device}

/-- The entry to TURN with its scan closed and counted, before what is pending is applied. -/
def Device.turnStage (d : Device) : Device :=
  (d.closeScan .complete).steered
    { d.trv with state := .turn, planCount := d.trv.planCount - 1 } { d.acq with sample := none, sampleTimer := none, next := none } true

theorem Device.enterTurn_eq (opened : d.trv.openCmd = true) : d.enterTurn = d.turnStage.applyPending.chooseTurn := by
  have closes := Device.closeScan_steered d { d.acq with sample := none, sampleTimer := none, next := none } true
    (t := { d.trv with state := .turn }) rfl .complete
  unfold Device.enterTurn
  rw [Device.goTo_steered (st := .turn) opened]
  exact congrArg (fun e : Device => e.countPlan.applyPending.chooseTurn) closes

/-- What the entry to TURN leaves beside the close of the scan. -/
theorem Device.enterTurn_leaves (opened : d.trv.openCmd = true) : let e := d.enterTurn
    let z := d.closeScan .complete
    let t := { d.trv with state := .turn, planCount := d.trv.planCount - 1 }.withPending
    e.trv = { t with
      target := 0, motion := .braking (decide (t.planCount = 0)), scanDir := if t.planCount = 0 then t.scanDir else t.scanDir.opposite,
      op := t.op.map (fun o => if t.planCount = 0 ∧ (t.active.map ScanSettings.autoReload).getD false = true then
        { o with stdDue := true, reloadDue := true } else o) } ∧
    e.acq = { d.acq with sample := none, sampleTimer := none, next := none } ∧
    e.prf = d.turnStage.applyPending.prf ∧ (e.prf = z.prf ∨ e.prf = { z.prf with filtered := none, reseed := true }) ∧
    e.win = z.win ∧ e.std = z.std ∧ e.alm = z.alm ∧ e.cnv = z.cnv ∧ e.brk = d.brk ∧ e.pins = d.pins ∧ e.tells d (d.appliedDone 6) := by
  intro e z t
  have told : d.turnStage.applyPending.tells d (d.appliedDone 6) := by
    have k := Device.tells_from (d := d.closeScan .complete) d.turnStage.applyPending_tells rfl
    have k := Device.tells_trans (d.closeScan_tells .complete) k
    have same : d.turnStage.appliedDone 6 = d.appliedDone 6 :=
      Device.appliedDone_congr (show d.turnStage.trv.pending = d.trv.pending from rfl) rfl 6
    rw [List.nil_append, show d.turnStage.trv.state.code = 6 from rfl, same] at k
    exact k
  have trv : d.turnStage.applyPending.trv = t := Device.applyPending_trv _
  have blocks : d.turnStage.prf = z.prf ∧ d.turnStage.win = z.win ∧ d.turnStage.std = z.std ∧ d.turnStage.alm = z.alm ∧
    d.turnStage.cnv = z.cnv ∧ d.turnStage.brk = z.brk ∧ d.turnStage.pins = z.pins := ⟨rfl, rfl, rfl, rfl, rfl, rfl, rfl⟩
  obtain ⟨prf, win, std, alm, cnv, brk, pins⟩ := blocks
  have acq : d.turnStage.acq = { d.acq with sample := none, sampleTimer := none, next := none } := rfl
  have ends : e = d.turnStage.applyPending.chooseTurn := Device.enterTurn_eq opened
  have epoch := d.turnStage.applyPending_prf
  rw [ends, Device.chooseTurn_eq, trv]
  have zBrk : z.brk = d.brk := d.closeScan_brk .complete
  have zPins : z.pins = d.pins := d.closeScan_pins .complete
  clear_value z t
  generalize d.turnStage = y at *
  refine ⟨rfl, (y.applyPending_acq).trans acq, rfl, ?_, (y.applyPending_win).trans win, (y.applyPending_std).trans std,
    (y.applyPending_alm).trans alm, (y.applyPending_cnv).trans cnv, (y.applyPending_brk).trans (brk.trans zBrk),
    (y.applyPending_pins).trans (pins.trans zPins), Device.tells_of_same told rfl⟩
  rw [prf] at epoch
  exact epoch

end

/-! ## A boundary (R49, R52, R93) -/

section
variable {d : Device}

theorem Device.openAtBoundary_eq {r : EffRange} {p : Nat} (gate : d.gate = some (r, p)) (n : Nat) : d.openAtBoundary n = d.setAcq { d.acq with
    next := nextBoundary d.trv.scanDir r p n, sample := some ⟨.position, d.trv.counter, d.clk, 0, 0, 0, 0, 0, d.pins.sp, false, false⟩ } := by
  unfold Device.openAtBoundary
  rw [gate]; rfl

/-- A record of a scan: it counts for its tables, joins the open scan, and goes through the channel supervision. -/
theorem Device.handScanRecord_leaves (q : Sample) : let e := d.handScanRecord q
    let record := convertRecord d.cnv d.std.ref true q
    e.trv = d.trv ∧ e.std = d.std ∧ e.brk = d.brk ∧ e.win = d.win ∧ e.pins = d.pins ∧ e.clk = d.clk ∧
    e.prf = { d.prf with openScan := d.prf.openScan.map (fun w => w.take record) } ∧ e.cnv = d.cnv.counted record ∧ e.tells d [] ∧
    e.supervisedFrom d q ∧ ∀ i, i ≠ srcChannelFault → e.entryKept d i := by
  intro e record
  let y := (d.setCnv (d.cnv.counted record)).placeRecord record
  have hands : e = y.recordClosed q := rfl
  obtain ⟨trv, std, prf, cnv, tells, -, -⟩ := y.recordClosed_leaves q
  obtain ⟨clk, -, pins, brk, -⟩ := Device.outside_fields (y.recordClosed_outside q)
  have win : (y.recordClosed q).win = y.win := by simp [Device.recordClosed]
  rw [hands]
  exact ⟨trv, std, brk, win, pins, clk, prf, cnv, Device.tells_from tells rfl,
    Device.recordClosed_supervised (Device.entryKept_of_alm rfl) rfl rfl q,
    fun i other => (Device.recordClosed_entryKept q other).trans (Device.entryKept_of_alm rfl)⟩

theorem Device.crossBoundary_of_none (none : d.acq.sample = none) : d.crossBoundary = d.openAtBoundary d.trv.counter := by
  unfold Device.crossBoundary; rw [none]

theorem Device.crossBoundary_of_some {o : OpenSample} (open' : d.acq.sample = some o) :
    d.crossBoundary = (d.handScanRecord (d.closing o)).openAtBoundary d.trv.counter := by
  unfold Device.crossBoundary; rw [open']

/-- What a boundary leaves whether or not a sample was open: the next sample, and where it closes. -/
theorem Device.crossBoundary_leaves {r : EffRange} {p : Nat} (gate : d.gate = some (r, p)) : let e := d.crossBoundary
    e.acq.sample = some ⟨.position, d.trv.counter, d.clk, 0, 0, 0, 0, 0, d.pins.sp, false, false⟩ ∧
    e.acq.next = nextBoundary d.trv.scanDir r p d.trv.counter ∧ e.trv = d.trv ∧ e.std = d.std ∧ e.brk = d.brk ∧ e.win = d.win ∧
    e.pins = d.pins ∧ e.prf.latest = d.prf.latest ∧ e.tells d [] := by
  intro e
  cases sample : d.acq.sample with
  | none =>
    rw [show e = _ from (Device.crossBoundary_of_none sample).trans (Device.openAtBoundary_eq gate _)]
    exact ⟨rfl, rfl, rfl, rfl, rfl, rfl, rfl, rfl, Device.tells_of_lnk rfl⟩
  | some o =>
    obtain ⟨trv, std, brk, win, pins, clk, prf, -, tells, -⟩ := d.handScanRecord_leaves (d.closing o)
    have gate' : (d.handScanRecord (d.closing o)).gate = some (r, p) := by
      unfold Device.gate at gate ⊢
      rw [trv]; exact gate
    rw [show e = _ from (Device.crossBoundary_of_some sample).trans (Device.openAtBoundary_eq gate' _), trv, clk, pins]
    exact ⟨rfl, rfl, trv, std, brk, win, pins, (congrArg Prf.latest prf :), Device.tells_of_same tells rfl⟩

/-- The record that a boundary closes (R52, R91, R93). -/
theorem Device.crossBoundary_records {r : EffRange} {p : Nat} (gate : d.gate = some (r, p)) {o : OpenSample} (open' : d.acq.sample = some o) :
    let e := d.crossBoundary
    let record := convertRecord d.cnv d.std.ref true (d.closing o)
    e.supervisedFrom d (d.closing o) ∧ e.cnv = d.cnv.counted record ∧ (∀ i, i ≠ srcChannelFault → e.entryKept d i) ∧
    e.prf.openScan = d.prf.openScan.map (fun w => w.take record) := by
  intro e record
  obtain ⟨trv, -, -, -, -, -, prf, cnv, -, supervised, kept⟩ := d.handScanRecord_leaves (d.closing o)
  have gate' : (d.handScanRecord (d.closing o)).gate = some (r, p) := by
    unfold Device.gate at gate ⊢
    rw [trv]; exact gate
  rw [show e = _ from (Device.crossBoundary_of_some open').trans (Device.openAtBoundary_eq gate' _)]
  exact ⟨supervised, cnv, fun i other => (Device.entryKept_of_alm rfl).trans (kept i other), (congrArg Prf.openScan prf :)⟩

end

/-! ## A step in SCAN (R29, R30) -/

theorem Device.afterStep_scan {d : Device} (state : d.trv.state = .scan) (up : Bool) : d.afterStep up =
    if (if up then .ds else .ts) = d.trv.scanDir then
      if (if d.acq.next = some d.trv.counter then d.crossBoundary else d).atRangeEnd (if up then .ds else .ts) then
        (if d.acq.next = some d.trv.counter then d.crossBoundary else d).enterTurn
      else (if d.acq.next = some d.trv.counter then d.crossBoundary else d)
    else d := by
  unfold Device.afterStep; rw [state]

theorem Device.atRangeEnd_iff {d : Device} {r : EffRange} (range : d.trv.range = some r) (up : Bool) :
    d.atRangeEnd (if up then .ds else .ts) = true ↔ if up then r.high ≤ d.trv.counter else (d.trv.counter : Int) ≤ r.low := by
  unfold Device.atRangeEnd
  rw [range]
  cases up <;> exact decide_eq_true_iff

theorem nextBoundary_up (up : Bool) (r : EffRange) (p n : Nat) : nextBoundary (if up then .ds else .ts) r p n =
    if up then (if (n : Int) + p ≤ r.high then some (n + p) else none) else if r.low + p ≤ n then some (n - p) else none := by
  cases up <;> simp [nextBoundary]

/-- The same cuts and the same range (R36), in the fields of the settings. -/
theorem Device.cutsAs_of_some {d : Device} {k x : ScanSettings} {r q : EffRange} (active : d.trv.active = some k) (range : d.trv.range = some r) :
    d.cutsAs x q = true ↔ k.pitch = x.pitch ∧ k.p0 = x.p0 ∧ k.width = x.width ∧ k.count = x.count ∧ r.low = q.low ∧ r.high = q.high := by
  unfold Device.cutsAs
  rw [active, range]
  simp only [ScanSettings.sameCuts, EffRange.sameEnds, Bool.and_eq_true, decide_eq_true_iff, and_assoc]

theorem Trv.withPending_of_some {t : Trv} {q : Byte × ScanSettings} (pending : t.pending = some q) :
    t.withPending.active = some q.2 ∧ t.withPending.planCount = min t.planCount q.2.base := by
  unfold Trv.withPending; rw [pending]; exact ⟨rfl, rfl⟩

end Sys2Proof.Machine
end


section
/-! PROOFS. Steps in SCAN, their records, and the close of a scan (O23). -/

namespace Sys2Proof.Machine

/-- Settles O23: a step by its direction and by where it comes to, a record by its slice, a close by its completion. -/
theorem scanningSteps : Obligations.ScanningSteps := by
  unfold Obligations.ScanningSteps
  refine ⟨?steps, ?take, ?close⟩
  case take =>
    intro w r sized cut mid plus add
    have adds (a : SliceAcc) : a.take r = add a := a.take_eq r
    simp only [← adds]
    exact OpenScan.take_eq sized cut r
  case close =>
    intro d w k c stands active e mean slice summary slices valid scan some5 moved first next holding filtered
    have minSamples : (d.trv.active.map ScanSettings.minSamples).getD 1 = k.minSamples := by rw [active]; rfl
    have weight : (d.trv.active.map ScanSettings.weight).getD 256 = k.weight := by rw [active]; rfl
    have sliceIs : (fun a : SliceAcc => a.finish k.minSamples) = slice := funext fun a => a.finish_eq k.minSamples
    have summaryIs : meanRange = summary := funext meanRange_eq
    have scanIs : d.scanRecordOf w c = scan := by
      unfold Device.scanRecordOf
      rw [minSamples]
      unfold OpenScan.finish
      rw [sliceIs, summaryIs]
    have holds (start : Nat) (l : List Slice) : scan.summarized start l = holding start l := by
      unfold Profile.summarized
      rw [summaryIs]
    have filteredIs : d.filteredOf w c = filtered := by
      unfold Device.filteredOf foldProfile
      rw [scanIs, weight]
      simp only [filtered]
      have folds : Slice.folded k.weight = next := rfl
      have reseeds : Slice.reseeded = first := rfl
      rw [folds, reseeds]
      cases d.prf.filtered with
      | none => exact holds _ _
      | some f => exact if_congr Iff.rfl (holds _ _) (holds _ _)
    obtain ⟨r, skips, rest⟩ := d.closeScan_rest w c stands
    have stages := d.closeScan_stages w c stands
    obtain ⟨sPrf, sTrv, sLink⟩ := d.closedStage_blocks w c
    have eIs : e = d.closeScan c := rfl
    have sActive : (d.closedStage w c).trv.active = some k := by rw [sTrv]; exact active
    clear_value e
    refine ⟨by rw [eIs, rest]; rfl, by rw [eIs, rest, ← scanIs]; rfl, by rw [eIs, rest]; rfl, by rw [eIs, rest]; rfl, by rw [eIs, rest]; rfl,
      by simp [eIs], by simp [eIs], by simp [eIs], by simp [eIs], by simp [eIs], fun aborted => ?_, fun complete => ?_, fun other wanted => ?_,
      fun due => ?_⟩
    · rw [eIs, rest, Device.closedStage, if_neg aborted, Device.closedPrf, if_neg aborted, if_neg aborted]
      exact ⟨rfl, rfl, rfl, rfl, rfl, rfl⟩
    · subst complete
      obtain ⟨std, win, alm⟩ := d.closeScan_complete w stands
      have filteredNow : (d.closedPrf w .complete).filtered = some filtered := congrArg some filteredIs
      have latestNow : (d.closedPrf w .complete).latest = some scan := congrArg some scanIs
      refine ⟨by rw [eIs, rest]; exact filteredNow, by rw [eIs, rest]; rfl, by rw [eIs]; exact std, fun n => ?_⟩
      obtain ⟨uIs, value, cond⟩ := (d.setPrf (d.closedPrf w .complete)).evaluateWindows_leaves w.number n
      have window : e.window n = ((d.setPrf (d.closedPrf w .complete)).evaluateWindows w.number).window n := by
        rw [eIs, Device.window, win]; rfl
      have entry : e.entry (srcWindow n) = ((d.setPrf (d.closedPrf w .complete)).evaluateWindows w.number).entry (srcWindow n) := by
        rw [eIs]; exact Device.entry_congr _ alm
      rw [window, entry, Device.cond_of_entry entry]
      refine ⟨fun off => uIs.trans (Device.windowAfter_of_off off), fun f defined on => ?_, cond⟩
      have valuesIs : (d.setPrf (d.closedPrf w .complete)).windowValues f = match f.source with
          | .latest => (((slices.drop f.base).take (2 ^ f.exponent)).filter (fun x => x.valid)).filterMap (fun x => x.meas f.meas)
          | .filtered => ((filtered.slices.drop f.base).take (2 ^ f.exponent)).filterMap (fun x => x.meas f.meas) := by
        unfold Device.windowValues
        cases source : f.source with
        | latest => exact (congrArg f.values latestNow).trans (WindowDef.values_latest source scan)
        | filtered => exact (congrArg f.values filteredNow).trans (WindowDef.values_filtered source filtered)
      intro given values
      have givenIs : (fun x : Slice => x.meas f.meas) = given := by
        funext x
        simp only [given]
        cases f.meas <;> rfl
      have same : (d.setPrf (d.closedPrf w .complete)).windowValues f = values := by
        rw [valuesIs, givenIs] <;> simp only [values] <;> cases f.source <;> rfl
      rw [← same]
      intro average
      have becomes := uIs.trans (Device.windowAfter_of_on (scan := w.number) defined on)
      refine ⟨becomes, fun none => ?_, fun data => ?_, fun enters was idle => value f defined on enters was idle⟩
      · exact becomes.trans (if_pos none)
      · rw [becomes]; exact Window.evaluated_eval data
    · rw [eIs, stages, Device.prepareReport_none sActive other wanted, sPrf]
      exact ⟨rfl, rfl⟩
    · have sends {p : Profile} {src : ProfileSource} (profile : (d.closedPrf w c).profile src = some p) (map : p.map = w.map)
          (wanted : k.source = 1 ∧ src = .latest ∨ k.source = 2 ∧ src = .filtered ∧ c = .complete) :
          if d.lnk.link = .good ∧ d.prf.report.unbegun = [] then
            e.prf.report = ⟨⟨0xC5, 0, p.header src true 0⟩ ::
              (List.range ((w.map.count + 19) / 20)).map (fun i => ⟨0xC6, 0, p.segment src i⟩), 0⟩ ∧ e.prf.skip = d.prf.skip
          else e.prf.report = d.prf.report ∧ e.prf.skip = min (d.prf.skip + 1) 65535 := by
        rw [eIs, stages, Device.prepareReport_due sActive wanted (by rw [sPrf]; exact profile), sPrf, sLink]
        by_cases good : d.lnk.link = .good ∧ d.prf.report.unbegun = []
        · rw [if_pos good, if_pos (show d.lnk.link = .good ∧ (d.closedPrf w c).report.unbegun = [] from good)]
          refine ⟨?_, rfl⟩
          rw [← map]; rfl
        · rw [if_neg good, if_neg (show ¬(d.lnk.link = .good ∧ (d.closedPrf w c).report.unbegun = []) from good)]
          exact ⟨rfl, rfl⟩
      intro p src
      by_cases one : k.source = 1
      · have pIs : p = scan := if_pos one
        have srcIs : src = .latest := if_pos one
        rw [pIs, srcIs]
        exact sends (congrArg some scanIs) rfl (.inl ⟨one, rfl⟩)
      · obtain ⟨two, complete⟩ := due.resolve_left one
        have pIs : p = filtered := if_neg one
        have srcIs : src = .filtered := if_neg one
        have map : filtered.map = w.map := by
          simp only [filtered]
          cases d.prf.filtered with
          | none => rfl
          | some f => exact (apply_ite Profile.map _ _ _).trans (ite_self _)
        rw [pIs, srcIs]
        exact sends ((if_pos complete).trans (congrArg some filteredIs)) map (.inr ⟨two, rfl, complete⟩)
  case steps =>
    intro s dt a b r k d up n a0 b0 last legal dir count pos room awake state opened range active m forward atEnd
    have row {e : Device} (acts : m.afterStep up = e) : exec (.legalStep dt a b) s = s.ends e :=
      exec_ends (row_legalStep ..) awake ((Device.sampleEncoder_inside last legal dir count pos room).trans acts)
    have steps := Device.afterStep_scan (d := m) state up
    have ahead : forward ↔ (if up then .ds else .ts) = m.trv.scanDir := by
      show (up = true ↔ d.trv.scanDir = .ds) ↔ _ = d.trv.scanDir
      cases up <;> cases d.trv.scanDir <;> decide
    have gate : m.gate = some (r, k.pitch) := by
      unfold Device.gate
      rw [show m.trv.range = some r from range, show m.trv.active = some k from active]
    obtain ⟨sample, next, trv, std, brk, win, pins, latest, tells⟩ := Device.crossBoundary_leaves gate
    have ends : m.atRangeEnd (if up then .ds else .ts) = true ↔ atEnd := Device.atRangeEnd_iff (d := m) range up
    have ends' : m.crossBoundary.atRangeEnd (if up then .ds else .ts) = true ↔ atEnd := by
      have same := Device.atRangeEnd_iff (d := m.crossBoundary) (r := r) (by rw [trv]; exact range) up
      rw [trv] at same
      exact same
    refine ⟨fun against => row (steps.trans (if_neg (mt ahead.mpr against))), fun forward short off => ?_, fun forward short here => ?_,
      fun forward here => ⟨sample, next.trans ?_, trv, std, brk, win, pins, latest, Device.tells_from tells rfl, fun none => ?_, fun o found => ?_⟩,
      fun forward past => ?_⟩
    · refine row ((steps.trans (if_pos (ahead.mp forward))).trans ?_)
      rw [if_neg (show ¬m.acq.next = some m.trv.counter from off)]
      exact if_neg (mt ends.mp short)
    · refine row ((steps.trans (if_pos (ahead.mp forward))).trans ?_)
      rw [if_pos (show m.acq.next = some m.trv.counter from here)]
      exact if_neg (mt ends'.mp short)
    · rw [← ahead.mp forward]
      exact nextBoundary_up up r k.pitch n
    · rw [(Device.crossBoundary_of_none (d := m) none).trans (Device.openAtBoundary_eq gate _)]
      exact ⟨rfl, rfl, rfl, rfl, rfl⟩
    · intro q record
      obtain ⟨supervised, cnv, kept, openScan⟩ := Device.crossBoundary_records gate found
      exact ⟨supervised, cnv, fun i other => ⟨(kept i other).live, (kept i other).value⟩, openScan⟩
    · let x := if d.acq.next = some n then m.crossBoundary else m
      have turns : x.trv = m.trv ∧ x.brk = d.brk ∧ x.pins = d.pins ∧ x.tells d [] ∧ m.afterStep up = x.enterTurn := by
        by_cases here : d.acq.next = some n
        · rw [show x = m.crossBoundary from if_pos here]
          refine ⟨trv, brk, pins, Device.tells_from tells rfl, (steps.trans (if_pos (ahead.mp forward))).trans ?_⟩
          rw [if_pos (show m.acq.next = some m.trv.counter from here)]
          exact if_pos (ends'.mpr past)
        · rw [show x = m from if_neg here]
          refine ⟨rfl, rfl, rfl, Device.tells_of_lnk rfl, (steps.trans (if_pos (ahead.mp forward))).trans ?_⟩
          rw [if_neg (show ¬m.acq.next = some m.trv.counter from here)]
          exact if_pos (ends.mpr past)
      obtain ⟨xTrv, xBrk, xPins, xTells, acts⟩ := turns
      refine ⟨x.enterTurn, row acts, ?_⟩
      intro x' 
      have same : x' = x := rfl
      clear_value x'
      subst same
      clear_value x
      obtain ⟨eTrv, eAcq, ePrf, epoch, eWin, eStd, eAlm, eCnv, eBrk, ePins, told⟩ := x.enterTurn_leaves (by rw [xTrv]; exact opened)
      have settings : x.enterTurn.trv.active = ({ x.trv with state := .turn, planCount := x.trv.planCount - 1 } : Trv).withPending.active ∧
          x.enterTurn.trv.planCount = ({ x.trv with state := .turn, planCount := x.trv.planCount - 1 } : Trv).withPending.planCount := by
        rw [eTrv]; exact ⟨rfl, rfl⟩
      obtain ⟨active', range', plan', applied⟩ := Trv.withPending_eq { x.trv with state := .turn, planCount := x.trv.planCount - 1 }
      rw [applied, xTrv] at eTrv
      generalize x.enterTurn = e at *
      refine ⟨(congrArg Trv.state eTrv :), (congrArg Trv.counter eTrv :), (congrArg Trv.target eTrv :), (congrArg Trv.openCmd eTrv :).trans opened,
        (congrArg Trv.pending eTrv :), ?_⟩
      intro z
      have profiles : e.prf.openScan = none ∧ e.prf.latest = z.prf.latest ∧ e.prf.report = z.prf.report ∧ e.prf.skip = z.prf.skip := by
        rcases epoch with h | h <;> rw [h] <;> exact ⟨x.closeScan_openScan .complete, rfl, rfl, rfl⟩
      obtain ⟨openScan, latest, report, skip⟩ := profiles
      refine ⟨openScan, latest, report, skip, eWin, eStd, eAlm, eCnv, fun none => ?_, fun q f pending frame => ?_, eAcq, ?_,
        (congrArg Trv.enable eTrv :), (congrArg Trv.commanded eTrv :), eBrk.trans xBrk, ePins.trans xPins, fun none => ?_, fun q pending => ?_, by rw [eTrv],
        by rw [eTrv]; rfl, by rw [eTrv]; rfl⟩
      · rw [ePrf, Device.applyPending_of_none (show x.turnStage.trv.pending = .none from (congrArg Trv.pending xTrv).trans none)]
        exact ⟨rfl, rfl⟩
      · intro turn
        have cuts := Device.cutsAs_of_some (d := x.turnStage) (x := q.2) (q := effectiveRange f q.2)
          ((congrArg Trv.active xTrv).trans active) ((congrArg Trv.range xTrv).trans range)
        rw [ePrf, Device.applyPending_epoch (d := x.turnStage) ((congrArg Trv.pending xTrv).trans pending) ((congrArg Trv.frame xTrv).trans frame)]
        by_cases kept : x.turnStage.cutsAs q.2 (effectiveRange f q.2) = true
        · rw [if_pos kept]
          exact (if_pos (cuts.mp kept)).mpr ⟨rfl, rfl⟩
        · rw [if_neg kept]
          exact (if_neg (mt cuts.mpr kept)).mpr ⟨rfl, rfl⟩
      · have k := Device.tells_trans xTells told
        rwa [List.nil_append, Device.appliedDone_congr (show x.trv.pending = d.trv.pending from (congrArg Trv.pending xTrv :))
          (show x.trv.frame = d.trv.frame from (congrArg Trv.frame xTrv :)) 6] at k
      · rw [Trv.withPending_of_none (t := { x.trv with state := .turn, planCount := x.trv.planCount - 1 })
          ((congrArg Trv.pending xTrv).trans none)] at settings
        exact ⟨settings.1.trans ((congrArg Trv.active xTrv).trans active), settings.2.trans (congrArg (fun t : Trv => t.planCount - 1) xTrv :)⟩
      · obtain ⟨becomes, plan⟩ := Trv.withPending_of_some (t := { x.trv with state := .turn, planCount := x.trv.planCount - 1 })
          ((congrArg Trv.pending xTrv).trans pending)
        exact ⟨settings.1.trans becomes, (settings.2.trans plan).trans (congrArg (fun t : Trv => min (t.planCount - 1) q.2.base) xTrv :)⟩

end Sys2Proof.Machine
end
